-- ==== Sys2Proof/Word.lean ====
section
/-! DEFINITION. The word types of the NK32 and nothing else: what the manual treats as bits. -/

namespace Sys2Proof

/-- One byte of a frame body or of a port message. -/
abbrev Byte := BitVec 8

/-- Service time: the 24-bit count of ticks, which wraps (00 section 0.7). -/
abbrev Tick := BitVec 24

/-- A clock reading or a frame's Stamp: 24 bits of tick, then 8 bits of fraction (R3, R21). -/
abbrev Stamp := BitVec 32

/-- A Link address (R21, R56). -/
abbrev Addr := BitVec 6

/-- A station class (R21, R56). -/
abbrev ClassNo := BitVec 4

/-- A ticket serial (section 5.2). -/
abbrev Serial := BitVec 16

/-- A formation sequence (R109). -/
abbrev Seq := BitVec 16

end Sys2Proof
end

