-- ==== Sys2Proof/Syntax.lean ====
section
/-! DEFINITION. The commands: one constructor of `Instr` for each row of spec/opcode_table.json, with the operands that
the Link, the pins, the crystal or the host bring with it (the table gives none: log entry 2, DESIGN CHOICE). -/

namespace Sys2Proof

/-- One of the two Link wires. -/
inductive Wire where
  | a | b
  deriving DecidableEq, Repr

/-- The fate of an own frame (R34). -/
inductive Fate where
  | accepted | rejected | brokenOff
  deriving DecidableEq, Repr

/-- What a slot reads: 1, 0, or a coding violation (R18). -/
inductive SlotReading where
  | one | zero | violation
  deriving DecidableEq, Repr

/-- A level of the line (R18). -/
inductive Level where
  | dominant | recessive
  deriving DecidableEq, Repr

/-- A slot as a receiver sees it: the levels of its two halves (R18). -/
structure Slot where
  first  : Level
  second : Level
  deriving DecidableEq, Repr

/-- The two findings of R51. -/
inductive DownCause where
  | stuckDominant | bothFailed
  deriving DecidableEq, Repr

/-- The stages of a received frame at which a station acts (R20, R23, R28, R33). -/
inductive RxStage where
  | start | bodyEnd | reply | accept
  deriving DecidableEq, Repr

/-- A frame's fields as the slots read (R21), the kind bits included. -/
structure RawFrame where
  kind   : BitVec 3
  sender : Addr
  cls    : ClassNo
  stamp  : Stamp
  length : BitVec 6
  body   : List Byte
  check  : BitVec 16
  deriving DecidableEq, Repr

/-- What passes before a start slot: the crystal counts in the current tick (R1), and the slot times without an edge since
the last that were counted (R19). -/
structure Wait where
  elapsed : Nat
  slots   : Nat
  deriving DecidableEq, Repr

/-- The silence count of each single-wire receiver, as it stands at the end of what a command brings (R48). -/
structure Silences where
  silentA : Fin 17
  silentB : Fin 17
  deriving DecidableEq, Repr

/-- What the wires showed of a frame the station followed: the silence counts, and whether the two wires read alike in both
halves of every slot of it (R48, R50). -/
structure Followed extends Silences where
  agree : Bool
  deriving DecidableEq, Repr

/-- The start slot of an own frame: what passes before it, and the silence counts once it has begun (R26, R48). -/
structure OwnStart extends Wait, Silences where
  deriving DecidableEq, Repr

/-- What the station hears of a frame: what passes before its start slot, the crystal counts that then pass up to the end of
what this command brings, the stage up to which it brings the frame, the slots of the fields from Kind to Check, of the
reply gap, the SHORT slot of a TICKET, the accept slot (R18, R21, R28), and what the wires showed (R48, R50). -/
structure Heard extends Wait, Followed where
  lasted : Nat
  upTo   : RxStage
  fields : List Slot
  gap    : Vector Slot 4
  short  : Slot
  final  : Slot
  deriving DecidableEq, Repr

/-- The six taker slots and the two reply-check slots of an OFFER (R18, R30, R31). -/
structure OfferReply where
  takerSlots : Vector Slot 6
  checkSlots : Vector Slot 2
  deriving DecidableEq, Repr

/-- A wire's failure: the other wire's silence count, and whether an own frame then stands in its reply gap or later
(R49, R54). -/
structure Failure where
  other : Fin 2
  inGap : Bool
  deriving DecidableEq, Repr

/-- A valid frame that ends in DOWN: the wire that carried it, and the silence count of the other (R48, R52). -/
structure Seen where
  wire  : Wire
  other : Fin 17
  deriving DecidableEq, Repr

/-- The commands of the NK32. -/
inductive Instr where
  | reset (addr : Addr) (cls : ClassNo)
  | tickBoundary
  | periodEnd
  | markPlace
  | contend (start : OwnStart)
  | arbitrationLost
  | ownBitError (inGap : Bool) (line : Followed)
  | frameCodingViolation (wait : Wait) (line : Followed)
  | markFrame (h : Heard)
  | readyFrame (h : Heard)
  | slipFrame (h : Heard)
  | offerFrame (h : Heard) (rep : OfferReply)
  | ticketFrame (h : Heard)
  | voidFrame (h : Heard)
  | pickupFrame (h : Heard)
  | readyFate (fate : Fate) (line : Followed)
  | slipFate (fate : Fate) (line : Followed)
  | offerFate (fate : Fate) (rep : OfferReply) (line : Followed)
  | markFate (fate : Fate) (line : Followed)
  | ticketFate (fate : Fate) (short : Slot) (line : Followed)
  | voidFate (fate : Fate) (line : Followed)
  | pickupFate (fate : Fate) (line : Followed)
  | wireFailed (wire : Wire) (failure : Failure)
  | lineReturn
  | lineDown (cause : DownCause) (other : Fin 2)
  | frameSeen (seen : Seen)
  | quietEnd
  | listenEnd
  | waveClose (pass : Addr) (num : Byte)
  | waveSettle (pass : Addr) (num : Byte)
  | waveAbandon (pass : Addr) (num : Byte)
  | passWaveAbandon (pass : Addr) (num : Byte)
  | batchReleased (seq : Seq)
  | batchBehind (seq : Seq)
  | offerRetryDue (seq : Seq)
  | slipCutoff (pass : Addr) (num : Byte)
  | holdExpiry (seq : Seq)
  | turnCompare (lane : Fin 8)
  | turnFlashEnd (lane : Fin 8)
  | dueCompare (lane : Fin 8)
  | callOverdue (lane : Fin 8)
  | dueOverdue (lane : Fin 8)
  | buttonPress (lane : Fin 8) (inAccept : Bool)
  | configure (params : List Byte)
  | loadDish (params : List Byte)
  | clearMenu (params : List Byte)
  | join (params : List Byte)
  | leave (params : List Byte)
  | silence (params : List Byte)
  | ring (params : List Byte)
  | openWave (params : List Byte)
  | issueTicket (params : List Byte)
  | voidTicket (params : List Byte)
  | sendPickup (params : List Byte)
  | readStation (elapsed : Nat) (params : List Byte)
  | readWave (params : List Byte)
  | readTicket (params : List Byte)
  | readBatch (params : List Byte)
  | readLane (params : List Byte)
  | readNotice (params : List Byte)
  | unknownCommand (code : Byte) (params : List Byte)
  | nullSelect (clocked : List Byte)
  | messageCutShort (clocked : List Byte)
  deriving DecidableEq, Repr

end Sys2Proof
end

