-- ==== Sys2Proof/Decode.lean ====
section
/-! DEFINITION. What a word, and what a select of the station port, spells. spec/opcode_table.json gives no row any bits, so
no word spells a command (log entry 33); the bytes the host clocks in during one select spell the command of their code
(R168 to R178). -/

namespace Sys2Proof

/-- No row of the table has bits: every word is refused. -/
def decodeTableWord (_nbits _w : Nat) : Option Instr := none

end Sys2Proof

namespace Sys2Proof.Machine

/-- The rows of the station port that a command code names. -/
inductive PortRow where
  | configure | loadDish | clearMenu | join | leave | silence | ring | openWave | issueTicket | voidTicket | sendPickup
  | readStation | readWave | readTicket | readBatch | readLane | readNotice
  deriving DecidableEq, Repr

/-- Every row, in the order of the rules. -/
def PortRow.all : List PortRow :=
  [.configure, .loadDish, .clearMenu, .join, .leave, .silence, .ring, .openWave, .issueTicket, .voidTicket, .sendPickup,
   .readStation, .readWave, .readTicket, .readBatch, .readLane, .readNotice]

/-- The command code of a row (R170, R171, R173 to R178). -/
def PortRow.code : PortRow → Byte
  | .configure => 0x10
  | .loadDish => 0x11
  | .clearMenu => 0x12
  | .join => 0x18
  | .leave => 0x19
  | .readStation => 0x20
  | .readWave => 0x21
  | .readTicket => 0x22
  | .readBatch => 0x23
  | .readLane => 0x24
  | .readNotice => 0x25
  | .silence => 0x30
  | .ring => 0x31
  | .openWave => 0x40
  | .issueTicket => 0x41
  | .voidTicket => 0x42
  | .sendPickup => 0x43

/-- The command of a row with its parameter bytes; READ_STATION with no crystal count before it. -/
def PortRow.command : PortRow → List Byte → Instr
  | .configure, p => .configure p
  | .loadDish, p => .loadDish p
  | .clearMenu, p => .clearMenu p
  | .join, p => .join p
  | .leave, p => .leave p
  | .silence, p => .silence p
  | .ring, p => .ring p
  | .openWave, p => .openWave p
  | .issueTicket, p => .issueTicket p
  | .voidTicket, p => .voidTicket p
  | .sendPickup, p => .sendPickup p
  | .readStation, p => .readStation 0 p
  | .readWave, p => .readWave p
  | .readTicket, p => .readTicket p
  | .readBatch, p => .readBatch p
  | .readLane, p => .readLane p
  | .readNotice, p => .readNotice p

/-- The row a code names. -/
def rowOf (code : Byte) : Option PortRow := PortRow.all.find? (fun r => r.code == code)

/-- The command codes of R170 to R178. -/
def commandCodes : List Byte := PortRow.all.map PortRow.code

/-- A message cut short: the first byte is not 00h and fewer bytes arrived than the message needs (R168). -/
def cutShort (clocked : List Byte) : Bool :=
  match clocked with
  | [] => false
  | [c] => c != 0
  | c :: n :: rest => c != 0 && decide (rest.length < n.toNat)

/-- A select that carried no command: its first byte is 00h, or no whole byte came (R168). -/
def noCommand (clocked : List Byte) : Bool :=
  match clocked with
  | [] => true
  | c :: _ => c == 0

/-- The command of a code with its parameter bytes; a code that names none is refused when it is taken (R169). -/
def messageCommand (code : Byte) (params : List Byte) : Instr :=
  match rowOf code with
  | some r => r.command params
  | none => .unknownCommand code params

/-- What the bytes clocked in during one select spell: nothing, a message cut short, or the whole message of a code, a
parameter length and so many parameter bytes, the bytes beyond it disregarded (R168). -/
def selectCommand (clocked : List Byte) : Instr :=
  if noCommand clocked then .nullSelect clocked
  else if cutShort clocked then .messageCutShort clocked
  else
    match clocked with
    | code :: n :: rest => messageCommand code (rest.take n.toNat)
    | _ => .nullSelect clocked

end Sys2Proof.Machine
end

