-- ==== Sys2Proof/Machine/Slots.lean ====
section
/-! DEFINITION. The Link's slots: the two-phase symbols, how a slot reads by its two halves, how stations that drive one slot
share it, and a frame's fields and reply slots read from them (R18, R21, R25, R29 to R32). -/

namespace Sys2Proof

/-! ### Symbols (R18) -/

/-- The two sorts of slots of a frame: those in which more than one station may drive, and those one station drives alone
(R18). -/
inductive SlotSort where
  | shared | senderDriven
  deriving DecidableEq, Repr

/-- The opposite level. -/
def Level.flip : Level → Level
  | .dominant => .recessive
  | .recessive => .dominant

/-- The level of a bit: dominant is 0 and recessive 1 (R18). -/
def Level.ofBit (b : Bool) : Level := if b then .recessive else .dominant

/-- The two-phase symbol of a bit: its level, then the opposite one, so that a transition stands at mid-slot (R18). -/
def Slot.symbol (b : Bool) : Slot := { first := Level.ofBit b, second := (Level.ofBit b).flip }

/-- A slot in which a station drives nothing: recessive in both halves. -/
def Slot.undriven : Slot := { first := .recessive, second := .recessive }

/-- The wired line: dominant where either station drives dominant (R18). -/
def Level.wired : Level → Level → Level
  | .recessive, .recessive => .recessive
  | .dominant, _ => .dominant
  | .recessive, .dominant => .dominant

/-- The slot as it stands on the line when two stations drive in it (R18). -/
def Slot.wired (x y : Slot) : Slot := { first := x.first.wired y.first, second := x.second.wired y.second }

/-- How a received slot reads by its sort, the table of R18. -/
def Slot.read : SlotSort → Slot → SlotReading
  | _, ⟨.dominant, .recessive⟩ => .zero
  | _, ⟨.recessive, .dominant⟩ => .one
  | .senderDriven, ⟨.dominant, .dominant⟩ => .violation
  | .shared, ⟨.dominant, .dominant⟩ => .zero
  | _, ⟨.recessive, .recessive⟩ => .violation

/-- The value a receiver takes from the level of a slot's first half: recessive is 1 (R18). -/
def Slot.value (x : Slot) : Bool := x.first == .recessive

/-- A slot reads as a coding violation. -/
def Slot.faulty (sort : SlotSort) (x : Slot) : Bool := x.read sort == .violation

/-! ### Bits -/

/-- The low `n` bits of a number, most significant first. -/
def Machine.bitsOf : Nat → Nat → List Bool
  | 0, _ => []
  | n + 1, v => v.testBit n :: Machine.bitsOf n v

/-- The number that bits spell, most significant first. -/
def Machine.natOf (bits : List Bool) : Nat := bits.foldl (fun n b => 2 * n + b.toNat) 0

/-- The number in `n` slots from place `i` on, most significant first. -/
def slotsNat (xs : List Slot) (i n : Nat) : Nat := Machine.natOf (((xs.drop i).take n).map Slot.value)

/-! ### The fields of a frame (R18, R21, R25) -/

/-- The slots of the fields from Kind to Check when the Length field reads `n`: Kind 3, Sender 6, Class 4, Stamp 32, Length 6,
Body 8 a byte and Check 16 (R21). -/
def fieldSlots (n : Nat) : Nat := 67 + 8 * n

/-- A frame's fields as its slots read (R18, R21). -/
def RawFrame.ofSlots (xs : List Slot) : RawFrame :=
  let n := slotsNat xs 45 6
  { kind := BitVec.ofNat 3 (slotsNat xs 0 3)
    sender := BitVec.ofNat 6 (slotsNat xs 3 6)
    cls := BitVec.ofNat 4 (slotsNat xs 9 4)
    stamp := BitVec.ofNat 32 (slotsNat xs 13 32)
    length := BitVec.ofNat 6 n
    body := (List.range n).map (fun i => BitVec.ofNat 8 (slotsNat xs (51 + 8 * i) 8))
    check := BitVec.ofNat 16 (slotsNat xs (51 + 8 * n) 16) }

/-- A coding violation stands in the fields: in the shared Kind and Sender slots one recessive in both halves, in a
sender-driven slot one without a transition, or an end that is missing, which is recessive from there on (R18, R25). -/
def slotsBroken (xs : List Slot) : Bool :=
  decide (xs.length < fieldSlots (slotsNat xs 45 6)) || (xs.take 9).any (Slot.faulty .shared)
    || ((xs.take (fieldSlots (slotsNat xs 45 6))).drop 9).any (Slot.faulty .senderDriven)

/-- The bits the check covers: Kind, Sender, Class, Stamp, Length and Body (R24). -/
def Machine.coveredBits (f : RawFrame) : List Bool :=
  bitsOf 3 f.kind.toNat ++ bitsOf 6 f.sender.toNat ++ bitsOf 4 f.cls.toNat ++ bitsOf 32 f.stamp.toNat
    ++ bitsOf 6 f.length.toNat ++ f.body.flatMap (fun b => bitsOf 8 b.toNat)

/-- The slots a sender drives for a frame's fields (R18, R21). -/
def RawFrame.slots (f : RawFrame) : List Slot :=
  (Machine.coveredBits f ++ Machine.bitsOf 16 f.check.toNat).map Slot.symbol

/-! ### What a heard frame brings (R25, R28 to R32) -/

/-- The fields of the frame as read. -/
def Heard.frame (h : Heard) : RawFrame := RawFrame.ofSlots h.fields

/-- The station finds a coding violation from Kind to Check (R25). -/
def Heard.broken (h : Heard) : Bool := slotsBroken h.fields

/-- A coding violation in the reply gap, whose four slots the sender drives alone (R18, R25, R28). -/
def Heard.gapFault (h : Heard) : Bool := h.gap.toList.any (Slot.faulty .senderDriven)

/-- A coding violation in the SHORT slot of a TICKET, a shared slot (R18, R25, R29). -/
def Heard.lateFault (h : Heard) : Bool := h.frame.kind == 5 && h.short.faulty .shared

/-- What the accept slot reads, a shared slot (R18, R32). -/
def Heard.accept (h : Heard) : SlotReading := h.final.read .shared

/-- The taker address as read in the six taker slots, most significant bit first (R30); a slot that reads as a coding violation
gives no value, and the level of its first half stands in its place (log entry 53). -/
def OfferReply.taker (r : OfferReply) : Addr := BitVec.ofNat 6 (Machine.natOf (r.takerSlots.toList.map Slot.value))

/-- The two reply-check slots as read (R31). -/
def OfferReply.check (r : OfferReply) : BitVec 2 := BitVec.ofNat 2 (Machine.natOf (r.checkSlots.toList.map Slot.value))

/-- A coding violation in the reply field of an OFFER, whose slots are shared (R18, R25). -/
def OfferReply.fault (r : OfferReply) : Bool :=
  r.takerSlots.toList.any (Slot.faulty .shared) || r.checkSlots.toList.any (Slot.faulty .shared)

/-- A slot of the reply field in which a station wishes to bring a bit: it pulls the first half dominant for 0 and drives
nothing for 1, and the sender drives a recessive symbol (R28, R30, R31). -/
def Slot.reply (b : Bool) : Slot :=
  (Slot.symbol true).wired (if b then Slot.undriven else Slot.symbol false)

/-- The reply field of an OFFER as it stands on the line for a taker address and check bits (R28, R30, R31). -/
def OfferReply.ofBits (taker : Addr) (check : BitVec 2) : OfferReply :=
  { takerSlots := Vector.ofFn (fun i => Slot.reply (taker.toNat.testBit (5 - i.val)))
    checkSlots := Vector.ofFn (fun i => Slot.reply (check.toNat.testBit (1 - i.val))) }

/-- No taker: every slot reads 1 (R30, R31). -/
def Machine.noTakerReply : OfferReply := OfferReply.ofBits 63 3

end Sys2Proof
end

