-- ==== Sys2Proof/Config.lean ====
section
/-! DEFINITION. What is fixed for every NK32 (the capacities the rules give) and the free values: choices the rules
leave open, which nothing in Lean can evaluate. -/

namespace Sys2Proof.Config

/-- Wave records held (R69). -/
def waveCapacity : Nat := 32
/-- Ticket or issue records held (R71, R159). -/
def ticketCapacity : Nat := 256
/-- Dish lines of one wave (section 5.1, R73). -/
def dishLineCapacity : Nat := 16
/-- Participants of one wave (R98). -/
def participantCapacity : Nat := 16
/-- Batch records in the pool (R109). -/
def batchCapacity : Nat := 96
/-- Handed records (R144). -/
def handedCapacity : Nat := 16
/-- Contributor entries of one batch (section 7.1). -/
def contributorCapacity : Nat := 16
/-- Menu entries (R60). -/
def menuCapacity : Nat := 64
/-- Issue queue entries (R160). -/
def issueCapacity : Nat := 16
/-- Notices waiting (R177). -/
def noticeCapacity : Nat := 32
/-- Offset samples (R7). -/
def sampleCapacity : Nat := 16

/-- FREE VALUE. When several conditions of R73 hold at once the rule does not say which cause the TICKET_SHORT notice
names: this picks one of those that hold, anew for each tick and serial (log entry 18, DESIGN CHOICE). -/
opaque shortCause : Nat → Nat

/-- FREE VALUE. R106 does not say whether WAVE_FAR or WAVE_SLIPPED is queued first when one SLIP queues both: this says
it, anew for each tick (log entry 23, DESIGN CHOICE). -/
opaque farNoticeFirst : Nat → Bool

end Sys2Proof.Config
end

