-- ==== Sys2Proof/Machine/State.lean ====
section
/-! DEFINITION. The state of the NK32, block by block as 00 section 0.4 lists them, as plain data, and the state right
after reset. Counts, sizes and durations are numbers (00 section 0.7); service times, stamps, addresses and codes are bit
vectors. -/

namespace Sys2Proof.Machine

/-! ### Service Clock (spec/01) -/

/-- One entry of the offset sample list (R7), in fraction units. -/
structure Sample where
  sender  : Addr
  offset  : Int
  outlier : Bool
  deriving DecidableEq, Repr

/-- The Service Clock (section 1.1). `periodEndDue`, `markDue` and `atBoundary` are the model's own: a period end, and a
MARK placing, that belong to the current tick boundary and are still to be taken, and that no crystal count has passed
since that boundary (log entries 4 and 6). -/
structure Sck where
  tick         : Tick
  prescaler    : Nat
  terminal     : Nat
  capture      : Option Stamp
  samples      : List Sample
  periodCount  : Nat
  corr         : Int
  firstStep    : Bool
  markQuiet    : Nat
  periodEndDue : Bool
  markDue      : Bool
  atBoundary   : Bool
  deriving DecidableEq, Repr

/-! ### Line Interface (spec/03) -/

/-- The line modes of R48. -/
inductive LineMode where
  | dual | aOnly | bOnly | down
  deriving DecidableEq, Repr

/-- The status of a wire (section 3.1). -/
inductive WireStatus where
  | good | failed
  deriving DecidableEq, Repr

/-- The Line Interface (section 3.1). -/
structure Lif where
  mode       : LineMode
  wireA      : WireStatus
  wireB      : WireStatus
  silenceA   : Nat
  silenceB   : Nat
  cleanCount : Nat
  deriving DecidableEq, Repr

/-! ### Frames (spec/02) -/

/-- The frame kinds and their codes (R21). -/
inductive Kind where
  | pickup | slip | offer | void | ticket | ready | mark
  deriving DecidableEq, Repr

/-- A contributor entry: a ticket serial and portions (section 7.1, R22). -/
structure Contrib where
  serial   : Serial
  portions : Nat
  deriving DecidableEq, Repr

/-- One item of a TICKET: a dish and a quantity (R22). -/
structure Order where
  dish : Byte
  qty  : Nat
  deriving DecidableEq, Repr

/-- A frame body by kind (R22). Estimate offsets are 0..32,767 and slip counts 0..3 by their types. -/
inductive Body where
  | ready (num : Byte) (pass : Addr) (offset : BitVec 15) (far withdrawn : Bool)
  | slip (num : Byte) (pass : Addr) (offset : BitVec 15) (far : Bool)
  | offer (num : Byte) (pass : Addr) (go : Tick) (slips : BitVec 2) (dish : Byte) (portions : Nat)
      (contribs : List Contrib)
  | void (num : Byte) (serial : Serial)
  | ticket (num : Byte) (serial : Serial) (call : Tick) (lead : BitVec 16) (goPresent : Bool) (go : Tick)
      (items : List Order)
  | pickup (num : Byte)
  | mark
  deriving DecidableEq, Repr

/-- A frame of the station's own as filled at its start slot (R37, R38). -/
structure Frame where
  sender : Addr
  cls    : ClassNo
  stamp  : Stamp
  body   : Body
  deriving DecidableEq, Repr

/-- An entry of the transmit queue, named by its key (R35): READY and SLIP by the wave record, OFFER with the batch it
names. -/
inductive TxEntry where
  | ready (ref : Nat)
  | slip (ref : Nat)
  | offer (bid : Nat)
  | mark
  | issue
  deriving DecidableEq, Repr

/-- The frame in flight (R36), with an own bit error found in its reply gap or later, which the sender follows to the
accept slot (R42), the offerer's reject request and a press deferred to the end of the accept slot (R148). -/
structure InFlight where
  entry     : TxEntry
  frame     : Frame
  gapError  : Bool
  rejectReq : Bool
  deferred  : Option (Fin 8)
  deriving DecidableEq, Repr

/-- The causes of TICKET_SHORT (R178). -/
inductive ShortCause where
  | waveTable | ticketIndex | dishLines | waveAway | shortRead
  deriving DecidableEq, Repr

/-- What the Ticket Index decided about a TICKET at body end (R72, R73). -/
inductive TicketDecision where
  | disregard
  | away
  | cannotHold (cause : ShortCause)
  | hold
  deriving DecidableEq, Repr

/-- Where a station stands as taker of the OFFER being received (R150, R151): the record held back stands with
`qualified` and `won`. -/
inductive TakerState where
  | notTaker
  | qualified
  | won (lane : Option (Fin 8))
  deriving DecidableEq, Repr

/-- The station states (R63). -/
inductive StationState where
  | standby | listen | onLine | quiet
  deriving DecidableEq, Repr

/-- The frame the station is receiving: its state at the start slot (R20), the frame, the stage reached, whether it has
found it bad (R25), and what its blocks decided at body end. -/
structure Rx where
  startState : StationState
  frame      : Option (Kind × RawFrame)
  stage      : RxStage
  bad        : Bool
  ticket     : TicketDecision
  taker      : TakerState
  deriving DecidableEq, Repr

/-- What a station drives on the Link besides its own frame's fields (R25 to R32); the taker slots as the values it
drove, most significant bit first (R30). The model's own record of the driver output (log entry 12). -/
inductive LineAct where
  | startSlot
  | rejectBreak
  | shortSlot
  | takerSlots (bits : List Bool)
  | checkSlots (bits : BitVec 2)
  | acceptDominant
  deriving DecidableEq, Repr

/-- One act of the driver with the wires it is driven on (R48). -/
structure Drive where
  act   : LineAct
  wires : List Wire
  deriving DecidableEq, Repr

/-- The Frame Engine and the station record (section 2.7, 3.1, 4.5). `drove` is what the station has driven since the
last Link event began, the model's own (log entry 12). -/
structure Fe where
  station     : StationState
  listenCount : Nat
  quietCount  : Nat
  viewFrom    : Option Tick
  tecCount    : Nat
  recCount    : Nat
  idleCount   : Nat
  txq         : List TxEntry
  inFlight    : Option InFlight
  rx          : Option Rx
  drove       : List Drive
  deriving DecidableEq, Repr

/-- The strap record (R56). -/
structure Strap where
  addr : Addr
  cls  : ClassNo
  deriving DecidableEq, Repr

/-! ### Wave Unit (spec/05, 06, 10) -/

/-- A wave id: pass address and wave number (section 5.1). -/
structure WaveId where
  pass : Addr
  num  : Byte
  deriving DecidableEq, Repr

/-- The wave states OPEN, SETTLING, SET and AWAY (section 5.1). -/
inductive WaveState where
  | opened | settling | goSet | away
  deriving DecidableEq, Repr

/-- A participant's announced estimate (R98). -/
structure Participant where
  addr     : Addr
  estimate : Tick
  stamp    : Tick
  far      : Bool
  deriving DecidableEq, Repr

/-- The own announcement (section 6.1). -/
inductive OwnAnn where
  | absent
  | estimate (tick stamp : Tick)
  | withdrawn (stamp : Tick)
  deriving DecidableEq, Repr

/-- A dish line: a dish and its demand (section 5.1, R75). -/
structure DishLine where
  dish   : Byte
  demand : Nat
  deriving DecidableEq, Repr

/-- The held estimate: a tick and the saturated marker (section 6.1). -/
structure Estimate where
  tick      : Tick
  saturated : Bool
  deriving DecidableEq, Repr

/-- A wave record of a cooking station (section 5.1, 6.1) or of a pass (section 10.2). `ref` is the record's identity in
the model, by which tickets, batches and handed records name it (log entry 29). -/
structure Wave where
  ref           : Nat
  id            : Option WaveId
  call          : Option Tick
  lead          : Option (BitVec 16)
  close         : Option Tick
  state         : WaveState
  go            : Option Tick
  slips         : Nat
  heardFrom     : Tick
  partialMark   : Bool
  far           : Bool
  participants  : List Participant
  own           : OwnAnn
  est           : Option Estimate
  lines         : List DishLine
  adoptedOnly   : Bool
  anonymous     : Bool
  pickupPending : Bool
  deriving DecidableEq, Repr

/-- The Wave Unit's wave table in creation order (R69). -/
structure Wu where
  waves   : List Wave
  nextRef : Nat
  deriving DecidableEq, Repr

/-! ### Ticket Index (spec/05, 10) -/

/-- A kept item: dish, quantity, unbatched count (section 5.2). -/
structure Item where
  dish : Byte
  qty  : Nat
  unb  : Nat
  deriving DecidableEq, Repr

/-- A ticket record (section 5.2). -/
structure Ticket where
  pass   : Addr
  serial : Serial
  wave   : Nat
  items  : List Item
  deriving DecidableEq, Repr

/-- An issue record of a pass (section 10.3); `issued` is its status. -/
structure Issue where
  serial      : Serial
  wave        : Nat
  items       : List Order
  issued      : Bool
  short       : Bool
  voidPending : Bool
  deriving DecidableEq, Repr

/-- The ticket index (R71) and, on a pass, the issue records (R159), oldest first. -/
structure Ti where
  tickets : List Ticket
  issues  : List Issue
  deriving DecidableEq, Repr

/-! ### Batch Planner (spec/07, 09) -/

/-- The batch states (R110). -/
inductive BatchState where
  | formed | called | cooking | due | holding
  deriving DecidableEq, Repr

/-- The last offer outcome (section 9.1). -/
inductive OfferOutcome where
  | noTaker | rejected | brokenOff
  deriving DecidableEq, Repr

/-- A batch record (section 7.1, 9.1). `bid` is its identity in the model (log entry 29). -/
structure Batch where
  bid          : Nat
  seq          : Seq
  wave         : Nat
  dish         : Byte
  portions     : Nat
  contribs     : List Contrib
  state        : BatchState
  staged       : Bool
  ls           : Tick
  rl           : Tick
  lane         : Option (Fin 8)
  start        : Option Tick
  due          : Option Tick
  turn         : Option Tick
  done         : Option Tick
  refire       : Nat
  late         : Bool
  attempts     : Nat
  lastOffer    : Option Tick
  outcome      : Option OfferOutcome
  offerPending : Bool
  adopted      : Bool
  deriving DecidableEq, Repr

/-- A handed record (section 9.1). -/
structure Handed where
  wave     : Nat
  dish     : Byte
  taker    : Addr
  seq      : Seq
  handedAt : Tick
  contribs : List Contrib
  deriving DecidableEq, Repr

/-- The Batch Planner: the live batches in creation order, the fire queue by batch identity, the handed records, the
formation counter (R109, R116, R144). -/
structure Bp where
  batches : List Batch
  fireQ   : List Nat
  handed  : List Handed
  counter : Seq
  nextBid : Nat
  deriving DecidableEq, Repr

/-! ### Lane Unit (spec/08) -/

/-- The lane states (section 8.2). -/
inductive LaneState where
  | idle | called | cooking | due
  deriving DecidableEq, Repr

/-- The overdue cause of a lane (R136, R137). -/
inductive Overdue where
  | none | call | due
  deriving DecidableEq, Repr

/-- A lane record (section 8.1); batches are named by their identity. -/
structure Lane where
  state       : LaneState
  current     : Option Nat
  staged      : Option Nat
  reserved    : Bool
  calledSince : Option Tick
  turnTick    : Option Tick
  dueTick     : Option Tick
  flashEnd    : Option Tick
  dueSince    : Option Tick
  overdue     : Overdue
  ack         : Bool
  lastPress   : Option Tick
  lamp        : Bool
  deriving DecidableEq, Repr

/-- The Lane Unit: lanes 0 to 7, the ring marker and the BELL output (section 8.1). -/
structure Lu where
  lanes : Vector Lane 8
  ring  : Bool
  bell  : Bool
  deriving DecidableEq, Repr

/-! ### Issue Unit (spec/10) -/

/-- The kinds of issue frames (R160). -/
inductive IssueKind where
  | ticket | void | pickup
  deriving DecidableEq, Repr

/-- An issue queue entry (R160); `orphan` is present in the entry whose frame was in flight when its wave was abandoned, and
holds the body that frame was filled with (R166). -/
structure IssueEntry where
  kind   : IssueKind
  num    : Byte
  serial : Serial
  fails  : Nat
  orphan : Option Body
  deriving DecidableEq, Repr

/-- The Issue Unit: the issue queue, head first (R160). -/
structure Iu where
  queue : List IssueEntry
  deriving DecidableEq, Repr

/-! ### Station Port (spec/04, 11) -/

/-- The line lock (R53). -/
inductive LineLock where
  | auto | aOnly | bOnly
  deriving DecidableEq, Repr

/-- The configuration record (section 4.3). -/
structure Configuration where
  laneCount   : Nat
  laneKinds   : Vector Nat 8
  margin      : Nat
  threshold   : Nat
  callWindow  : Nat
  dueWindow   : Nat
  reportStep  : Nat
  shareCount  : Nat
  shareIndex  : Nat
  lock        : LineLock
  waveGroup   : Bool
  batchGroup  : Bool
  ticketGroup : Bool
  linkGroup   : Bool
  deriving DecidableEq, Repr

/-- A menu entry (R60). -/
structure Dish where
  code  : Byte
  kind  : Nat
  cook  : Nat
  turn  : Nat
  hold  : Nat
  batch : Nat
  deriving DecidableEq, Repr

/-- The cause of a WAVE_PARTIAL notice (R101). -/
inductive PartialCause where
  | heardFrom | link | both
  deriving DecidableEq, Repr

/-- The cause of a LINE_MODE notice (R178). -/
inductive ModeCause where
  | wireAFailed | wireBFailed | lineReturn | stuckDominant | bothFailed | frameSeen | configure | join
  deriving DecidableEq, Repr

/-- The kind of a clock step (R14). -/
inductive StepKind where
  | first | mean | forward
  deriving DecidableEq, Repr

/-- The notices and their data (R178). -/
inductive NoticeBody where
  | waveSet (id : WaveId) (go : Tick) (counted : Nat)
  | waveSlipped (id : WaveId) (go : Tick) (slips : Nat)
  | wavePartial (id : WaveId) (cause : PartialCause)
  | waveFar (id : WaveId) (addr : Addr)
  | waveAway (id : WaveId) (count : Nat)
  | waveAbandoned (id : WaveId) (count : Nat)
  | batchCalled (id : WaveId) (seq : Seq) (lane : Fin 8) (dish : Byte)
  | batchLate (id : WaveId) (seq : Seq) (behind : Nat)
  | batchSpoiled (id : WaveId) (seq : Seq) (dish : Byte) (portions : Nat)
  | batchLost (id : WaveId) (seq : Seq) (dish : Byte) (portions : Nat)
  | batchHanded (id : WaveId) (seq : Seq) (dish : Byte) (portions : Nat) (taker : Addr)
  | batchAdopted (id : WaveId) (seq : Seq) (dish : Byte) (portions : Nat) (offerer : Addr) (lane : Option (Fin 8))
  | ticketShort (pass : Addr) (serial : Serial) (num : Byte) (cause : ShortCause) (undriven : Bool)
  | issueFailed (kind : IssueKind) (num : Byte) (serial : Serial)
  | lineMode (old new : LineMode) (cause : ModeCause)
  | linkQuiet (tec recv : Nat) (tecHit recHit : Bool)
  | clockStep (kind : StepKind) (size : Int)
  | stationLeft (state : StationState) (waves batches tickets : Nat)
  deriving DecidableEq, Repr

/-- A queued notice: its tick and its body (section 11.4). -/
structure Notice where
  tick : Tick
  body : NoticeBody
  deriving DecidableEq, Repr

/-- The reply statuses (R169). -/
inductive Status where
  | ok | wrongState | badValue | full | unknownRecord
  deriving DecidableEq, Repr

/-- The held reply (R168). -/
structure Reply where
  status : Status
  data   : List Byte
  deriving DecidableEq, Repr

/-- The Station Port: configuration record, menu table, notice queue, notices-lost count, held reply (00 section 0.4). -/
structure Sp where
  config  : Configuration
  menu    : List Dish
  notices : List Notice
  lost    : Nat
  reply   : Reply
  deriving DecidableEq, Repr

/-! ### The whole part -/

/-- The NK32, block by block. -/
structure Device where
  sck   : Sck
  lif   : Lif
  fe    : Fe
  strap : Strap
  wu    : Wu
  ti    : Ti
  bp    : Bp
  lu    : Lu
  iu    : Iu
  sp    : Sp
  deriving DecidableEq, Repr

/-- The machine: the part and the commands waiting for it, first in first out. -/
structure State where
  dev     : Device
  pending : List Instr
  deriving DecidableEq, Repr

/-- A step of this machine never stops with a fault: no rule of the spec stops the part. -/
inductive Fault where
  /-- Raised by nobody; safe. -/
  | noSuchFault
  deriving DecidableEq, Repr

/-- Why a command could be refused. -/
inductive Refusal where
  /-- Raised by an arm of `exec` that has no meaning yet; no arm of this model raises it; safe. -/
  | notModelled (mnemonic : String)
  deriving DecidableEq, Repr

/-! ### Reset values (R57 and the rule each block's chapter gives) -/

/-- The clock after reset (section 1.1). -/
def Sck.reset : Sck where
  tick := 0
  prescaler := 0
  terminal := 4095
  capture := none
  samples := []
  periodCount := 0
  corr := 0
  firstStep := false
  markQuiet := 0
  periodEndDue := false
  markDue := false
  atBoundary := false

/-- The Line Interface after reset (section 3.1, R53). -/
def Lif.reset : Lif where
  mode := .dual
  wireA := .good
  wireB := .good
  silenceA := 0
  silenceB := 0
  cleanCount := 0

/-- The Frame Engine after reset (R20, section 3.1, section 4.5). -/
def Fe.reset : Fe where
  station := .standby
  listenCount := 0
  quietCount := 0
  viewFrom := none
  tecCount := 0
  recCount := 0
  idleCount := 0
  txq := []
  inFlight := none
  rx := none
  drove := []

/-- A lane after reset (section 8.1, R126). -/
def Lane.reset : Lane where
  state := .idle
  current := none
  staged := none
  reserved := false
  calledSince := none
  turnTick := none
  dueTick := none
  flashEnd := none
  dueSince := none
  overdue := .none
  ack := false
  lastPress := none
  lamp := false

/-- The Lane Unit after reset (section 8.1). -/
def Lu.reset : Lu where
  lanes := Vector.replicate 8 Lane.reset
  ring := false
  bell := false

/-- The configuration defaults (section 4.3). -/
def Configuration.defaults : Configuration where
  laneCount := 0
  laneKinds := Vector.replicate 8 0
  margin := 16
  threshold := 24
  callWindow := 80
  dueWindow := 40
  reportStep := 4
  shareCount := 1
  shareIndex := 0
  lock := .auto
  waveGroup := true
  batchGroup := true
  ticketGroup := true
  linkGroup := true

/-- The Station Port after reset (R57, R60, R168, R177). -/
def Sp.reset : Sp where
  config := Configuration.defaults
  menu := []
  notices := []
  lost := 0
  reply := { status := .ok, data := [] }

/-- Every block at its reset value with the strap pins sampled (R56, R57). -/
def Device.reset (addr : Addr) (cls : ClassNo) : Device where
  sck := Sck.reset
  lif := Lif.reset
  fe := Fe.reset
  strap := { addr := addr, cls := cls }
  wu := { waves := [], nextRef := 0 }
  ti := { tickets := [], issues := [] }
  bp := { batches := [], fireQ := [], handed := [], counter := 0, nextBid := 0 }
  lu := Lu.reset
  iu := { queue := [] }
  sp := Sp.reset

/-- The machine right after power-on. The strap pins read open, that is 1 (R179; log entry 1, DESIGN CHOICE), and no
command waits. -/
def State.reset : State where
  dev := Device.reset 63 15
  pending := []

end Sys2Proof.Machine
end

