-- ==== Sys2Proof/Machine/Operands.lean ====
section
/-! DEFINITION. How operands are read and written: service times, ordered lists, bytes, frame bodies, the check code and
the framing check. -/

namespace Sys2Proof.Machine

/-! ### Service time (00 section 0.7) -/

/-- A time `a` is before `b` when `b − a` modulo 2^24 lies in 1..8,388,607. -/
def before (a b : Tick) : Bool :=
  decide (1 ≤ (b - a).toNat) && decide ((b - a).toNat ≤ 8388607)

/-- `a` is at or after `b`: `a` is not before `b`. -/
def atOrAfter (a b : Tick) : Bool := !before a b

/-- The later of two times. -/
def laterOf (a b : Tick) : Tick := if before a b then b else a

/-- The difference `a − b` modulo 2^24 read as signed. -/
def tickDiff (a b : Tick) : Int := (a - b).toInt

/-- A duration as a term of a sum of times (taken modulo 2^24). -/
def ticks (n : Nat) : Tick := BitVec.ofNat 24 n

/-- The tick of a stamp (R5). -/
def stampTick (s : Stamp) : Tick := s.extractLsb' 8 24

/-- The fraction of a stamp (R5). -/
def stampFrac (s : Stamp) : Byte := s.extractLsb' 0 8

/-! ### Ordered lists (00 section 0.9) -/

/-- `x` placed before the first entry it precedes. -/
def insertBy {α : Type} (lt : α → α → Bool) (x : α) : List α → List α
  | [] => [x]
  | y :: ys => if lt x y then x :: y :: ys else y :: insertBy lt x ys

/-- The list in the order `lt`; entries neither of which precedes the other keep their order. -/
def sortBy {α : Type} (lt : α → α → Bool) (l : List α) : List α :=
  l.foldl (fun acc x => insertBy lt x acc) []

/-- The entries with the first that satisfies `p` changed. -/
def updateFirst {α : Type} (p : α → Bool) (f : α → α) : List α → List α
  | [] => []
  | x :: xs => if p x then f x :: xs else x :: updateFirst p f xs

/-- The first index of an entry that satisfies `p`. -/
def placeOf {α : Type} (p : α → Bool) : List α → Nat
  | [] => 0
  | x :: xs => if p x then 0 else placeOf p xs + 1

/-- `x` clamped to the range `lo..hi` (00 section 0.8). -/
def clamp (lo hi x : Nat) : Nat := max lo (min hi x)

/-- ⌈x / y⌉ for whole numbers (00 section 0.8). -/
def ceilDiv (x y : Nat) : Nat := (x + y - 1) / y

/-! ### Bytes, most significant first (R22, R168) -/

/-- One byte of a number. -/
def byteOf (n : Nat) : Byte := BitVec.ofNat 8 n

/-- Two bytes. -/
def be16 (n : Nat) : List Byte := [byteOf (n / 256), byteOf n]

/-- Three bytes. -/
def be24 (n : Nat) : List Byte := [byteOf (n / 65536), byteOf (n / 256), byteOf n]

/-- Four bytes. -/
def be32 (n : Nat) : List Byte := [byteOf (n / 16777216), byteOf (n / 65536), byteOf (n / 256), byteOf n]

/-- A time in three bytes; an absent time is sent as 0 (R168). -/
def tickBytes (t : Option Tick) : List Byte := be24 (t.getD 0).toNat

/-- The number two bytes carry. -/
def nat16 (a b : Byte) : Nat := a.toNat * 256 + b.toNat

/-- The number three bytes carry. -/
def nat24 (a b c : Byte) : Nat := a.toNat * 65536 + b.toNat * 256 + c.toNat

/-- The parameter byte at a place (0 beyond the end, where no check of a length lets it be read). -/
def param (p : List Byte) (i : Nat) : Byte := p.getD i 0

/-- The number in parameter byte `i`. -/
def param8 (p : List Byte) (i : Nat) : Nat := (param p i).toNat

/-- The number in parameter bytes `i` and `i + 1`. -/
def param16 (p : List Byte) (i : Nat) : Nat := nat16 (param p i) (param p (i + 1))

/-- The number in parameter bytes `i` to `i + 2`. -/
def param24 (p : List Byte) (i : Nat) : Nat := nat24 (param p i) (param p (i + 1)) (param p (i + 2))

/-- A bit in its place in a byte. -/
def bit (b : Bool) (place : Nat) : Nat := if b then 2 ^ place else 0

/-! ### Frame kinds and lengths (R21, R22, R23) -/

/-- The code of a kind (R21). -/
def Kind.code : Kind → Nat
  | .pickup => 1
  | .slip => 2
  | .offer => 3
  | .void => 4
  | .ticket => 5
  | .ready => 6
  | .mark => 7

/-- The kind of a body. -/
def Body.kind : Body → Kind
  | .ready .. => .ready
  | .slip .. => .slip
  | .offer .. => .offer
  | .void .. => .void
  | .ticket .. => .ticket
  | .pickup .. => .pickup
  | .mark => .mark

/-- The lengths a kind allows (R23). -/
def Kind.lengthOk : Kind → Nat → Bool
  | .ready, n => n == 5
  | .slip, n => n == 5
  | .void, n => n == 3
  | .pickup, n => n == 1
  | .mark, n => n == 0
  | .offer, n => decide (12 ≤ n) && decide (n ≤ 57) && n % 3 == 0
  | .ticket, n => decide (15 ≤ n) && decide (n ≤ 37) && n % 2 == 1

/-- The classes a kind allows (R23). -/
def Kind.classOk : Kind → ClassNo → Bool
  | .ticket, c => c == 0
  | .void, c => c == 0
  | .pickup, c => c == 0
  | .ready, c => c != 0
  | .slip, c => c != 0
  | .offer, c => c != 0
  | .mark, _ => true

/-- An address a frame may carry: 1..62 (R21, R23). -/
def addrOk (a : Addr) : Bool := a != 0 && a != 63

/-! ### Frame bodies (R22) -/

/-- The bytes of a contributor entry. -/
def contribBytes (c : Contrib) : List Byte := be16 c.serial.toNat ++ [byteOf c.portions]

/-- The bytes of a TICKET item. -/
def orderBytes (o : Order) : List Byte := [o.dish, byteOf o.qty]

/-- An address in a byte. -/
def addrByte (a : Addr) : Byte := byteOf a.toNat

/-- The bytes of a body, in the layout of R22. -/
def Body.bytes : Body → List Byte
  | .ready num pass off far wd =>
      [num, addrByte pass] ++ be16 off.toNat ++ [byteOf (bit far 7 + bit wd 6)]
  | .slip num pass off far =>
      [num, addrByte pass] ++ be16 off.toNat ++ [byteOf (bit far 7)]
  | .offer num pass go slips dish portions contribs =>
      [num, addrByte pass] ++ be24 go.toNat ++ [byteOf slips.toNat, dish, byteOf portions, byteOf contribs.length]
        ++ contribs.flatMap contribBytes
  | .void num serial => [num] ++ be16 serial.toNat
  | .ticket num serial call lead goPresent go items =>
      [num] ++ be16 serial.toNat ++ be24 call.toNat ++ be16 lead.toNat ++ [byteOf (bit goPresent 0)]
        ++ be24 go.toNat ++ [byteOf items.length] ++ items.flatMap orderBytes
  | .pickup num => [num]
  | .mark => []

/-- A pass address byte in 1..62. -/
def passOk (b : Byte) : Bool := decide (1 ≤ b.toNat) && decide (b.toNat ≤ 62)

/-- Contributor entries read three bytes at a time; none where the bytes do not come out even. -/
def readContribs : List Byte → Option (List Contrib)
  | [] => some []
  | a :: b :: c :: rest =>
      (readContribs rest).map ({ serial := a ++ b, portions := c.toNat } :: ·)
  | _ => none

/-- TICKET items read two bytes at a time; none where the bytes do not come out even. -/
def readOrders : List Byte → Option (List Order)
  | [] => some []
  | a :: b :: rest => (readOrders rest).map ({ dish := a, qty := b.toNat } :: ·)
  | _ => none

/-- Portions of a list of contributor entries. -/
def portionsOf (cs : List Contrib) : Nat := (cs.map (·.portions)).sum

/-- A contributor entry within its ranges (R22, R23). -/
def contribOk (c : Contrib) : Bool := c.serial != 0 && decide (1 ≤ c.portions) && decide (c.portions ≤ 16)

/-- The contributor list an OFFER may carry: ranges, no serial twice, the portions their sum (R23). -/
def contribsOk (cs : List Contrib) (portions : Nat) : Bool :=
  cs.all contribOk && decide ((cs.map (·.serial)).Nodup) && portionsOf cs == portions

/-- A TICKET item within its ranges (R22, R23). -/
def orderOk (o : Order) : Bool := o.dish != 0 && decide (1 ≤ o.qty) && decide (o.qty ≤ 63)

/-- The body a READY or SLIP carries: number, pass, offset, markers (R22, R23). -/
def readEstimateBody (f : Byte → Addr → BitVec 15 → Bool → Bool → Body) : List Byte → Option Body
  | [num, pass, hi, lo, markers] =>
      if passOk pass && !hi.msb then
        some (f num (pass.extractLsb' 0 6) ((hi ++ lo).extractLsb' 0 15) (markers.getLsbD 7) (markers.getLsbD 6))
      else none
  | _ => none

/-- The body of an OFFER (R22, R23). -/
def readOffer : List Byte → Option Body
  | num :: pass :: g2 :: g1 :: g0 :: slips :: dish :: portions :: n :: rest =>
      match readContribs rest with
      | some cs =>
          if passOk pass && decide (slips.toNat ≤ 3) && dish != 0 && decide (1 ≤ portions.toNat)
              && decide (portions.toNat ≤ 16) && decide (1 ≤ n.toNat) && decide (n.toNat ≤ 16)
              && n.toNat == cs.length && contribsOk cs portions.toNat then
            some (.offer num (pass.extractLsb' 0 6) (g2 ++ g1 ++ g0) (slips.extractLsb' 0 2) dish portions.toNat cs)
          else none
      | none => none
  | _ => none

/-- The body of a TICKET (R22, R23). -/
def readTicketBody : List Byte → Option Body
  | num :: s1 :: s0 :: c2 :: c1 :: c0 :: l1 :: l0 :: present :: g2 :: g1 :: g0 :: n :: rest =>
      match readOrders rest with
      | some items =>
          if (s1 ++ s0) != 0#16 && decide (present.toNat ≤ 1) && decide (1 ≤ n.toNat) && decide (n.toNat ≤ 12)
              && n.toNat == items.length && items.all orderOk then
            some (.ticket num (s1 ++ s0) (c2 ++ c1 ++ c0) (l1 ++ l0) (present.getLsbD 0) (g2 ++ g1 ++ g0) items)
          else none
      | none => none
  | _ => none

/-- The body of a VOID (R22, R23). -/
def readVoid : List Byte → Option Body
  | [num, s1, s0] => if (s1 ++ s0) != 0#16 then some (.void num (s1 ++ s0)) else none
  | _ => none

/-- A body read by its kind; none is a framing error of the Body field (R23). -/
def readBody : Kind → List Byte → Option Body
  | .ready, bs => readEstimateBody (fun n p o f w => .ready n p o f w) bs
  | .slip, bs => readEstimateBody (fun n p o f _ => .slip n p o f) bs
  | .offer, bs => readOffer bs
  | .ticket, bs => readTicketBody bs
  | .void, bs => readVoid bs
  | .pickup, [num] => some (.pickup num)
  | .pickup, _ => none
  | .mark, [] => some .mark
  | .mark, _ => none

/-! ### The check (R24) -/

/-- One covered bit through the check register (R24). -/
def crcStep (r : BitVec 16) (b : Bool) : BitVec 16 :=
  if b ^^ r.msb then (r <<< 1) ^^^ 0x1021#16 else r <<< 1

/-- The check register after the covered bits (R24). -/
def crc (bits : List Bool) : BitVec 16 := bits.foldl crcStep 0xFFFF#16

/-- A CRC error (R24). -/
def crcError (f : RawFrame) : Bool := f.check != crc (coveredBits f)

/-- The body of a frame free of framing errors, by the checks of R23; none is a framing error. -/
def framed (k : Kind) (f : RawFrame) : Option Body :=
  if f.kind.toNat == k.code && addrOk f.sender && k.classOk f.cls && k.lengthOk f.length.toNat
      && f.length.toNat == f.body.length then
    readBody k f.body
  else none

/-- An own frame as it stands on the line: the FE fills Kind, Sender, Class, Stamp, Length and Check (R38). -/
def Frame.raw (f : Frame) : RawFrame :=
  let r : RawFrame :=
    { kind := BitVec.ofNat 3 f.body.kind.code
      sender := f.sender
      cls := f.cls
      stamp := f.stamp
      length := BitVec.ofNat 6 f.body.bytes.length
      body := f.body.bytes
      check := 0 }
  { r with check := crc (coveredBits r) }

/-- A reply-check error in an OFFER's reply field as read (R31). -/
def replyCheckError (r : OfferReply) : Bool :=
  if r.taker == 63 then r.check != 3
  else r.taker == 0 || r.check != ~~~(r.taker.extractLsb' 0 2)

/-- A body whose counts and values lie in the ranges of R22. -/
def Body.wf : Body → Bool
  | .ready _ pass _ _ _ => addrOk pass
  | .slip _ pass _ _ => addrOk pass
  | .offer _ pass _ _ dish portions cs =>
      addrOk pass && dish != 0 && decide (1 ≤ portions) && decide (portions ≤ 16) && decide (1 ≤ cs.length)
        && decide (cs.length ≤ 16) && contribsOk cs portions
  | .void _ serial => serial != 0
  | .ticket _ serial _ _ _ _ items =>
      serial != 0 && decide (1 ≤ items.length) && decide (items.length ≤ 12) && items.all orderOk
  | .pickup _ => true
  | .mark => true

end Sys2Proof.Machine
end

