-- ==== Sys2Proof/Machine/Clock.lean ====
section
/-! DEFINITION. The Service Clock's own operations (spec/01): readings, slewing, samples, means, steps and taps. -/

namespace Sys2Proof.Machine

/-- The fraction of a reading: the prescaler div 16, saturated at 255 (R3). -/
def fraction (prescaler : Nat) : Nat := min (prescaler / 16) 255

/-- A reading of the clock: tick and fraction (R3). -/
def Sck.reading (k : Sck) : Stamp := k.tick ++ byteOf (fraction k.prescaler)

/-- Crystal counts passing within the current tick: the prescaler stands at the terminal count until the boundary
(R1; log entry 7). -/
def Sck.advance (n : Nat) (k : Sck) : Sck := { k with prescaler := max k.prescaler (min k.terminal (k.prescaler + n)) }

/-- The applied amount of a tick: the smaller of |C| and 4 (R2). -/
def slewAmount (c : Int) : Nat := min c.natAbs 4

/-- The length of the tick that begins is fixed from C, and C moves toward zero (R2). -/
def Sck.slew (k : Sck) : Sck :=
  let a := slewAmount k.corr
  if 0 < k.corr then { k with terminal := 4095 - 16 * a, corr := k.corr - a }
  else if k.corr < 0 then { k with terminal := 4095 + 16 * a, corr := k.corr + a }
  else { k with terminal := 4095 }

/-- A step of `size` fraction units (R14). -/
def Sck.stepBy (size : Int) (k : Sck) : Sck :=
  let v := k.reading + BitVec.ofInt 32 size
  { k with tick := stampTick v, prescaler := (stampFrac v).toNat * 16, terminal := 4095 }

/-- The restart of a period (R8). A period end still to be taken at this boundary is passed over, and the tick that began
there is fixed from C as it stands (log entry 6). -/
def Sck.restart (k : Sck) : Sck :=
  let k := { k with periodCount := 0, samples := [] }
  if k.periodEndDue then Sck.slew { k with periodEndDue := false } else k

/-- The first step (R11, R14): the clock is set to the stamp, C to 0, the marker cleared, the period restarted. -/
def Sck.stepFirst (stamp : Stamp) (k : Sck) : Sck :=
  Sck.restart
    { k with tick := stampTick stamp, prescaler := (stampFrac stamp).toNat * 16, terminal := 4095, corr := 0,
             firstStep := false }

/-- The size of a first step: the stamp less the clock before it, modulo 2^32 read as signed (R14). -/
def Sck.firstSize (stamp : Stamp) (k : Sck) : Int := (stamp - k.reading).toInt

/-- The offset of a frame: stamp less capture modulo 2^32, signed, saturated (R6). -/
def offsetOf (stamp capture : Stamp) : Int := max (-32767) (min 32767 (stamp - capture).toInt)

/-- An offset beyond 4 ticks while ON_LINE or QUIET (R7). -/
def outlierIn (st : StationState) (offset : Int) : Bool :=
  (st == .onLine || st == .quiet) && (decide (1024 < offset) || decide (offset < -1024))

/-- A sample entered in the list: in its sender's place, or appended while there is room (R7). -/
def enterSample (x : Sample) (l : List Sample) : List Sample :=
  if l.any (fun y => y.sender == x.sender) then l.map (fun y => if y.sender == x.sender then x else y)
  else if l.length < Config.sampleCapacity then l ++ [x]
  else l

/-- The sample of an accepted frame another station sent (R6, R7). -/
def Sck.sample (st : StationState) (sender : Addr) (stamp : Stamp) (k : Sck) : Sck :=
  match k.capture with
  | some c =>
      let o := offsetOf stamp c
      { k with samples := enterSample { sender := sender, offset := o, outlier := outlierIn st o } k.samples }
  | none => k

/-- The trimmed mean of offsets (R8). -/
def trimmedMean (l : List Int) : Option Int :=
  match sortBy (fun a b => decide (a < b)) l with
  | [] => none
  | x :: xs =>
      if 4 ≤ l.length then
        some (((xs.dropLast).foldl (· + ·) 0).tdiv ((l.length - 2 : Nat) : Int))
      else some ((xs.foldl (· + ·) x).tdiv (l.length : Int))

/-- The trimmed mean of the entries that are not outliers (R8). -/
def Sck.mean (k : Sck) : Option Int :=
  trimmedMean ((k.samples.filter (fun x => !x.outlier)).map (·.offset))

/-- The median of all entries: the entry at place n div 2 + 1 of the sorted list (R13). -/
def Sck.median (k : Sck) : Option Int :=
  (sortBy (fun a b => decide (a < b)) (k.samples.map (·.offset)))[k.samples.length / 2]?

/-- C replaced by half the trimmed mean, or left where there is none (R8). -/
def Sck.correct (k : Sck) : Sck :=
  match k.mean with
  | some m => { k with corr := m.tdiv 2 }
  | none => k

/-- The fast blink tap (R16). -/
def fastTap (t : Tick) : Bool := t.toNat % 2 == 1

/-- The slow blink tap (R16). -/
def slowTap (t : Tick) : Bool := decide (4 ≤ t.toNat % 8)

/-- The counts of elapsed ticks at a tick boundary: tick counter, prescaler, period count and, while ON_LINE, the MARK
quiet count (R1, R8, R15). A boundary at which the period count would pass 63 leaves the period end to be taken. -/
def Sck.countTick (onLine : Bool) (k : Sck) : Sck :=
  { k with
    tick := k.tick + 1
    prescaler := 0
    periodCount := if 63 ≤ k.periodCount then 0 else k.periodCount + 1
    periodEndDue := decide (63 ≤ k.periodCount)
    atBoundary := true
    markQuiet := if onLine then min 32 (k.markQuiet + 1) else 0 }

/-- The length of the tick that begins at a boundary, fixed at once unless a period end is to be taken first
(R2, R8). -/
def Sck.beginTick (k : Sck) : Sck :=
  if k.periodEndDue then { k with terminal := 4095 } else k.slew

end Sys2Proof.Machine
end

