-- ==== Sys2Proof/Machine/Ops.lean ====
section
/-! DEFINITION. The shared operations over the part's records: one block at a time, notices, the transmit queue, wave,
ticket, batch, handed and lane records. -/

namespace Sys2Proof.Machine

/-! ### One block changed, the others kept -/

/-- The Service Clock changed. -/
def Device.onSck (f : Sck → Sck) (d : Device) : Device := { d with sck := f d.sck }
/-- The Line Interface changed. -/
def Device.onLif (f : Lif → Lif) (d : Device) : Device := { d with lif := f d.lif }
/-- The Frame Engine changed. -/
def Device.onFe (f : Fe → Fe) (d : Device) : Device := { d with fe := f d.fe }
/-- The Wave Unit changed. -/
def Device.onWu (f : Wu → Wu) (d : Device) : Device := { d with wu := f d.wu }
/-- The Ticket Index changed. -/
def Device.onTi (f : Ti → Ti) (d : Device) : Device := { d with ti := f d.ti }
/-- The Batch Planner changed. -/
def Device.onBp (f : Bp → Bp) (d : Device) : Device := { d with bp := f d.bp }
/-- The Lane Unit changed. -/
def Device.onLu (f : Lu → Lu) (d : Device) : Device := { d with lu := f d.lu }
/-- The Issue Unit changed. -/
def Device.onIu (f : Iu → Iu) (d : Device) : Device := { d with iu := f d.iu }
/-- The Station Port changed. -/
def Device.onSp (f : Sp → Sp) (d : Device) : Device := { d with sp := f d.sp }

/-- The machine with its part changed and its queue kept. -/
def State.onDev (f : Device → Device) (s : State) : State := { s with dev := f s.dev }

/-- Own clock, in ticks. -/
def Device.now (d : Device) : Tick := d.sck.tick

/-- A pass station: held class 0 (R56). -/
def Device.isPass (d : Device) : Bool := d.strap.cls == 0

/-- The configuration record. -/
def Device.cfg (d : Device) : Configuration := d.sp.config

/-! ### Notices (R177) -/

/-- Whether a notice's group is on in the notice selection (R177, R178). -/
def groupOn (c : Configuration) : NoticeBody → Bool
  | .waveSet .. => c.waveGroup
  | .waveSlipped .. => c.waveGroup
  | .wavePartial .. => c.waveGroup
  | .waveFar .. => c.waveGroup
  | .waveAway .. => c.waveGroup
  | .waveAbandoned .. => c.waveGroup
  | .batchCalled .. => c.batchGroup
  | .batchLate .. => c.batchGroup
  | .batchSpoiled .. => c.batchGroup
  | .batchLost .. => c.batchGroup
  | .batchHanded .. => c.batchGroup
  | .batchAdopted .. => c.batchGroup
  | .ticketShort .. => c.ticketGroup
  | .issueFailed .. => c.ticketGroup
  | .lineMode .. => c.linkGroup
  | .linkQuiet .. => c.linkGroup
  | .clockStep .. => c.linkGroup
  | .stationLeft .. => c.linkGroup

/-- A notice queued, dropped and counted lost, or not placed (R177). -/
def Sp.queueNotice (now : Tick) (b : NoticeBody) (p : Sp) : Sp :=
  if !groupOn p.config b then p
  else if Config.noticeCapacity ≤ p.notices.length then { p with lost := min 255 (p.lost + 1) }
  else { p with notices := p.notices ++ [{ tick := now, body := b }] }

/-- A block queues a notice (R177). -/
def Device.notify (b : NoticeBody) (d : Device) : Device := d.onSp (Sp.queueNotice d.now b)

/-- The reply of a message replaces the held reply (R168). -/
def Device.answer (st : Status) (data : List Byte) (d : Device) : Device :=
  d.onSp (fun p => { p with reply := { status := st, data := data } })

/-! ### The menu (R60) -/

/-- The menu entry of a dish. -/
def Device.dish? (d : Device) (code : Byte) : Option Dish := d.sp.menu.find? (fun x => x.code == code)

/-- Cook time T of a dish in this station's menu (0 where it has none). -/
def Device.cookOf (d : Device) (code : Byte) : Nat := ((d.dish? code).map (·.cook)).getD 0

/-- Hold limit H of a dish. -/
def Device.holdOf (d : Device) (code : Byte) : Nat := ((d.dish? code).map (·.hold)).getD 0

/-- Turn time U of a dish. -/
def Device.turnOf (d : Device) (code : Byte) : Nat := ((d.dish? code).map (·.turn)).getD 0

/-- Batch size B of a dish. -/
def Device.sizeOf (d : Device) (code : Byte) : Nat := ((d.dish? code).map (·.batch)).getD 0

/-- Lane kind of a dish, absent where the menu has no entry. -/
def Device.kindOf (d : Device) (code : Byte) : Option Nat := (d.dish? code).map (·.kind)

/-! ### Lanes (R126) -/

/-- A lane record. -/
def Device.lane (d : Device) (i : Fin 8) : Lane := d.lu.lanes[i]

/-- A lane record changed. -/
def Lu.setLane (i : Fin 8) (f : Lane → Lane) (u : Lu) : Lu := { u with lanes := u.lanes.set i (f u.lanes[i]) }

/-- A lane record of the part changed. -/
def Device.onLane (i : Fin 8) (f : Lane → Lane) (d : Device) : Device := d.onLu (Lu.setLane i f)

/-- The kind of a lane, from the configuration record (section 8.1). -/
def Device.laneKind (d : Device) (i : Fin 8) : Nat := d.cfg.laneKinds[i]

/-- A lane is configured when its number is below the lane count (R126). -/
def Device.configured (d : Device) (i : Fin 8) : Bool := decide (i.val < d.cfg.laneCount)

/-- The number of configured lanes of a kind (R93). -/
def Device.lanesOfKind (d : Device) (k : Nat) : Nat :=
  ((List.finRange 8).filter (fun i => d.configured i && d.laneKind i == k)).length

/-- A lane free for dispatch: configured, IDLE, not reserved (R117). -/
def Device.laneFree (d : Device) (i : Fin 8) : Bool :=
  d.configured i && (d.lane i).state == .idle && !(d.lane i).reserved

/-- Every lane is IDLE (R13). -/
def Device.allIdle (d : Device) : Bool := (List.finRange 8).all (fun i => (d.lane i).state == .idle)

/-! ### Transmit queue (R35) -/

/-- Two entries with one key (R35). -/
def TxEntry.sameKey : TxEntry → TxEntry → Bool
  | .ready a, .ready b => a == b
  | .slip a, .slip b => a == b
  | .offer _, .offer _ => true
  | .mark, .mark => true
  | .issue, .issue => true
  | _, _ => false

/-- An entry placed; it replaces one with its key (R35). -/
def placeEntry (e : TxEntry) (q : List TxEntry) : List TxEntry := q.filter (fun x => !x.sameKey e) ++ [e]

/-- An entry with a key withdrawn (R35). -/
def withdrawEntry (e : TxEntry) (q : List TxEntry) : List TxEntry := q.filter (fun x => !x.sameKey e)

/-- A placer places an entry (R35). -/
def Device.place (e : TxEntry) (d : Device) : Device := d.onFe (fun f => { f with txq := placeEntry e f.txq })

/-- A placer withdraws its entry (R35). -/
def Device.withdraw (e : TxEntry) (d : Device) : Device := d.onFe (fun f => { f with txq := withdrawEntry e f.txq })

/-- An entry with this key waits in the queue. -/
def Device.waiting (d : Device) (e : TxEntry) : Bool := d.fe.txq.any (fun x => x.sameKey e)

/-- An entry with this key is the frame in flight (R36). -/
def Device.flying (d : Device) (e : TxEntry) : Bool :=
  match d.fe.inFlight with
  | some f => f.entry.sameKey e
  | none => false

/-- The OFFER of a batch is in flight (R147). -/
def Device.offerFlying (d : Device) (bid : Nat) : Bool :=
  match d.fe.inFlight with
  | some f => f.entry == .offer bid
  | none => false

/-! ### Wave records (R69, R70) -/

/-- The record with an identity. -/
def Device.wave? (d : Device) (ref : Nat) : Option Wave := d.wu.waves.find? (fun w => w.ref == ref)

/-- The record a pass address and wave number name (R70). -/
def Device.named? (d : Device) (pass : Addr) (num : Byte) : Option Wave :=
  d.wu.waves.find? (fun w => !w.anonymous && w.id == some { pass := pass, num := num })

/-- A wave record changed. -/
def Device.onWave (ref : Nat) (f : Wave → Wave) (d : Device) : Device :=
  d.onWu (fun u => { u with waves := u.waves.map (fun w => if w.ref == ref then f w else w) })

/-- The wave id a notice carries (0 and 0 for a record without one). -/
def Wave.noticeId (w : Wave) : WaveId := w.id.getD { pass := 0, num := 0 }

/-- The wave id of the record a batch belongs to. -/
def Device.waveIdOf (d : Device) (ref : Nat) : WaveId := ((d.wave? ref).map Wave.noticeId).getD { pass := 0, num := 0 }

/-- The state of a record. -/
def Device.waveStateOf (d : Device) (ref : Nat) : Option WaveState := (d.wave? ref).map (·.state)

/-- The go time of a record (0 where absent). -/
def Device.goOf (d : Device) (ref : Nat) : Tick := ((d.wave? ref).bind (·.go)).getD 0

/-- The demand of a wave's dish line (0 where it has none). -/
def Wave.demandOf (w : Wave) (dish : Byte) : Nat := ((w.lines.find? (fun l => l.dish == dish)).map (·.demand)).getD 0

/-- A dish line's demand lowered. -/
def Device.lowerDemand (ref : Nat) (dish : Byte) (n : Nat) (d : Device) : Device :=
  d.onWave ref (fun w =>
    { w with lines := w.lines.map (fun l => if l.dish == dish then { l with demand := l.demand - n } else l) })

/-- Demand added to a wave's dish line, with a new line where there is none (R75). -/
def addDemand (dish : Byte) (n : Nat) (ls : List DishLine) : List DishLine :=
  if ls.any (fun l => l.dish == dish) then
    ls.map (fun l => if l.dish == dish then { l with demand := l.demand + n } else l)
  else ls ++ [{ dish := dish, demand := n }]

/-! ### Batch records (R109, R110) -/

/-- The live batch with an identity. -/
def Device.batch? (d : Device) (bid : Nat) : Option Batch := d.bp.batches.find? (fun b => b.bid == bid)

/-- A batch record changed. -/
def Device.onBatch (bid : Nat) (f : Batch → Batch) (d : Device) : Device :=
  d.onBp (fun p => { p with batches := p.batches.map (fun b => if b.bid == bid then f b else b) })

/-- The live batches of a wave record, in creation order. -/
def Device.batchesOf (d : Device) (ref : Nat) : List Batch := d.bp.batches.filter (fun b => b.wave == ref)

/-- The spare portions of a batch (R81). -/
def Batch.spare (b : Batch) : Nat := b.portions - portionsOf b.contribs

/-- `a` is formed earlier than `b` (R109). -/
def formedEarlier (a b : Seq) : Bool := decide (1 ≤ (b - a).toNat) && decide ((b - a).toNat ≤ 32767)

/-- The pool record a possible taker holds back (R150). -/
def Device.heldBack (d : Device) : Nat :=
  match d.fe.rx with
  | some r => (match r.taker with
      | .notTaker => 0
      | .qualified => 1
      | .won _ => 1)
  | none => 0

/-- Free records of the batch pool (R109, R150). -/
def Device.poolFree (d : Device) : Nat := Config.batchCapacity - d.bp.batches.length - d.heldBack

/-- The latest start of a batch of a dish against a go time (R111). -/
def Device.latestStart (d : Device) (go : Tick) (dish : Byte) : Tick := go - ticks d.cfg.margin - ticks (d.cookOf dish)

/-- The release of a batch of a dish against a go time (R111). -/
def Device.releaseOf (d : Device) (go : Tick) (dish : Byte) : Tick := d.latestStart go dish - ticks (d.holdOf dish)

/-- A batch is released when its release is at or before own clock (R111). -/
def Device.released (d : Device) (b : Batch) : Bool := atOrAfter d.now b.rl

/-! ### The fire queue (R116) -/

/-- The order of the fire queue: latest start, then formation (R116). -/
def fireBefore (a b : Batch) : Bool :=
  before a.ls b.ls || (a.ls == b.ls && formedEarlier a.seq b.seq)

/-- The batches that stand in the fire queue, in its order. -/
def Device.queued (d : Device) : List Batch := d.bp.fireQ.filterMap d.batch?

/-- The identities of queued batches put in order (R116, R121). -/
def Device.reorderFire (d : Device) : Device :=
  d.onBp (fun p => { p with fireQ := (sortBy fireBefore d.queued).map (·.bid) })

/-- A batch joins the fire queue in its place (R116). -/
def Device.joinFire (bid : Nat) (d : Device) : Device :=
  match d.batch? bid with
  | some b => d.onBp (fun p => { p with fireQ := (insertBy fireBefore b d.queued).map (·.bid) })
  | none => d

/-- A batch leaves the fire queue. -/
def Device.leaveFire (bid : Nat) (d : Device) : Device :=
  d.onBp (fun p => { p with fireQ := p.fireQ.filter (fun x => x != bid) })

/-! ### Portions and tickets (R84, R89) -/

/-- An entry's portions taken off the items of a dish, the later item first (R84). -/
def takeOffItems (dish : Byte) : Nat → List Item → List Item × Nat
  | n, [] => ([], n)
  | n, it :: rest =>
      let r := takeOffItems dish n rest
      if it.dish == dish then
        let m := min r.2 it.qty
        ({ it with qty := it.qty - m } :: r.1, r.2 - m)
      else (it :: r.1, r.2)

/-- The portions of one contributor entry taken off the matching items of the tickets filed against a record (R84). -/
def takeOffEntry (ref : Nat) (dish : Byte) (c : Contrib) (ts : List Ticket) : List Ticket :=
  ts.map (fun t =>
    if t.wave == ref && t.serial == c.serial then { t with items := (takeOffItems dish c.portions t.items).1 } else t)

/-- The portions of a contributor list taken off (R84). -/
def takeOffAll (ref : Nat) (dish : Byte) (cs : List Contrib) (ts : List Ticket) : List Ticket :=
  cs.foldl (fun acc c => takeOffEntry ref dish c acc) ts

/-- The contributors of a batch taken off their items; those of an adopted batch match no filed ticket and come off
nothing (R84). -/
def Device.takeOff (b : Batch) (d : Device) : Device :=
  if b.adopted then d
  else d.onTi (fun t => { t with tickets := takeOffAll b.wave b.dish b.contribs t.tickets })

/-- A contributor entry added: an entry of the serial rises, or a new one is appended (R82, R113). -/
def addContrib (cs : List Contrib) (c : Contrib) : List Contrib :=
  if cs.any (fun x => x.serial == c.serial) then
    cs.map (fun x => if x.serial == c.serial then { x with portions := x.portions + c.portions } else x)
  else cs ++ [c]

/-! ### Retiring a wave (R83) -/

/-- The READY and SLIP entries of a wave withdrawn (R83). -/
def Device.withdrawWave (ref : Nat) (d : Device) : Device := (d.withdraw (.ready ref)).withdraw (.slip ref)

/-- The ticket and handed records of a wave record leave (R83). -/
def Device.dropFiled (ref : Nat) (d : Device) : Device :=
  (d.onTi (fun t => { t with tickets := t.tickets.filter (fun x => x.wave != ref),
                             issues := t.issues.filter (fun x => x.wave != ref) })).onBp
    (fun p => { p with handed := p.handed.filter (fun x => x.wave != ref) })

/-- A wave record retired (R83). -/
def Device.retire (ref : Nat) (d : Device) : Device :=
  ((d.dropFiled ref).withdrawWave ref).onWu (fun u => { u with waves := u.waves.filter (fun w => w.ref != ref) })

/-- A wave record made anonymous (R83). -/
def Device.makeAnonymous (ref : Nat) (d : Device) : Device :=
  (d.dropFiled ref).onWave ref (fun w => { w with anonymous := true, id := none })

/-- A SET wave has no work: every demand 0 and no live batch (R86). -/
def Device.noWork (d : Device) (w : Wave) : Bool :=
  w.state == .goSet && w.lines.all (fun l => l.demand == 0) && (d.batchesOf w.ref).isEmpty

/-- The no-work test: a SET wave without work is retired (R86). -/
def Device.testNoWork (ref : Nat) (d : Device) : Device :=
  match d.wave? ref with
  | some w => if d.noWork w then d.retire ref else d
  | none => d

end Sys2Proof.Machine
end

