-- ==== Sys2Proof/Machine/Flags.lean ====
section
/-! DEFINITION. What is computed from the records rather than held in them: the estimate of R91 to R94 and the conditions
of R95, R104, R105, R107 and R146. -/

namespace Sys2Proof.Machine

/-! ### Saturating sums (R93) -/

/-- The limit of a 24-bit unsigned number. -/
def satLimit : Nat := 16777215

/-- A number kept in 24 bits, and whether a saturation took effect (R93). -/
structure Sat where
  val : Nat
  sat : Bool
  deriving DecidableEq, Repr

/-- A product or sum kept in 24 bits (R93). -/
def satOf (n : Nat) : Sat := { val := min n satLimit, sat := decide (satLimit < n) }

/-- A sum of two kept numbers (R93). -/
def satAdd (a b : Sat) : Sat :=
  { val := min (a.val + b.val) satLimit, sat := a.sat || b.sat || decide (satLimit < a.val + b.val) }

/-- A sum of products and terms, each kept in 24 bits (R93). -/
def satSum (l : List Nat) : Sat := l.foldl (fun acc n => satAdd acc (satOf n)) { val := 0, sat := false }

/-! ### The estimate (R91 to R94) -/

/-- The work of a dish line of kind `k`: ⌈demand ÷ B⌉ × T (R91). -/
def Device.lineWork (d : Device) (k : Nat) (l : DishLine) : Option Nat :=
  match d.dish? l.dish with
  | some x => if x.kind == k && decide (0 < l.demand) then some (ceilDiv l.demand x.batch * x.cook) else none
  | none => none

/-- A batch that has not been started: FORMED or CALLED. -/
def Batch.waits (b : Batch) : Bool := b.state == .formed || b.state == .called

/-- The batches of a wave that count in its own work on kind `k` (R91). -/
def Device.ownBatches (d : Device) (w : Wave) (k : Nat) : List Batch :=
  (d.batchesOf w.ref).filter (fun b => b.waits && d.kindOf b.dish == some k)

/-- W_k, the wave's own work on kind `k` (R91). -/
def Device.ownWork (d : Device) (w : Wave) (k : Nat) : Sat :=
  satSum (w.lines.filterMap (d.lineWork k) ++ (d.ownBatches w k).map (fun b => d.cookOf b.dish))

/-- Tmax_k, the longest single cook that contributes to W_k (R91). -/
def Device.longestCook (d : Device) (w : Wave) (k : Nat) : Nat :=
  (w.lines.filterMap (fun l => (d.lineWork k l).map (fun _ => d.cookOf l.dish))
    ++ (d.ownBatches w k).map (fun b => d.cookOf b.dish)).foldl max 0

/-- What another live batch counts in the backlog: its T before its start, the time to its due while COOKING (R92). -/
def Device.batchBacklog (d : Device) (b : Batch) : Nat :=
  match b.state with
  | .formed => d.cookOf b.dish
  | .called => d.cookOf b.dish
  | .cooking => (tickDiff (b.due.getD d.now) d.now).toNat
  | .due => 0
  | .holding => 0

/-- The order of waves not yet SET: call time, then pass address, then wave number (R92). -/
def callsEarlier (a b : Wave) : Bool :=
  match a.call, b.call with
  | some x, some y =>
      before x y || (x == y &&
        (decide (a.noticeId.pass.toNat < b.noticeId.pass.toNat) ||
          (a.noticeId.pass == b.noticeId.pass && decide (a.noticeId.num.toNat < b.noticeId.num.toNat))))
  | _, _ => false

/-- Another wave whose demand lies ahead of `w` (R92). -/
def liesAhead (w x : Wave) : Bool :=
  x.ref != w.ref &&
    (match x.state with
      | .opened => callsEarlier x w
      | .settling => callsEarlier x w
      | .goSet => true
      | .away => false)

/-- Q_k, the backlog ahead of the wave on kind `k` (R92). -/
def Device.backlog (d : Device) (w : Wave) (k : Nat) : Sat :=
  satSum (((d.bp.batches.filter (fun b => b.wave != w.ref && d.kindOf b.dish == some k)).map d.batchBacklog)
    ++ (d.wu.waves.filter (liesAhead w)).flatMap (fun x => x.lines.filterMap (d.lineWork k)))

/-- D_k, the kind's lead, with its saturations; none where the wave has no work on the kind (R93). -/
def Device.kindLead (d : Device) (w : Wave) (k : Nat) : Option Sat :=
  let work := d.ownWork w k
  if work.val == 0 then none
  else
    let longest := d.longestCook w k
    let ahead := satAdd (d.backlog w k) work
    let lanes := d.lanesOfKind k
    let rounded := satAdd { ahead with val := ahead.val - longest } (satOf (lanes - 1))
    let total := satAdd { rounded with val := rounded.val / lanes } (satOf longest)
    some { val := min total.val 32767, sat := total.sat || decide (32767 < total.val) }

/-- The estimate of a wave; none where it has no work on this station (R94). -/
def Device.estimate (d : Device) (w : Wave) : Option Estimate :=
  match [0, 1, 2, 3].filterMap (d.kindLead w) with
  | [] => none
  | x :: xs =>
      some { tick := d.now + ticks ((x :: xs).foldl (fun m y => max m y.val) 0) + ticks d.cfg.margin
             saturated := (x :: xs).any (·.sat) }

/-! ### Conditions read from the records -/

/-- Own clock is after a time. -/
def Device.isAfter (d : Device) (t : Tick) : Bool := before t d.now

/-- A batch of a SET wave is behind: FORMED or CALLED, and own clock after its latest start plus the offer threshold
(R104). -/
def Device.behind (d : Device) (b : Batch) : Bool :=
  b.waits && d.waveStateOf b.wave == some .goSet && d.isAfter (b.ls + ticks d.cfg.threshold)

/-- A batch's offers are spent (R104). -/
def Batch.spent (b : Batch) : Bool := decide (2 ≤ b.attempts) || b.outcome == some .noTaker

/-- A late batch: behind and spent (R104). -/
def Device.isLate (d : Device) (b : Batch) : Bool := d.behind b && b.spent

/-- The held estimate of a wave is later than its go time (R105, R107). -/
def estLater (w : Wave) : Bool :=
  match w.est, w.go with
  | some e, some g => before g e.tick
  | _, _ => false

/-- Own clock is before the go time less 16 (R105). -/
def Device.beforeCutoff (d : Device) (w : Wave) : Bool :=
  match w.go with
  | some g => before d.now (g - 16)
  | none => false

/-- The four sending conditions of a SLIP (R105). -/
def Device.slipHolds (d : Device) (w : Wave) : Bool :=
  w.state == .goSet && (d.batchesOf w.ref).any d.isLate && estLater w && decide (w.slips < 3) && d.beforeCutoff w

/-- The announcing conditions of an OPEN wave (R95). -/
def Device.announceHolds (d : Device) (w : Wave) : Bool :=
  w.state == .opened &&
    (match w.est, w.own with
      | some _, .absent => true
      | some _, .withdrawn _ => true
      | some e, .estimate t stamp =>
          decide (d.cfg.reportStep ≤ (tickDiff e.tick t).natAbs) || atOrAfter d.now (stamp + 24)
      | none, .estimate .. => true
      | none, .absent => false
      | none, .withdrawn _ => false)

/-- A batch whose lateness makes it late at the last moment: no SLIP can move its wave any more (R107). -/
def Device.lateDue (d : Device) (w : Wave) (b : Batch) : Bool :=
  d.isLate b && !b.late && estLater w && (decide (3 ≤ w.slips) || !d.beforeCutoff w)

/-- A candidate for an OFFER (R146). -/
def Device.candidate (d : Device) (b : Batch) : Bool :=
  d.behind b && !b.staged && decide (b.attempts < 2) && !b.adopted &&
    (match b.lastOffer with
      | none => true
      | some t => atOrAfter d.now (t + 8))

/-- How far a batch is past its latest start. -/
def Device.lateness (d : Device) (b : Batch) : Int := tickDiff d.now b.ls

/-- The order of candidates: greatest lateness, then formation (R146). -/
def Device.moreBehind (d : Device) (a b : Batch) : Bool :=
  decide (d.lateness b < d.lateness a) || (d.lateness a == d.lateness b && formedEarlier a.seq b.seq)

/-- The candidate the Batch Planner names (R146). -/
def Device.topCandidate (d : Device) : Option Batch := (sortBy d.moreBehind (d.bp.batches.filter d.candidate)).head?

/-! ### The evaluation of R90 -/

/-- The held estimates computed anew; a record in SETTLING or AWAY holds none (R90). -/
def Device.recompute (d : Device) : Device :=
  d.onWu (fun u =>
    { u with waves := u.waves.map (fun w =>
        { w with est := if w.state == .opened || w.state == .goSet then d.estimate w else none }) })

/-- A READY placed for a wave when an announcing condition holds and none waits or is in flight (R95). -/
def Device.announce (ref : Nat) (d : Device) : Device :=
  match d.wave? ref with
  | some w =>
      if d.announceHolds w && !d.waiting (.ready ref) && !d.flying (.ready ref) then d.place (.ready ref) else d
  | none => d

/-- A SLIP placed for a wave when its sending conditions hold and none waits or is in flight (R105). -/
def Device.slipEval (ref : Nat) (d : Device) : Device :=
  match d.wave? ref with
  | some w => if d.slipHolds w && !d.waiting (.slip ref) && !d.flying (.slip ref) then d.place (.slip ref) else d
  | none => d

/-- The late marker set and BATCH_LATE queued for a batch (R107). -/
def Device.markLate (bid : Nat) (d : Device) : Device :=
  match d.batch? bid with
  | none => d
  | some b =>
      match d.wave? b.wave with
      | none => d
      | some w =>
          if d.lateDue w b then
            (d.onBatch bid (fun x => { x with late := true })).notify
              (.batchLate w.noticeId b.seq (min 65535 (d.lateness b).toNat))
          else d

/-- An OFFER placed for the candidate most behind (R146). -/
def Device.offerEval (d : Device) : Device :=
  if d.fe.station == .onLine && !d.waiting (.offer 0) && !d.flying (.offer 0)
      && decide (d.bp.handed.length < Config.handedCapacity) then
    match d.topCandidate with
    | some b => (d.onBatch b.bid (fun x => { x with offerPending := true })).place (.offer b.bid)
    | none => d
  else d

/-- The evaluation of R90 with the conditions it leads to: held estimates, READY (R95), SLIP (R105), BATCH_LATE (R107),
OFFER (R146). A pass makes no estimate (R157). -/
def Device.evaluate (d : Device) : Device :=
  if d.isPass then d
  else
    let d := d.recompute
    let refs := d.wu.waves.map (·.ref)
    let d := refs.foldl (fun x r => x.announce r) d
    let d := refs.foldl (fun x r => x.slipEval r) d
    let d := (d.bp.batches.map (·.bid)).foldl (fun x b => x.markLate b) d
    d.offerEval

/-- The evaluation of R90 after an event that may have changed a live batch, where it did: demand changes only with a
batch there (R90, R146). -/
def Device.evaluateSince (d before : Device) : Device := if d.bp == before.bp then d else d.evaluate

end Sys2Proof.Machine
end

