-- ==== Sys2Proof/Machine/Planner.lean ====
section
/-! DEFINITION. The Batch Planner's shared operations (spec/05 section 5.5, spec/07): calls, dispatch, staging, formation,
freeing a batch, and the end of a wave's work at pickup or abandonment. -/

namespace Sys2Proof.Machine

/-! ### Calls (R127) and dispatch (R117) -/

/-- The lane side of a call that begins (R127). -/
def Lane.call (bid : Nat) (now : Tick) (l : Lane) : Lane :=
  { l with state := .called, current := some bid, staged := none, reserved := false, calledSince := some now,
           turnTick := none, dueTick := none, flashEnd := none, dueSince := none, overdue := .none, ack := false }

/-- The lane side of a lane that becomes IDLE: a withdrawn call (R127) or a done press with nothing staged (R133). -/
def Lane.release (l : Lane) : Lane :=
  { l with state := .idle, current := none, staged := none, calledSince := none, turnTick := none, dueTick := none,
           flashEnd := none, dueSince := none, overdue := .none, ack := false }

/-- A batch becomes CALLED, current on a lane, and the call begins (R117, R127). -/
def Device.beginCall (i : Fin 8) (bid : Nat) (d : Device) : Device :=
  ((d.leaveFire bid).onBatch bid (fun b => { b with state := .called, staged := false, lane := some i })).onLane i
    (Lane.call bid d.now)

/-- A call with its BATCH_CALLED notice (R117, R119). -/
def Device.callBatch (i : Fin 8) (b : Batch) (d : Device) : Device :=
  (d.beginCall i b.bid).notify (.batchCalled (d.waveIdOf b.wave) b.seq i b.dish)

/-- The first batch in the fire queue of a kind that is released and whose OFFER is not in flight (R117, R119). -/
def Device.firstFor (d : Device) (k : Nat) : Option Batch :=
  d.queued.find? (fun b => d.kindOf b.dish == some k && d.released b && !d.offerFlying b.bid)

/-- Dispatch for one lane (R117). -/
def Device.dispatchLane (i : Fin 8) (d : Device) : Device :=
  if d.laneFree i then
    match d.firstFor (d.laneKind i) with
    | some b => d.callBatch i b
    | none => d
  else d

/-- A dispatch pass: free lanes in ascending number (R117, R118). -/
def Device.dispatch (d : Device) : Device := (List.finRange 8).foldl (fun x i => x.dispatchLane i) d

/-- Staging at entry to DUE (R119). -/
def Device.stage (i : Fin 8) (d : Device) : Device :=
  match d.firstFor (d.laneKind i) with
  | some b =>
      ((d.leaveFire b.bid).onBatch b.bid (fun x => { x with staged := true, lane := some i })).onLane i
        (fun l => { l with staged := some b.bid })
  | none => d

/-! ### Formation (R82, R112 to R115) -/

/-- Up to `n` portions of a dish drawn from items, in item order: the items after it and the portions drawn. -/
def drawItems (dish : Byte) : Nat → List Item → List Item × Nat
  | _, [] => ([], 0)
  | n, it :: rest =>
      let m := if it.dish == dish then min n it.unb else 0
      let r := drawItems dish (n - m) rest
      ({ it with unb := it.unb - m } :: r.1, m + r.2)

/-- Up to `n` portions of a dish drawn from the tickets of a wave record, in index order: the tickets after it and the
contributor entries drawn. -/
def drawTickets (ref : Nat) (dish : Byte) : Nat → List Ticket → List Ticket × List Contrib
  | _, [] => ([], [])
  | n, t :: rest =>
      if t.wave == ref then
        let x := drawItems dish n t.items
        let r := drawTickets ref dish (n - x.2) rest
        ({ t with items := x.1 } :: r.1, if x.2 == 0 then r.2 else { serial := t.serial, portions := x.2 } :: r.2)
      else
        let r := drawTickets ref dish n rest
        (t :: r.1, r.2)

/-- The order in which spare portions are claimed: HOLDING, DUE, COOKING, then done or due tick, then formation (R82). -/
def claimBefore (a b : Batch) : Bool :=
  let rank : Batch → Nat := fun x => if x.state == .holding then 0 else if x.state == .due then 1 else 2
  let time : Batch → Tick := fun x => if x.state == .holding then x.done.getD 0 else x.due.getD 0
  decide (rank a < rank b) ||
    (rank a == rank b && (before (time a) (time b) || (time a == time b && formedEarlier a.seq b.seq)))

/-- The claimable batches of a wave and dish, in order (R82). -/
def Device.claimable (d : Device) (ref : Nat) (dish : Byte) : List Batch :=
  sortBy claimBefore
    ((d.batchesOf ref).filter (fun b =>
      b.dish == dish && !b.adopted && decide (0 < b.spare) &&
        (b.state == .holding || b.state == .due || b.state == .cooking)))

/-- One item's claims over the claimable batches: what stays unbatched, and the batches after it (R82). -/
def claimItem (serial : Serial) : Nat → List Batch → Nat × List Batch
  | n, [] => (n, [])
  | n, b :: rest =>
      let listed := b.contribs.any (fun c => c.serial == serial)
      let m := if listed || decide (b.contribs.length < Config.contributorCapacity) then min n b.spare else 0
      let b' := if m == 0 then b else { b with contribs := addContrib b.contribs { serial := serial, portions := m } }
      let r := claimItem serial (n - m) rest
      (r.1, b' :: r.2)

/-- The claims of the items of one ticket, in item order (R82). -/
def claimItems (serial : Serial) (dish : Byte) : List Item → List Batch → List Item × List Batch
  | [], bs => ([], bs)
  | it :: rest, bs =>
      if it.dish == dish then
        let c := claimItem serial it.unb bs
        let r := claimItems serial dish rest c.2
        ({ it with unb := c.1 } :: r.1, r.2)
      else
        let r := claimItems serial dish rest bs
        (it :: r.1, r.2)

/-- The claims of the tickets of a wave record, in index order (R82). -/
def claimTickets (ref : Nat) (dish : Byte) : List Ticket → List Batch → List Ticket × List Batch
  | [], bs => ([], bs)
  | t :: rest, bs =>
      if t.wave == ref then
        let c := claimItems t.serial dish t.items bs
        let r := claimTickets ref dish rest c.2
        ({ t with items := c.1 } :: r.1, r.2)
      else
        let r := claimTickets ref dish rest bs
        (t :: r.1, r.2)

/-- The unbatched portions of a dish in the tickets of a wave record (R75). -/
def unbatchedOf (ref : Nat) (dish : Byte) (ts : List Ticket) : Nat :=
  (ts.map (fun t =>
    if t.wave == ref then (t.items.map (fun it => if it.dish == dish then it.unb else 0)).sum else 0)).sum

/-- Changed batch records put back into the pool by identity. -/
def putBack (changed : List Batch) (pool : List Batch) : List Batch :=
  pool.map (fun b => (changed.find? (fun x => x.bid == b.bid)).getD b)

/-- First stage of formation: spare portions claimed (R82, R112). -/
def Device.claimSpares (ref : Nat) (dish : Byte) (d : Device) : Device :=
  let r := claimTickets ref dish d.ti.tickets (d.claimable ref dish)
  let moved := unbatchedOf ref dish d.ti.tickets - unbatchedOf ref dish r.1
  (((d.onTi (fun t => { t with tickets := r.1 })).onBp (fun p => { p with batches := putBack r.2 p.batches })).lowerDemand
    ref dish moved)

/-- The batches formation may fill, newest first (R113). -/
def Device.fillable (d : Device) (ref : Nat) (dish : Byte) : List Batch :=
  sortBy (fun a b => formedEarlier b.seq a.seq)
    ((d.batchesOf ref).filter (fun b =>
      b.dish == dish && b.state == .formed && !b.adopted && decide (b.portions < d.sizeOf dish) && !d.offerFlying b.bid))

/-- One FORMED batch filled (R113). -/
def Device.fillBatch (ref : Nat) (dish : Byte) (b : Batch) (d : Device) : Device :=
  let r := drawTickets ref dish (d.sizeOf dish - b.portions) d.ti.tickets
  let n := portionsOf r.2
  ((d.onTi (fun t => { t with tickets := r.1 })).onBatch b.bid
    (fun x => { x with portions := x.portions + n, contribs := r.2.foldl addContrib x.contribs })).lowerDemand ref dish n

/-- Second stage of formation: room in FORMED batches filled (R113). -/
def Device.fillFormed (ref : Nat) (dish : Byte) (d : Device) : Device :=
  (d.fillable ref dish).foldl (fun x b => x.fillBatch ref dish b) d

/-- A batch record taken from the pool takes the next formation sequence (R109). -/
def Device.addBatch (b : Batch) (d : Device) : Device :=
  d.onBp (fun p =>
    { p with batches := p.batches ++ [{ b with bid := p.nextBid, seq := p.counter }],
             counter := p.counter + 1, nextBid := p.nextBid + 1 })

/-- A batch as formation creates it (R114). -/
def Device.formedBatch (d : Device) (ref : Nat) (dish : Byte) (cs : List Contrib) : Batch where
  bid := 0
  seq := 0
  wave := ref
  dish := dish
  portions := portionsOf cs
  contribs := cs
  state := .formed
  staged := false
  ls := d.latestStart (d.goOf ref) dish
  rl := d.releaseOf (d.goOf ref) dish
  lane := none
  start := none
  due := none
  turn := none
  done := none
  refire := 0
  late := false
  attempts := 0
  lastOffer := none
  outcome := none
  offerPending := false
  adopted := false

/-- Third stage of formation: new batches while portions remain and the pool has a free record (R114, R115). -/
def Device.createBatches (ref : Nat) (dish : Byte) : Nat → Device → Device
  | 0, d => d
  | free + 1, d =>
      let r := drawTickets ref dish (d.sizeOf dish) d.ti.tickets
      if r.2.isEmpty then d
      else
        let bid := d.bp.nextBid
        let d := d.onTi (fun t => { t with tickets := r.1 })
        let d := (d.addBatch (d.formedBatch ref dish r.2)).lowerDemand ref dish (portionsOf r.2)
        (d.joinFire bid).createBatches ref dish free

/-- The three stages for one dish line (R112). -/
def Device.formDish (ref : Nat) (dish : Byte) (d : Device) : Device :=
  let d := d.claimSpares ref dish
  let d := d.fillFormed ref dish
  d.createBatches ref dish d.poolFree

/-- The dish lines of a wave with demand taken in order (R112). -/
def Device.formLines (w : Wave) (d : Device) : Device :=
  ((w.lines.filter (fun l => decide (0 < l.demand))).map (·.dish)).foldl (fun x c => x.formDish w.ref c) d

/-- A formation pass for a SET wave: its dish lines with demand in order, then one dispatch pass (R112, R117). -/
def Device.formationPass (ref : Nat) (d : Device) : Device :=
  match d.wave? ref with
  | some w => (d.formLines w).dispatch
  | none => d

/-- The SET waves whose demand waits for a free record, by go time and then table order (R115); a wave whose work is being
ended is left out (R84; log entry 22). -/
def Device.waitingWaves (d : Device) (ending : Option Nat) : List Nat :=
  (sortBy (fun a b => before (a.go.getD 0) (b.go.getD 0))
    (d.wu.waves.filter (fun w =>
      w.state == .goSet && ending != some w.ref && w.lines.any (fun l => decide (0 < l.demand))))).map (·.ref)

/-- The formation passes run when a record returns to the pool (R115), but for a wave whose work is being ended. -/
def Device.formOthers (ending : Option Nat) (d : Device) : Device :=
  (d.waitingWaves ending).foldl (fun x r => if 0 < x.poolFree then x.formationPass r else x) d

/-- The same passes without the dispatch pass at their end, where R84 has the lanes offered to dispatch later. -/
def Device.formUndispatched (ending : Option Nat) (d : Device) : Device :=
  (d.waitingWaves ending).foldl (fun x r =>
    match x.wave? r with
    | some w => if 0 < x.poolFree then x.formLines w else x
    | none => x) d

/-- The formation passes run when a record returns to the pool (R115). -/
def Device.formWaiting (d : Device) : Device := d.formOthers none

/-! ### Freeing a batch (R125) -/

/-- A batch leaves the fire queue, its lane and its OFFER entry, and its record returns to the pool
(R125 steps 1 to 3). -/
def Device.removeBatch (b : Batch) (d : Device) : Device :=
  let d1 : Device := d.leaveFire b.bid
  let d2 : Device := match b.lane with
    | some i =>
        if b.state == .formed then d1.onLane i (fun l => { l with staged := none })
        else if b.state == .called then d1.onLane i Lane.release
        else d1
    | none => d1
  let d3 : Device := if d2.fe.txq.any (fun e => e == .offer b.bid) then d2.withdraw (.offer b.bid) else d2
  d3.onBp (fun p => { p with batches := p.batches.filter (fun x => x.bid != b.bid) })

/-- Formation for waiting demand, then dispatch when a lane was made IDLE (R125 steps 4 and 5). -/
def Device.afterFree (ending : Option Nat) (idled : Bool) (d : Device) : Device :=
  let d1 : Device := d.formOthers ending
  if idled then d1.dispatch else d1

/-- A batch freed (R125). -/
def Device.freeBatch (b : Batch) (d : Device) : Device := (d.removeBatch b).afterFree none (b.state == .called)

/-! ### The end of a wave's work (R84) -/

/-- One batch of an ending wave served or cancelled, if it still stands when its turn comes: its portions come off the
items, and it is freed with the formation passes R125 gives (R84 steps 1 to 3, R125). A lane it makes IDLE is offered to
dispatch once the record is AWAY or retired, as R84 says, with the dispatch pass at the end of those formation passes
(log entry 22). -/
def Device.endBatch (ref : Nat) (d : Device) (bid : Nat) : Device :=
  match d.batch? bid with
  | some b =>
      let d1 : Device := (d.takeOff b).removeBatch b
      if b.state == .called then d1.formUndispatched (some ref) else d1.formOthers (some ref)
  | none => d

/-- The batches of an ending wave in a state served or cancelled one after the other, in the order in which they came into
the pool (R84 steps 1 to 3). R84 and R125 order the steps and not the batches of one step; the order decides which waiting
demand gets which returned record (log entry 22, DESIGN CHOICE). -/
def Device.endThose (ref : Nat) (st : BatchState) (d : Device) : Device :=
  (((d.batchesOf ref).filter (fun b => b.state == st)).map (·.bid)).foldl (Device.endBatch ref) d

/-- The handed records of a wave dropped, their portions taken off (R84 step 4). -/
def Device.dropHanded (ref : Nat) (d : Device) : Device :=
  let hs := d.bp.handed.filter (fun h => h.wave == ref)
  (d.onTi (fun t => { t with tickets := hs.foldl (fun acc h => takeOffAll ref h.dish h.contribs acc) t.tickets })).onBp
    (fun p => { p with handed := p.handed.filter (fun h => h.wave != ref) })

/-- The unbatched counts of a ticket's items taken off their quantities and set to 0. Where steps 1 to 4 have left an item
less than its unbatched count, the shortfall comes off the other items of its dish, so that the law of R89 holds for
them together (R84 step 5, R89; log entry 47, DEDUCED). -/
def dropItems (items : List Item) : List Item :=
  items.foldl (fun acc it => (takeOffItems it.dish (it.unb - it.qty) acc).1)
    (items.map (fun it => { it with qty := it.qty - it.unb, unb := 0 }))

/-- Unbatched portions dropped (R84 step 5). -/
def Device.dropUnbatched (ref : Nat) (d : Device) : Device :=
  (d.onTi (fun t =>
    { t with tickets := t.tickets.map (fun x =>
        if x.wave == ref then { x with items := dropItems x.items } else x) })).onWave ref
    (fun w => { w with lines := w.lines.map (fun l => { l with demand := 0 }) })

/-- A record enters AWAY with its WAVE_AWAY notice (R84). -/
def Device.enterAway (w : Wave) (d : Device) : Device :=
  (d.onWave w.ref (fun x => { x with state := .away, est := none })).notify
    (.waveAway w.noticeId (d.batchesOf w.ref).length)

/-- What a PICKUP does to a wave held in SET (R84): each batch it ends is freed in its turn, with the formation passes R125
gives, before the next; the lanes of step 3 are offered to dispatch when the record has entered AWAY or is retired. -/
def Device.endSet (w : Wave) (d : Device) : Device :=
  let d1 : Device := (d.endThose w.ref .holding).endThose w.ref .formed
  let d2 : Device := d1.endThose w.ref .called
  let d3 : Device := ((d2.dropHanded w.ref).dropUnbatched w.ref).withdrawWave w.ref
  let d4 : Device := if (d3.batchesOf w.ref).isEmpty then d3.retire w.ref else d3.enterAway w
  if (d1.batchesOf w.ref).any (fun b => b.state == .called) then d4.dispatch else d4

/-- What a PICKUP does to the record it names (R84). -/
def Device.endWave (ref : Nat) (d : Device) : Device :=
  match d.wave? ref with
  | none => d
  | some w =>
      match w.state with
      | .opened => (d.dropUnbatched ref).retire ref
      | .settling => (d.dropUnbatched ref).retire ref
      | .goSet => d.endSet w
      | .away => d

/-- A wave abandoned: WAVE_ABANDONED, then as at pickup (R87). -/
def Device.abandonWave (ref : Nat) (d : Device) : Device :=
  match d.wave? ref with
  | none => d
  | some w => (d.notify (.waveAbandoned w.noticeId (d.batchesOf ref).length)).endWave ref

end Sys2Proof.Machine
end

