-- ==== Sys2Proof/Machine/LaneOps.lean ====
section
/-! DEFINITION. The Lane Unit's shared operations (spec/08): outputs, presses and compares, with the Batch Planner's
answer to each (R120). -/

namespace Sys2Proof.Machine

/-! ### Outputs (R16, R138, R139) -/

/-- The lamp of a configured lane during the tick that begins (R138). -/
def lampFor (now : Tick) (l : Lane) : Bool :=
  match l.state with
  | .idle => false
  | .called => fastTap now
  | .cooking =>
      (match l.flashEnd with
        | some e => if before now e then fastTap now else true
        | none => true)
  | .due => slowTap now

/-- An overdue cause stands unacknowledged on a lane (R139). -/
def Lane.ringing (l : Lane) : Bool := l.overdue != .none && !l.ack

/-- The bell is active (R139). -/
def Device.bellActive (d : Device) : Bool :=
  (List.finRange 8).any (fun i => d.configured i && (d.lane i).ringing) || d.lu.ring

/-- The lamp and BELL outputs set for the tick that begins (R16, R126, R138, R139). -/
def Device.setOutputs (d : Device) : Device :=
  d.onLu (fun u =>
    { u with
      lanes := Vector.ofFn (fun i => { u.lanes[i] with lamp := d.configured i && lampFor d.now u.lanes[i] })
      bell := d.bellActive && fastTap d.now })

/-! ### Presses (R129 to R133) -/

/-- A press is debounced: the press tick less the last press tick is 0, 1 or 2 (R129). -/
def debounced (now : Tick) (l : Lane) : Bool :=
  match l.lastPress with
  | some t => decide (0 ≤ tickDiff now t) && decide (tickDiff now t ≤ 2)
  | none => false

/-- A turn tick: start plus U where the dish is turned (R120, R131). -/
def turnTickOf (start : Tick) (u : Nat) : Option Tick := if u == 0 then none else some (start + ticks u)

/-- A start press: the batch becomes COOKING (R120, R131); an own OFFER in flight for it takes a reject request
(R148). -/
def Device.startPress (i : Fin 8) (b : Batch) (d : Device) : Device :=
  let now := d.now
  let due := now + ticks (d.cookOf b.dish)
  let turn := turnTickOf now (d.turnOf b.dish)
  let d1 : Device := d.onBatch b.bid (fun x =>
    { x with state := .cooking, start := some now, due := some due, turn := turn })
  let d2 : Device := d1.onLane i (fun l =>
    { l with state := .cooking, calledSince := none, dueTick := some due, turnTick := turn, overdue := .none,
             ack := false })
  d2.onFe (fun f =>
    { f with inFlight := f.inFlight.map (fun x => if x.entry == .offer b.bid then { x with rejectReq := true } else x) })

/-- The wave record retired when the last batch of an AWAY wave is freed (R85). -/
def Device.retireIfRunOut (ref : Nat) (d : Device) : Device :=
  match d.wave? ref with
  | some w => if w.state == .away && (d.batchesOf ref).isEmpty then d.retire ref else d
  | none => d

/-- The lane after its current batch has left it: the staged batch is called, or the lane is IDLE (R133). -/
def Device.laneDone (i : Fin 8) (d : Device) : Device :=
  match (d.lane i).staged.bind d.batch? with
  | some b => (d.onLane i Lane.release).callBatch i b
  | none => d.onLane i Lane.release

/-- A done press or early done press on a lane (R120, R132, R133): HOLDING for a SET wave, freed for an AWAY one (R85). At a
run-out the lane goes on before the formation pass of R125 step 4, so that the staged batch is called as it stands: R125
says the press has left the lane free by then, R133 that the lane goes on after the batch is freed (log entry 43, DESIGN
CHOICE). -/
def Device.donePress (i : Fin 8) (b : Batch) (d : Device) : Device :=
  let idles := ((d.lane i).staged.bind d.batch?).isNone
  if d.waveStateOf b.wave == some .away then
    let d1 : Device := (d.takeOff b).removeBatch { b with lane := none }
    let d2 : Device := (d1.laneDone i).afterFree none idles
    d2.retireIfRunOut b.wave
  else
    let now := d.now
    let d1 : Device := d.onBatch b.bid (fun x => { x with state := .holding, done := some now, lane := none })
    let d2 : Device := d1.laneDone i
    if idles then d2.dispatch else d2

/-- What a registered press does by the lane's state (R130); the estimates follow where it changed a batch (R90). -/
def Device.pressAct (i : Fin 8) (d : Device) : Device :=
  match (d.lane i).current.bind d.batch? with
  | none => d
  | some b =>
      match (d.lane i).state with
      | .idle => d
      | .called => (d.startPress i b).evaluate
      | .cooking =>
          if atOrAfter d.now (b.start.getD 0 + ticks (d.cookOf b.dish / 2)) then (d.donePress i b).evaluate else d
      | .due => (d.donePress i b).evaluate

/-- A press on a lane: the debounce test, then the act by the lane's state (R126, R129, R130). -/
def Device.press (i : Fin 8) (d : Device) : Device :=
  if !d.configured i || debounced d.now (d.lane i) then d
  else (d.onLane i (fun l => { l with lastPress := some d.now })).pressAct i

/-! ### Compares and overdue causes (R134, R136, R137) -/

/-- The turn compare (R134). -/
def Device.turnCompare (i : Fin 8) (d : Device) : Device :=
  if (d.lane i).state == .cooking && (d.lane i).turnTick == some d.now then
    d.onLane i (fun l => { l with flashEnd := some (d.now + 8), turnTick := none })
  else d

/-- The end of a turn flash (R138). -/
def Device.flashEnd (i : Fin 8) (d : Device) : Device :=
  if (d.lane i).flashEnd == some d.now then d.onLane i (fun l => { l with flashEnd := none }) else d

/-- The due compare: lane and batch become DUE and a batch may be staged (R119, R120, R134). -/
def Device.dueCompare (i : Fin 8) (d : Device) : Device :=
  if (d.lane i).state == .cooking && (d.lane i).dueTick == some d.now then
    match (d.lane i).current with
    | some bid =>
        let d1 : Device := d.onLane i (fun l => { l with state := .due, dueSince := some d.now, flashEnd := none })
        let d2 : Device := d1.onBatch bid (fun b => { b with state := .due })
        (d2.stage i).evaluate
    | none => d
  else d

/-- The boundary at which a lane's call becomes overdue: it has no cause yet (R136). -/
def Device.callDue (d : Device) (i : Fin 8) : Bool :=
  (d.lane i).state == .called && (d.lane i).overdue == .none &&
    (match (d.lane i).calledSince with
      | some t => d.now == t + ticks (d.cfg.callWindow + 1)
      | none => false)

/-- The overdue cause CALL (R136). -/
def Device.callOverdue (i : Fin 8) (d : Device) : Device :=
  if d.callDue i then d.onLane i (fun l => { l with overdue := .call, ack := false }) else d

/-- The boundary at which a lane's due batch becomes overdue: it has no cause yet (R137). -/
def Device.dueDue (d : Device) (i : Fin 8) : Bool :=
  (d.lane i).state == .due && (d.lane i).overdue == .none &&
    (match (d.lane i).dueSince with
      | some t => d.now == t + ticks (d.cfg.dueWindow + 1)
      | none => false)

/-- The overdue cause DUE (R137). -/
def Device.dueOverdue (i : Fin 8) (d : Device) : Device :=
  if d.dueDue i then d.onLane i (fun l => { l with overdue := .due, ack := false }) else d

end Sys2Proof.Machine
end

