-- ==== Sys2Proof/Machine/Waves.lean ====
section
/-! DEFINITION. The Wave Unit's and Ticket Index's shared operations: bidding, close, SET and slips (spec/06), tickets and
voids (spec/05), the taker's and the offerer's commit (spec/09). -/

namespace Sys2Proof.Machine

/-! ### Bidding (R98) -/

/-- A participant entry put in the list: its sender's place, or the end while there is room (R98). -/
def enterParticipant (p : Participant) (l : List Participant) : List Participant :=
  if l.any (fun x => x.addr == p.addr) then l.map (fun x => if x.addr == p.addr then p else x)
  else if l.length < Config.participantCapacity then l ++ [p]
  else l

/-- A participant removed by WITHDRAWN (R98). -/
def removeParticipant (a : Addr) (l : List Participant) : List Participant := l.filter (fun x => x.addr != a)

/-- An accepted READY applied to a wave record (R98). -/
def Wave.hearReady (sender : Addr) (stamp : Tick) (offset : BitVec 15) (far withdrawn : Bool) (w : Wave) : Wave :=
  if !(w.state == .opened || w.state == .settling) || atOrAfter stamp (w.close.getD 0) then w
  else if withdrawn then { w with participants := removeParticipant sender w.participants }
  else
    let p : Participant := { addr := sender, estimate := stamp + ticks offset.toNat, stamp := stamp, far := far }
    { w with participants := enterParticipant p w.participants }

/-- An accepted READY applied by a station (R98). -/
def Device.applyReady (sender : Addr) (stamp : Tick) (num : Byte) (pass : Addr) (offset : BitVec 15)
    (far withdrawn : Bool) (d : Device) : Device :=
  match d.named? pass num with
  | some w => d.onWave w.ref (Wave.hearReady sender stamp offset far withdrawn)
  | none => d

/-! ### Close, settling and SET (R99 to R102) -/

/-- An OPEN wave enters SETTLING (R99). -/
def Device.enterSettling (ref : Nat) (d : Device) : Device :=
  (d.onWave ref (fun w => { w with state := .settling, est := none })).withdraw (.ready ref)

/-- The counted entries: those whose stamp lies in the bid window (R100). -/
def Wave.counted (w : Wave) : List Participant :=
  let close := w.close.getD 0
  w.participants.filter (fun p => atOrAfter p.stamp (close - 64) && before p.stamp close)

/-- The go time: the latest of the call time and the counted estimates (R100). -/
def Wave.settledGo (w : Wave) : Tick := w.counted.foldl (fun t p => laterOf t p.estimate) (w.call.getD 0)

/-- Heard-from is after the close time less 64 (R101). -/
def Wave.heardLate (w : Wave) : Bool := before (w.close.getD 0 - 64) w.heardFrom

/-- The cause of WAVE_PARTIAL; none where the wave is not partial (R101). -/
def Wave.partialCause (w : Wave) : Option PartialCause :=
  match w.partialMark, w.heardLate with
  | true, true => some .both
  | true, false => some .link
  | false, true => some .heardFrom
  | false, false => none

/-- The record at entry to SET (R100, R101). -/
def Wave.toSet (w : Wave) : Wave :=
  { w with state := .goSet, go := some w.settledGo, slips := 0, partialMark := w.partialMark || w.heardLate,
           far := w.far || w.counted.any (·.far) }

/-- A SETTLING wave enters SET with its notices (R100, R101). -/
def Device.enterSet (w : Wave) (d : Device) : Device :=
  let id := w.noticeId
  let d1 : Device := (d.onWave w.ref (fun x => x.toSet)).notify (.waveSet id w.settledGo w.counted.length)
  let d2 : Device := match w.partialCause with
    | some c => d1.notify (.wavePartial id c)
    | none => d1
  match w.counted.find? (·.far) with
  | some p => d2.notify (.waveFar id p.addr)
  | none => d2

/-- The steps after entry to SET on a cooking station (R102); a pass takes none (R157). -/
def Device.afterSet (ref : Nat) (d : Device) : Device :=
  if d.isPass then d else (((d.formationPass ref).recompute).testNoWork ref).evaluate

/-- Own clock reaches the close time of an OPEN wave (R99). -/
def Device.waveClose (ref : Nat) (d : Device) : Device :=
  match d.wave? ref with
  | some w => if w.state == .opened && w.close == some d.now then (d.enterSettling ref).evaluate else d
  | none => d

/-- Own clock reaches the close time plus 4 of a SETTLING wave (R100). -/
def Device.waveSettle (ref : Nat) (d : Device) : Device :=
  match d.wave? ref with
  | some w =>
      if w.state == .settling && w.close == some (d.now - 4) then (d.enterSet w).afterSet ref else d
  | none => d

/-- Own clock reaches the go time plus 28,800 of a SET wave of a cooking station (R87). An own OFFER in flight for a batch
this cancels takes a reject request (R148), and so counts as rejected, also where the boundary falls after the offerer
has begun to drive its accept slot: R148 defers only presses (log entry 44, DESIGN CHOICE). -/
def Device.waveAbandon (ref : Nat) (d : Device) : Device :=
  match d.wave? ref with
  | some w =>
      if !d.isPass && w.state == .goSet && w.go == some (d.now - 28800) then
        let flying := match d.fe.inFlight with
          | some f => (match f.entry with
              | .offer bid => (d.batchesOf ref).any (fun b => b.bid == bid && b.waits)
              | _ => false)
          | none => false
        let d1 : Device := d.abandonWave ref
        let d2 : Device := if flying then
            d1.onFe (fun f => { f with inFlight := f.inFlight.map (fun x => { x with rejectReq := true }) })
          else d1
        d2.evaluate
      else d
  | none => d

/-! ### Slips (R106, R121) -/

/-- The latest start and release of a wave's FORMED batches recomputed, the fire queue put in order (R121). -/
def Device.retime (ref : Nat) (d : Device) : Device :=
  let go := d.goOf ref
  (d.onBp (fun p =>
    { p with batches := p.batches.map (fun b =>
        if b.wave == ref && b.state == .formed then
          { b with ls := d.latestStart go b.dish, rl := d.releaseOf go b.dish }
        else b) })).reorderFire

/-- A SLIP is applied, not ignored: its stamp is before go less 16 and fewer than 3 slips stand (R106). -/
def Wave.takesSlip (w : Wave) (stamp : Tick) : Bool :=
  w.state == .goSet && before stamp (w.go.getD 0 - 16) && decide (w.slips < 3)

/-- The record after an applied SLIP (R106). -/
def Wave.slipped (sent : Tick) (far : Bool) (w : Wave) : Wave :=
  { w with go := some (laterOf (w.go.getD 0) sent), slips := w.slips + 1, far := w.far || far }

/-- The notices of an applied SLIP; the rule gives no order between the two (R106, log entry 23). -/
def Device.slipNotices (w : Wave) (sender : Addr) (sent : Tick) (far : Bool) (d : Device) : Device :=
  let slipped : NoticeBody := .waveSlipped w.noticeId (laterOf (w.go.getD 0) sent) (w.slips + 1)
  if far && !w.far then
    if Config.farNoticeFirst d.now.toNat then (d.notify (.waveFar w.noticeId sender)).notify slipped
    else (d.notify slipped).notify (.waveFar w.noticeId sender)
  else d.notify slipped

/-- An accepted SLIP applied by a station (R106, R121). -/
def Device.applySlip (sender : Addr) (stamp : Tick) (num : Byte) (pass : Addr) (offset : BitVec 15) (far : Bool)
    (d : Device) : Device :=
  match d.named? pass num with
  | none => d
  | some w =>
      if !w.takesSlip stamp then d
      else
        let sent := stamp + ticks offset.toNat
        let d1 : Device := (d.onWave w.ref (Wave.slipped sent far)).slipNotices w sender sent far
        if d1.isPass then d1 else ((d1.retime w.ref).dispatch).evaluate

/-! ### Tickets (R72 to R76) -/

/-- The items of a ticket that this station cooks (R72). -/
def Device.keptItems (d : Device) (items : List Order) : List Order := items.filter (fun o => (d.dish? o.dish).isSome)

/-- The ticket is this station's own (R72). -/
def Device.ownTicket (d : Device) (serial : Serial) (items : List Order) : Bool :=
  !d.isPass && serial.toNat % d.cfg.shareCount == d.cfg.shareIndex && !(d.keptItems items).isEmpty

/-- What R74 does with the record a TICKET names. -/
inductive WaveUse where
  | create
  | file
  | takeOver
  | renameAway
  | replace
  deriving DecidableEq, Repr

/-- The course R74 takes for a ticket with a call time. -/
def waveUse (call : Tick) : Option Wave → WaveUse
  | none => .create
  | some w =>
      if w.call == some call then .file
      else if w.state == .goSet && w.adoptedOnly then .takeOver
      else if w.state == .away then .renameAway
      else .replace

/-- A record has batches on the heat: COOKING or DUE. -/
def Device.onHeat (d : Device) (ref : Nat) : Bool :=
  (d.batchesOf ref).any (fun b => b.state == .cooking || b.state == .due)

/-- The dishes of kept items a wave has no line for, each once (R73). -/
def newDishes (w : Wave) (kept : List Order) : List Byte :=
  ((kept.map (·.dish)).filter (fun c => !w.lines.any (fun l => l.dish == c))).dedup

/-- The causes for which a station cannot hold a ticket (R73). -/
def Device.shortCauses (d : Device) (w? : Option Wave) (call : Tick) (kept : List Order) : List ShortCause :=
  let use := waveUse call w?
  let ref := (w?.map (·.ref)).getD 0
  let outright := use == .replace && !d.onHeat ref
  let waveRoom := d.wu.waves.length - (if outright then 1 else 0)
  let ticketRoom := d.ti.tickets.length - (if outright then (d.ti.tickets.filter (fun t => t.wave == ref)).length else 0)
  let needsNew := use == .create || use == .renameAway || use == .replace
  let lines : Bool := match w? with
    | some w => (use == .file || use == .takeOver) &&
        decide (Config.dishLineCapacity < w.lines.length + (newDishes w kept).length)
    | none => false
  (if needsNew && decide (Config.waveCapacity ≤ waveRoom) then [.waveTable] else []) ++
    (if Config.ticketCapacity ≤ ticketRoom then [.ticketIndex] else []) ++ (if lines then [.dishLines] else [])

/-- The cause a TICKET_SHORT notice names: the one that holds, or a free choice among several (log entry 18). -/
def pickCause (key : Nat) : List ShortCause → Option ShortCause
  | [] => none
  | [c] => some c
  | c :: cs => some ((c :: cs).getD (Config.shortCause key % (c :: cs).length) c)

/-- The decision about a TICKET at body end (R72, R73). -/
def Device.decideTicket (d : Device) (sender : Addr) (num : Byte) (serial : Serial) (call : Tick) (items : List Order) :
    TicketDecision :=
  if !d.ownTicket serial items then .disregard
  else if d.ti.tickets.any (fun t => t.pass == sender && t.serial == serial) then .disregard
  else
    let w? := d.named? sender num
    if (w?.map (fun w => w.state == .away && w.call == some call)).getD false then .away
    else
      match pickCause (d.now.toNat * 65536 + serial.toNat) (d.shortCauses w? call (d.keptItems items)) with
      | some c => .cannotHold c
      | none => .hold

/-- A wave record as a TICKET creates it (R76). -/
def Device.ticketWave (d : Device) (sender : Addr) (stamp : Tick) (num : Byte) (call : Tick) (lead : BitVec 16)
    (goPresent : Bool) (go : Tick) : Wave :=
  let close := call - ticks lead.toNat
  { ref := d.wu.nextRef
    id := some { pass := sender, num := num }
    call := some call
    lead := some lead
    close := some close
    state := if goPresent then .goSet else if before stamp close then .opened else .settling
    go := if goPresent then some go else none
    slips := 0
    heardFrom := laterOf (d.fe.viewFrom.getD stamp) stamp
    partialMark := false
    far := false
    participants := []
    own := .absent
    est := none
    lines := []
    adoptedOnly := false
    anonymous := false
    pickupPending := false }

/-- A wave record appended to the wave table (R69). -/
def Device.addWave (w : Wave) (d : Device) : Device :=
  d.onWu (fun u => { waves := u.waves ++ [w], nextRef := u.nextRef + 1 })

/-- A record created past its close by this station's clock passes to SETTLING, and past close plus 4 to SET (R76). -/
def Device.catchUp (ref : Nat) (d : Device) : Device :=
  let d1 : Device := match d.wave? ref with
    | some w => if w.state == .opened && atOrAfter d.now (w.close.getD 0) then d.enterSettling ref else d
    | none => d
  match d1.wave? ref with
  | some w => if w.state == .settling && atOrAfter d1.now (w.close.getD 0 + 4) then d1.enterSet w else d1
  | none => d1

/-- A new wave record from a TICKET, with its passages and notices (R76, R101). -/
def Device.createFromTicket (sender : Addr) (stamp : Tick) (num : Byte) (call : Tick) (lead : BitVec 16)
    (goPresent : Bool) (go : Tick) (d : Device) : Device :=
  let w := d.ticketWave sender stamp num call lead goPresent go
  let d1 : Device := d.addWave w
  if goPresent then d1.notify (.waveSet w.noticeId go 0) else d1.catchUp w.ref

/-- The record of a wave whose number the pass has reused makes way: retired as at abandonment, and made anonymous where
batches still run out (R74). -/
def Device.displace (ref : Nat) (d : Device) : Device :=
  let d1 : Device := d.abandonWave ref
  if (d1.wave? ref).isSome then d1.makeAnonymous ref else d1

/-- A TICKET's record found or created: the part after it and the record's identity (R74). -/
def Device.findWave (sender : Addr) (stamp : Tick) (num : Byte) (call : Tick) (lead : BitVec 16) (goPresent : Bool)
    (go : Tick) (d : Device) : Device × Nat :=
  let w? := d.named? sender num
  let ref := (w?.map (·.ref)).getD 0
  let fresh : Device → Device × Nat := fun x =>
    (x.createFromTicket sender stamp num call lead goPresent go, x.wu.nextRef)
  match waveUse call w? with
  | .create => fresh d
  | .file => (d, ref)
  | .takeOver =>
      (d.onWave ref (fun w =>
        { w with call := some call, lead := some lead, close := some (call - ticks lead.toNat), adoptedOnly := false }),
        ref)
  | .renameAway => fresh (d.makeAnonymous ref)
  | .replace => fresh (d.displace ref)

/-- A ticket filed against a record (R75). -/
def Device.fileTicket (sender : Addr) (serial : Serial) (ref : Nat) (kept : List Order) (d : Device) : Device :=
  (d.onTi (fun t =>
    { t with tickets := t.tickets ++
        [{ pass := sender, serial := serial, wave := ref,
           items := kept.map (fun o => { dish := o.dish, qty := o.qty, unb := o.qty }) }] })).onWave ref
    (fun w => { w with lines := kept.foldl (fun ls o => addDemand o.dish o.qty ls) w.lines })

/-- What follows the filing: formation where the record is SET, with the steps of R102 where it is newly so (R75). -/
def Device.afterFiling (ref : Nat) (isNew : Bool) (d : Device) : Device :=
  if d.waveStateOf ref == some .goSet then
    if isNew then d.afterSet ref else (d.formationPass ref).evaluate
  else d.evaluate

/-- An accepted TICKET filed by a station that decided to hold it (R74, R75). -/
def Device.takeTicket (sender : Addr) (stamp : Tick) (num : Byte) (serial : Serial) (call : Tick) (lead : BitVec 16)
    (goPresent : Bool) (go : Tick) (items : List Order) (d : Device) : Device :=
  let isNew := waveUse call (d.named? sender num) != .file && waveUse call (d.named? sender num) != .takeOver
  let r := d.findWave sender stamp num call lead goPresent go
  (r.1.fileTicket sender serial r.2 (r.1.keptItems items)).afterFiling r.2 isNew

/-! ### Voids (R77 to R80) -/

/-- A serial's entry removed from a contributor list. -/
def dropSerial (serial : Serial) (cs : List Contrib) : List Contrib := cs.filter (fun c => c.serial != serial)

/-- A batch lists a serial. -/
def Batch.lists (b : Batch) (serial : Serial) : Bool := b.contribs.any (fun c => c.serial == serial)

/-- A VOID empties a waiting batch (R78). -/
def Batch.emptiedBy (b : Batch) (serial : Serial) : Bool := b.waits && (dropSerial serial b.contribs).isEmpty

/-- One batch that lists the serial, by its state when its turn comes: one left empty is freed with all that R125 gives
(R78, R125). -/
def Device.voidBatch (serial : Serial) (d : Device) (bid : Nat) : Device :=
  match d.batch? bid with
  | none => d
  | some b =>
      if b.emptiedBy serial then d.freeBatch b
      else
        d.onBatch bid (fun x =>
          { x with contribs := dropSerial serial x.contribs,
                   portions := if x.waits then portionsOf (dropSerial serial x.contribs) else x.portions })

/-- The handed records of a wave without a serial's entries, those left empty dropped (R79). -/
def voidHanded (ref : Nat) (serial : Serial) (hs : List Handed) : List Handed :=
  (hs.map (fun h => if h.wave == ref then { h with contribs := dropSerial serial h.contribs } else h)).filter
    (fun h => !(h.wave == ref && h.contribs.isEmpty))

/-- The ticket a VOID names leaves the index, its unbatched portions the demand (R77). -/
def Device.dropTicket (t : Ticket) (d : Device) : Device :=
  t.items.foldl (fun x it => x.lowerDemand t.wave it.dish it.unb)
    (d.onTi (fun i => { i with tickets := i.tickets.filter (fun x => !(x.pass == t.pass && x.serial == t.serial)) }))

/-- An accepted VOID applied by a cooking station (R77 to R80, R86). The batches that list the serial are taken in the order
in which they came into the pool: R78 and R125 give no order of those it frees, which decides the lane a dispatch pass
serves first (log entry 22, DESIGN CHOICE). -/
def Device.applyVoid (sender : Addr) (num : Byte) (serial : Serial) (d : Device) : Device :=
  match d.named? sender num with
  | none => d
  | some w =>
      let t? := d.ti.tickets.find? (fun t => t.pass == sender && t.serial == serial && t.wave == w.ref)
      let d1 : Device := match t? with
        | some t => d.dropTicket t
        | none => d
      let bs := (d.batchesOf w.ref).filter (fun b => b.lists serial && (t?.isSome || b.adopted))
      let d2 : Device := ((bs.map (·.bid)).foldl (Device.voidBatch serial) d1).onBp
        (fun p => { p with handed := voidHanded w.ref serial p.handed })
      if t?.isSome || !bs.isEmpty then (d2.testNoWork w.ref).evaluate else d2

/-! ### Pickups (R84) -/

/-- An accepted PICKUP applied by a cooking station (R84). -/
def Device.applyPickup (sender : Addr) (num : Byte) (d : Device) : Device :=
  match d.named? sender num with
  | none => d
  | some w => if w.state == .away then d else (d.endWave w.ref).evaluate

/-! ### Hand-off (R149 to R152) -/

/-- The station qualifies as taker of an OFFER by its records at body end (R150). -/
def Device.qualifies (d : Device) (cls : ClassNo) (num : Byte) (pass : Addr) (go : Tick) (dish : Byte)
    (portions : Nat) : Bool :=
  match d.dish? dish with
  | none => false
  | some x =>
      cls == d.strap.cls
        && decide (portions ≤ x.batch)
        && (List.finRange 8).any (fun i => d.laneFree i && d.laneKind i == x.kind)
        && !d.queued.any (fun b => d.kindOf b.dish == some x.kind && d.released b)
        && !before (go + 8) (d.now + ticks x.cook + ticks d.cfg.margin)
        && decide (0 < d.poolFree)
        && (match d.named? pass num with
            | some w => w.state == .goSet
            | none => decide (d.wu.waves.length < Config.waveCapacity))

/-- The lane a winner reserves: its lowest-numbered free lane of the kind (R151). -/
def Device.laneToReserve (d : Device) (dish : Byte) : Option (Fin 8) :=
  (List.finRange 8).find? (fun i => d.laneFree i && some (d.laneKind i) == d.kindOf dish)

/-- A wave record as an adoption creates it (R152). -/
def Device.adoptedWave (d : Device) (stamp : Tick) (num : Byte) (pass : Addr) (go : Tick) (slips : Nat) : Wave where
  ref := d.wu.nextRef
  id := some { pass := pass, num := num }
  call := none
  lead := none
  close := none
  state := .goSet
  go := some go
  slips := slips
  heardFrom := laterOf (d.fe.viewFrom.getD stamp) stamp
  partialMark := false
  far := false
  participants := []
  own := .absent
  est := none
  lines := []
  adoptedOnly := true
  anonymous := false
  pickupPending := false

/-- The batch of an adoption (R152). -/
def Device.adoptedBatch (d : Device) (ref : Nat) (dish : Byte) (portions : Nat) (cs : List Contrib) : Batch :=
  { d.formedBatch ref dish cs with portions := portions, attempts := 2, adopted := true }

/-- The reservation of a lane cleared (R128). -/
def Device.unreserve (lane : Option (Fin 8)) (d : Device) : Device :=
  match lane with
  | some i => d.onLane i (fun l => { l with reserved := false })
  | none => d

/-- The winner gives up its reservation and its held record: dispatch, then formation, and the estimates where they changed
a batch (R90, R128, R150, R151). -/
def Device.releaseTaker (lane : Option (Fin 8)) (d : Device) : Device :=
  (((d.unreserve lane).dispatch).formWaiting).evaluateSince d

/-- The taker's commit (R152), the held record already back in the pool. -/
def Device.takerCommit (lane : Option (Fin 8)) (sender : Addr) (stamp : Tick) (num : Byte) (pass : Addr) (go : Tick)
    (slips : Nat) (dish : Byte) (portions : Nat) (cs : List Contrib) (d : Device) : Device :=
  let w? := d.named? pass num
  if (w?.map (fun w => w.state != .goSet)).getD false then d.releaseTaker lane
  else
    let ref := (w?.map (·.ref)).getD d.wu.nextRef
    let d1 : Device := if w?.isSome then d else d.addWave (d.adoptedWave stamp num pass go slips)
    let bid := d1.bp.nextBid
    let seq := d1.bp.counter
    let d2 : Device := d1.addBatch (d1.adoptedBatch ref dish portions cs)
    let d3 : Device := match lane with
      | some i => d2.beginCall i bid
      | none => (d2.joinFire bid).dispatch
    (d3.notify (.batchAdopted { pass := pass, num := num } seq dish portions sender lane)).evaluate

/-- The offerer's commit (R149). -/
def Device.offererCommit (taker : Addr) (b : Batch) (d : Device) : Device :=
  let d1 : Device := d.onBp (fun p =>
    { p with handed := p.handed ++
        [{ wave := b.wave, dish := b.dish, taker := taker, seq := b.seq, handedAt := d.now, contribs := b.contribs }] })
  let id := d.waveIdOf b.wave
  let d2 : Device := d1.freeBatch b
  (d2.notify (.batchHanded id b.seq b.dish b.portions taker)).testNoWork b.wave

/-! ### Hold expiry (R122, R123) -/

/-- A HOLDING batch expires at this boundary: own clock reaches done plus M plus H plus 1 (R122). -/
def Device.expires (d : Device) (b : Batch) : Bool :=
  b.state == .holding && b.done == some (d.now - ticks (d.cfg.margin + d.holdOf b.dish + 1))

/-- An expired batch refired (R122). -/
def Device.refire (b : Batch) (d : Device) : Device :=
  let go := d.goOf b.wave
  let n := portionsOf b.contribs
  let d1 : Device := d.onBatch b.bid (fun x =>
    { x with portions := n, state := .formed, refire := 1, done := none, start := none, due := none, turn := none,
             ls := d.latestStart go b.dish, rl := d.releaseOf go b.dish })
  ((d1.joinFire b.bid).notify (.batchSpoiled (d.waveIdOf b.wave) b.seq b.dish n)).dispatch

/-- An expired batch lost, its portions taken off the items (R123), of the later of two items of its dish first as R123 and
R84 write it, also where that leaves the later item less than its unbatched count: R89's law then holds for the two items
together and not for each alone (log entry 47, DEDUCED). -/
def Device.loseBatch (b : Batch) (d : Device) : Device :=
  let id := d.waveIdOf b.wave
  let d1 : Device := ((d.freeBatch b).takeOff b).notify (.batchLost id b.seq b.dish (portionsOf b.contribs))
  d1.testNoWork b.wave

/-- A HOLDING batch at the boundary of its expiry (R122, R123). -/
def Device.holdExpiry (bid : Nat) (d : Device) : Device :=
  match d.batch? bid with
  | none => d
  | some b =>
      if !d.expires b then d
      else if b.contribs.isEmpty then ((d.freeBatch b).testNoWork b.wave).evaluate
      else if b.refire == 0 then (d.refire b).evaluate
      else (d.loseBatch b).evaluate

end Sys2Proof.Machine
end

