-- ==== Sys2Proof/Machine/Line.lean ====
section
/-! DEFINITION. The line itself: error counts and QUIET, the line modes, what is driven and received in each, and the slot
times between frames (spec/02, 03); with the head of the issue queue, which a boundary may move (spec/10). -/

namespace Sys2Proof.Machine

/-! ### QUIET and partial marks (R46, R55) -/

/-- Every OPEN or SETTLING record marked partial (R55). -/
def Device.markPartial (d : Device) : Device :=
  d.onWu (fun u =>
    { u with waves := u.waves.map (fun w =>
        if w.state == .opened || w.state == .settling then { w with partialMark := true } else w) })

/-- The OFFER entry withdrawn and its batch's offer-pending marker cleared; no attempt is counted (R40, R145). -/
def Device.withdrawOffer (d : Device) : Device :=
  (d.fe.txq.foldl (fun x e =>
    match e with
    | .offer bid => x.onBatch bid (fun b => { b with offerPending := false })
    | _ => x) d).withdraw (.offer 0)

/-- The station enters QUIET (R17, R40, R46, R55). -/
def Device.enterQuiet (d : Device) : Device :=
  let tec := d.fe.tecCount
  let recv := d.fe.recCount
  let d1 : Device := d.notify (.linkQuiet tec recv (decide (128 ≤ tec)) (decide (128 ≤ recv)))
  let d2 : Device := (d1.withdrawOffer).withdraw .mark
  let d3 : Device := d2.onFe (fun f => { f with station := .quiet, quietCount := 0 })
  (d3.onSck (fun k => { k with markQuiet := 0, markDue := false })).markPartial

/-- QUIET is entered when TEC or REC has reached 128 while ON_LINE (R46). -/
def Device.quietIfDue (d : Device) : Device :=
  if d.fe.station == .onLine && (decide (128 ≤ d.fe.tecCount) || decide (128 ≤ d.fe.recCount)) then d.enterQuiet else d

/-- The station's finding on a received frame counted: in REC while ON_LINE (R44), as a partial mark for a bad frame while
QUIET (R55). -/
def Device.countHeard (bad : Bool) (d : Device) : Device :=
  match d.fe.station with
  | .onLine => (d.onFe (fun f => { f with recCount := if bad then f.recCount + 1 else f.recCount - 1 })).quietIfDue
  | .quiet => if bad then d.markPartial else d
  | .standby => d
  | .listen => d

/-! ### Line modes (R48 to R53) -/

/-- A single mode: A_ONLY or B_ONLY. -/
def LineMode.single : LineMode → Bool
  | .aOnly => true
  | .bOnly => true
  | .dual => false
  | .down => false

/-- The single mode of a wire. -/
def modeOf : Wire → LineMode
  | .a => .aOnly
  | .b => .bOnly

/-- The other wire. -/
def otherWire : Wire → Wire
  | .a => .b
  | .b => .a

/-- The good wire of a single mode. -/
def LineMode.goodWire : LineMode → Wire
  | .bOnly => .b
  | .aOnly => .a
  | .dual => .a
  | .down => .a

/-- What a station receives the Link with: the differential receiver, or one wire's receiver single-ended (R48). -/
inductive ReceivePath where
  | differential
  | single (w : Wire)
  deriving DecidableEq, Repr

/-- The receive path of a line mode; in DOWN there is none and the FE follows no frame (R48). -/
def LineMode.path : LineMode → Option ReceivePath
  | .dual => some .differential
  | .aOnly => some (.single .a)
  | .bOnly => some (.single .b)
  | .down => none

/-- The wires a station drives in a line mode (R48). -/
def LineMode.wires : LineMode → List Wire
  | .dual => [.a, .b]
  | .aOnly => [.a]
  | .bOnly => [.b]
  | .down => []

/-- The mode a line lock gives (R53). -/
def lockMode : LineLock → LineMode
  | .auto => .dual
  | .aOnly => .aOnly
  | .bOnly => .bOnly

/-- A wire's status set. -/
def Lif.setWire (w : Wire) (s : WireStatus) (l : Lif) : Lif :=
  match w with
  | .a => { l with wireA := s }
  | .b => { l with wireB := s }

/-- The silence counts as a row reports them: `w` at 16, the other wire at 0 or 1. -/
def Lif.setSilence (w : Wire) (other : Fin 2) (l : Lif) : Lif :=
  match w with
  | .a => { l with silenceA := 16, silenceB := other.val }
  | .b => { l with silenceB := 16, silenceA := other.val }

/-- Slot times without a transition pass on both wires: each silence count rises, capped at 16 (R48). -/
def Lif.passSlots (n : Nat) (l : Lif) : Lif :=
  { l with silenceA := min 16 (l.silenceA + n), silenceB := min 16 (l.silenceB + n) }

/-- The silence counts that a row with transitions on the wires brings: each receiver's own, of a good wire, of a FAILED
one, and in DOWN (R48). -/
def Lif.hear (q : Silences) (l : Lif) : Lif := { l with silenceA := q.silentA.val, silenceB := q.silentB.val }

/-- The wires as a valid frame ends on one of them in DOWN: it is GOOD, seven slot times without a transition have passed
on it, and the other's count is its own (R48, R52). -/
def Lif.frameSeen (w : Wire) (other : Fin 17) (l : Lif) : Lif :=
  match w with
  | .a => { l with wireA := .good, silenceA := 7, silenceB := other.val, cleanCount := 0 }
  | .b => { l with wireB := .good, silenceB := 7, silenceA := other.val, cleanCount := 0 }

/-- The end of a frame the FE followed: the wires compared in a single mode of an unlocked station (R50, R53). -/
def Lif.frameEnds (lock : LineLock) (agree : Bool) (l : Lif) : Lif :=
  { l with
    cleanCount :=
      if l.mode.single && lock == .auto then (if agree then min 64 (l.cleanCount + 1) else 0) else l.cleanCount }

/-- A mode change with its LINE_MODE notice (R49 to R53). -/
def Device.changeMode (m : LineMode) (cause : ModeCause) (d : Device) : Device :=
  (d.notify (.lineMode d.lif.mode m cause)).onLif (fun l => { l with mode := m })

/-- The return to DUAL is due: the clean-frame count stands at 64 (R50). -/
def Device.returnDue (d : Device) : Bool :=
  d.fe.station != .standby && d.lif.mode.single && d.cfg.lock == .auto && decide (64 ≤ d.lif.cleanCount)

/-- The return to DUAL (R50). -/
def Device.lineReturn (d : Device) : Device :=
  if d.returnDue then
    (d.changeMode .dual .lineReturn).onLif (fun l => { l with wireA := .good, wireB := .good, cleanCount := 0 })
  else d

/-- The mode set from the line lock by CONFIGURE or JOIN, with a notice where it changes (R53). -/
def Device.applyLock (cause : ModeCause) (d : Device) : Device :=
  let m := lockMode d.cfg.lock
  let d1 : Device := if d.lif.mode == m then d else d.changeMode m cause
  d1.onLif (fun l =>
    { l with wireA := if d.cfg.lock == .bOnly then .failed else .good
             wireB := if d.cfg.lock == .aOnly then .failed else .good })

/-! ### Driving (R18, R20, R48) -/

/-- The slots of an act of the driver: dominant symbols, a reject break without a transition, and in a reply field nothing for
a bit 1 (R18, R25, R28 to R32). A view of the act, which nothing reads back (log entry 12). -/
def LineAct.slots : LineAct → List Slot
  | .startSlot => [Slot.symbol false]
  | .rejectBreak => [⟨.dominant, .dominant⟩, ⟨.dominant, .dominant⟩]
  | .shortSlot => [Slot.symbol false]
  | .takerSlots bits => bits.map (fun b => if b then Slot.undriven else Slot.symbol false)
  | .checkSlots bits => (bitsOf 2 bits.toNat).map (fun b => if b then Slot.undriven else Slot.symbol false)
  | .acceptDominant => [Slot.symbol false]

/-- An act of the driver on the wires the line mode gives (R48). -/
def Device.driven (d : Device) (a : LineAct) : Drive := { act := a, wires := d.lif.mode.wires }

/-- What the station drives recorded. -/
def Device.drive (a : LineAct) (d : Device) : Device := d.onFe (fun f => { f with drove := f.drove ++ [d.driven a] })

/-- A new Link event begins: nothing driven yet. -/
def Device.quietLine (d : Device) : Device := d.onFe (fun f => { f with drove := [] })

/-- The station may drive in a frame it took by the state `start`: ON_LINE then and now, and a mode in which it drives a
wire, that is any but DOWN (R20, R28, R32, R48). -/
def Device.mayDrive (start : StationState) (d : Device) : Bool :=
  start == .onLine && d.fe.station == .onLine && !d.lif.mode.wires.isEmpty

/-- The station follows frames: not in STANDBY, and with a receive path (R20, R48). -/
def Device.follows (d : Device) : Bool := d.fe.station != .standby && d.lif.mode.path.isSome

/-- A frame is on the line as the FE knows it: one of its own, or one it is following. -/
def Device.frameInHand (d : Device) : Bool := d.fe.inFlight.isSome || d.fe.rx.isSome

/-! ### Slot times between frames (R19, R48) -/

/-- Slot times without an edge pass: the idle count of a station that follows the Link rises, capped at 11, and the silence
counts of a station not in STANDBY (R19, R48). While a frame is in hand no slot is without an edge, and the silence counts
stand until the next row that brings them (log entry 10). -/
def Device.passSlots (n : Nat) (d : Device) : Device :=
  if d.frameInHand then d
  else
    let d1 : Device := if d.follows then d.onFe (fun f => { f with idleCount := min 11 (f.idleCount + n) }) else d
    if d.fe.station == .standby then d1 else d1.onLif (Lif.passSlots n)

/-- An edge is seen: the idle count returns to 0 (R19). -/
def Device.edge (d : Device) : Device := d.onFe (fun f => { f with idleCount := 0 })

/-- The silence counts at the end of what a row brings; in STANDBY they are held at 0 (R48). -/
def Device.hear (q : Silences) (d : Device) : Device :=
  if d.fe.station == .standby then d else d.onLif (Lif.hear q)

/-! ### The head of the issue queue (R160) -/

/-- The head of the issue queue placed when no issue entry waits or is in flight (R160). -/
def Device.placeHead (d : Device) : Device :=
  if !d.iu.queue.isEmpty && !d.waiting .issue && !d.flying .issue then d.place .issue else d

/-- The head leaves the issue queue (R160). -/
def Device.dropHead (d : Device) : Device := d.onIu (fun u => { u with queue := u.queue.tail })

end Sys2Proof.Machine
end

