-- ==== Sys2Proof/Machine/Boundary.lean ====
section
/-! DEFINITION. The tick boundary and its events, the period end, the ends of LISTEN and QUIET, and the passing of crystal
counts (spec/01, 04). -/

namespace Sys2Proof.Machine

/-! ### The period end (R8, R12, R13) -/

/-- A station is idle: it holds no wave record and every lane is IDLE (R13). -/
def Device.idleStation (d : Device) : Bool := d.wu.waves.isEmpty && d.allIdle

/-- A clock step with its CLOCK_STEP notice (R14). -/
def Device.stepClock (kind : StepKind) (size : Int) (d : Device) : Device :=
  (d.onSck (Sck.stepBy size)).notify (.clockStep kind size)

/-- The mean step of LISTEN after the first step (R12). -/
def Device.meanStep (d : Device) : Device :=
  match d.sck.mean with
  | some m => if m == 0 then d else d.stepClock .mean m
  | none => d

/-- The idle forward step of ON_LINE, or the correction where none is taken (R8, R13). -/
def Device.forwardOrCorrect (d : Device) : Device :=
  match d.sck.median with
  | some m =>
      if d.idleStation && decide (1024 < m) then
        (d.stepClock .forward m).onSck (fun k => { k with corr := 0 })
      else d.onSck Sck.correct
  | none => d.onSck Sck.correct

/-- What a period end does by the station state (the table of R8). -/
def Device.periodAction (d : Device) : Device :=
  match d.fe.station with
  | .standby => d
  | .listen => if d.sck.firstStep then d else d.meanStep
  | .onLine => d.forwardOrCorrect
  | .quiet => d.onSck Sck.correct

/-- The period end of this boundary: the action by state, the list emptied, then the length of the tick that begins
there, and the outputs by the taps of the clock as it stands (R2, R8, R16). -/
def Device.periodEnd (d : Device) : Device :=
  if d.sck.periodEndDue then
    ((d.periodAction).onSck (fun k => Sck.slew { k with samples := [], periodEndDue := false })).setOutputs
  else d

/-! ### MARK, LISTEN and QUIET (R15, R47, R66) -/

/-- A MARK placed at a boundary at which the quiet count is 32 (R15). -/
def Device.markPlace (d : Device) : Device :=
  let d1 : Device := d.onSck (fun k => { k with markDue := false })
  if d.sck.markDue && d.fe.station == .onLine && d.sck.markQuiet == 32 && !d.waiting .mark then d1.place .mark else d1

/-- LISTEN ends at its 128th boundary: ON_LINE, with the view-from time (R17, R66). R3 lets a reading taken at a tick
boundary give the old tick or the new one; the view-from time is the new tick here (log entry 42, DESIGN CHOICE). -/
def Device.listenEnd (d : Device) : Device :=
  if d.fe.station == .listen && d.fe.listenCount == 128 then
    (d.onFe (fun f => { f with station := .onLine, listenCount := 0, viewFrom := some d.now })).onSck
      (fun k => Sck.restart { k with firstStep := false, markQuiet := 0 })
  else d

/-- QUIET ends at its 128th boundary: ON_LINE with both error counts at 0 (R17, R47). -/
def Device.quietEnd (d : Device) : Device :=
  if d.fe.station == .quiet && d.fe.quietCount == 128 then
    (d.onFe (fun f => { f with station := .onLine, quietCount := 0, tecCount := 0, recCount := 0 })).onSck
      (fun k => { k with markQuiet := 0 })
  else d

/-! ### The tick boundary (R1) -/

/-- The events of one lane at a boundary (R134, R136 to R138). -/
def Device.laneBoundary (d : Device) (i : Fin 8) : Device :=
  ((((d.turnCompare i).flashEnd i).dueCompare i).callOverdue i).dueOverdue i

/-- The issue queue of a pass when the wave of a number is abandoned: its entries that wait leave; the head whose frame is in
flight stays for its fate with the body it was filled with, and so does one left so by an earlier wave of the number
(R166). -/
def withoutWave (num : Byte) (flying : Option Body) : List IssueEntry → List IssueEntry
  | [] => []
  | e :: rest =>
      let keep := rest.filter (fun x => x.num != num)
      if e.num == num && e.orphan.isNone then
        (match flying with
          | some b => { e with orphan := some b } :: keep
          | none => keep)
      else e :: keep

/-- The body of an issue frame in flight (R36). -/
def Device.issueFlying (d : Device) : Option Body :=
  match d.fe.inFlight with
  | some f => if f.entry == .issue then some f.frame.body else none
  | none => none

/-- Own clock reaches the go time plus 28,800 of a SET wave of a pass (R166). -/
def Device.passAbandon (ref : Nat) (d : Device) : Device :=
  match d.wave? ref with
  | some w =>
      if d.isPass && w.state == .goSet && w.go == some (d.now - 28800) then
        let num := w.noticeId.num
        let n := (d.ti.issues.filter (fun r => r.wave == ref)).length
        let d1 : Device := (d.notify (.waveAbandoned w.noticeId n)).retire ref
        let d2 : Device := d1.onIu (fun u => { u with queue := withoutWave num d.issueFlying u.queue })
        let gone := d.issueFlying.isNone &&
          ((d.iu.queue.head?.map (fun e => e.num == num && e.orphan.isNone)).getD false)
        (if gone then d2.withdraw .issue else d2).placeHead
      else d
  | none => d

/-- The events of one wave record at a boundary (R87, R99, R100, R166). -/
def Device.waveBoundary (d : Device) (ref : Nat) : Device :=
  (((d.waveClose ref).waveSettle ref).waveAbandon ref).passAbandon ref

/-- The events of a boundary in one order, the placing of a MARK last (R8, R15, R47, R66, R87, R99, R100, R122, R134, R136
to R138, R166; log entry 4). Each does nothing where it is not due or a command has taken it. -/
def Device.boundaryEvents (d : Device) : Device :=
  let d1 : Device := ((d.periodEnd).listenEnd).quietEnd
  let d2 : Device := (List.finRange 8).foldl Device.laneBoundary d1
  let d3 : Device := (d2.bp.batches.map (·.bid)).foldl (fun x b => x.holdExpiry b) d2
  let d4 : Device := (d3.wu.waves.map (·.ref)).foldl Device.waveBoundary d3
  d4.markPlace

/-- What is still to be taken at this instant, taken before time passes: a return to DUAL (R50), and the events of the tick
boundary while no crystal count has passed since it, so that each falls at its own boundary (R1, R2, R14; log
entry 4). -/
def Device.settleBoundary (d : Device) : Device :=
  let d1 : Device := d.lineReturn
  if d1.sck.atBoundary then (d1.boundaryEvents).onSck (fun k => { k with atBoundary := false }) else d1

/-- Crystal counts pass within the current tick, after what was still to be taken at this instant (R1; log entry 7). -/
def Device.pass (counts : Nat) (d : Device) : Device :=
  if counts == 0 then d else (d.settleBoundary).onSck (Sck.advance counts)

/-- The counts of elapsed ticks that the Frame Engine keeps: LISTEN and QUIET length (R47, R66). -/
def Fe.countTick (f : Fe) : Fe :=
  match f.station with
  | .listen => { f with listenCount := min 128 (f.listenCount + 1) }
  | .quiet => { f with quietCount := min 128 (f.quietCount + 1) }
  | .standby => f
  | .onLine => f

/-- A MARK belongs to this boundary (R15). -/
def Device.markFalls (d : Device) : Bool :=
  d.fe.station == .onLine && d.sck.markQuiet == 32 && !d.waiting .mark

/-- The boundary itself: the tick counter and the counts of elapsed ticks, the length of the tick that begins, the
outputs, the dispatch pass, the estimates with the conditions they lead to (R1, R2, R15, R16, R90, R117). The outputs are
set before the compares and the overdue causes of the same boundary are taken, where R138 and R139 allow either order: a
turn flash shows from the tick after the turn tick, and a new overdue cause sounds from the tick after its boundary (log
entry 26, DESIGN CHOICE). -/
def Device.newTick (d : Device) : Device :=
  let d1 : Device := (d.onSck (Sck.countTick (d.fe.station == .onLine))).onFe Fe.countTick
  let d2 : Device := (d1.onSck Sck.beginTick).setOutputs
  let d3 : Device := (d2.dispatch).evaluate
  d3.onSck (fun k => { k with markDue := d3.markFalls })

/-- The whole slot times of 16 µs that end in the crystal counts from prescaler `p` up to `q`: 62,500 slots to 32,768
counts a second, counted from the prescaler at 0 (R18; log entry 9, DESIGN CHOICE). -/
def slotsBetween (p q : Nat) : Nat := q * 15625 / 8192 - p * 15625 / 8192

/-- Crystal counts pass within the tick, and with them their slot times on a line without a frame in hand (R1, R19, R48). -/
def Device.letPass (counts : Nat) (d : Device) : Device :=
  let k := d.sck.advance counts
  (d.passSlots (slotsBetween d.sck.prescaler k.prescaler)).onSck (fun _ => k)

/-- Crystal counts pass on a line that shows no edge, after what was still to be taken at this instant (R1; log entries 7
and 9). -/
def Device.passIdle (counts : Nat) (d : Device) : Device :=
  if counts == 0 then d else (d.settleBoundary).letPass counts

/-- The slot times of the rest of the tick pass on a line without a frame in hand, and the new tick begins (R1, R19,
R48). -/
def Device.endTick (d : Device) : Device :=
  (d.passSlots (slotsBetween d.sck.prescaler (d.sck.terminal + 1))).newTick

/-- A tick boundary, after what was still to be taken (R1). -/
def Device.tickBoundary (d : Device) : Device := (d.settleBoundary).endTick

/-- One crystal count on a line that carries nothing: it passes within the tick, or the boundary comes where the prescaler
holds the terminal count (R1). -/
def Device.crystalCount (d : Device) : Device :=
  let d1 : Device := d.settleBoundary
  if d1.sck.prescaler < d1.sck.terminal then d1.letPass 1 else d1.endTick

end Sys2Proof.Machine
end

