-- ==== Sys2Proof/Machine/Link.lean ====
section
/-! DEFINITION. The Link side: the start-slot choice, own frames and their fates (spec/02, 09, 10), received frames stage by
stage (spec/02), and what the line modes do to the frame in hand (spec/03). -/

namespace Sys2Proof.Machine

/-! ### The start-slot choice (R36 to R38) -/

/-- The kind code of an issue frame. -/
def IssueKind.kind : IssueKind → Kind
  | .ticket => .ticket
  | .void => .void
  | .pickup => .pickup

/-- The kind code by which an entry is chosen (R36). -/
def Device.entryKind (d : Device) : TxEntry → Nat
  | .ready _ => Kind.ready.code
  | .slip _ => Kind.slip.code
  | .offer _ => Kind.offer.code
  | .mark => Kind.mark.code
  | .issue => (d.iu.queue.head?.map (fun e => e.kind.kind.code)).getD 8

/-- Ties go to the lower pass address, then the lower wave number (R36). -/
def idBefore (a b : WaveId) : Bool :=
  decide (a.pass.toNat < b.pass.toNat) || (a.pass == b.pass && decide (a.num.toNat < b.num.toNat))

/-- Two waves by a time, then by id (R36). -/
def waveBefore (time : Wave → Tick) (a b : Option Wave) : Bool :=
  match a, b with
  | some x, some y => before (time x) (time y) || (time x == time y && idBefore x.noticeId y.noticeId)
  | none, some _ => true
  | _, none => false

/-- The order of choice: lowest kind, READY by close time, SLIP by go time (R36). -/
def Device.chosenBefore (d : Device) (a b : TxEntry) : Bool :=
  decide (d.entryKind a < d.entryKind b) ||
    (match a, b with
      | .ready x, .ready y => waveBefore (fun w => w.close.getD 0) (d.wave? x) (d.wave? y)
      | .slip x, .slip y => waveBefore (fun w => w.go.getD 0) (d.wave? x) (d.wave? y)
      | _, _ => false)

/-- A placer's answer to the request to fill (R36). -/
inductive FillAnswer where
  | fill (b : Body)
  | withdraw
  | hold
  deriving DecidableEq, Repr

/-- The estimate offset and FAR marker from an estimate and the stamp tick (R37). -/
def offsetFor (e : Estimate) (stamp : Tick) : BitVec 15 × Bool :=
  let x := tickDiff e.tick stamp
  if e.saturated then (32767, true)
  else if x < 0 then (0, false)
  else if x ≤ 32767 then (BitVec.ofNat 15 x.toNat, false)
  else (32767, true)

/-- The Wave Unit fills a READY, fills it as WITHDRAWN, or withdraws it (R96). -/
def Device.fillReady (d : Device) (ref : Nat) (stamp : Tick) : FillAnswer :=
  match d.wave? ref with
  | none => .withdraw
  | some w =>
      if w.state != .opened || atOrAfter d.now (w.close.getD 0) then .withdraw
      else
        match w.est, w.own with
        | some e, _ =>
            .fill (.ready w.noticeId.num w.noticeId.pass (offsetFor e stamp).1 (offsetFor e stamp).2 false)
        | none, .estimate .. => .fill (.ready w.noticeId.num w.noticeId.pass 0 false true)
        | none, _ => .withdraw

/-- The Wave Unit fills a SLIP while its conditions hold (R105). -/
def Device.fillSlip (d : Device) (ref : Nat) (stamp : Tick) : FillAnswer :=
  match d.wave? ref with
  | none => .withdraw
  | some w =>
      match w.est with
      | some e =>
          if d.slipHolds w then
            .fill (.slip w.noticeId.num w.noticeId.pass (offsetFor e stamp).1 (offsetFor e stamp).2)
          else .withdraw
      | none => .withdraw

/-- The Batch Planner fills an OFFER while its batch is a candidate (R38, R147). -/
def Device.fillOffer (d : Device) (bid : Nat) : FillAnswer :=
  match d.batch? bid with
  | none => .withdraw
  | some b =>
      match d.wave? b.wave with
      | none => .withdraw
      | some w =>
          if d.candidate b && decide (d.bp.handed.length < Config.handedCapacity) then
            .fill (.offer w.noticeId.num w.noticeId.pass (w.go.getD 0) (BitVec.ofNat 2 w.slips) b.dish b.portions
              b.contribs)
          else .withdraw

/-- The own pass wave record of a wave number (R157). -/
def Device.passWave? (d : Device) (num : Byte) : Option Wave := d.named? d.strap.addr num

/-- The issue record of a serial (R159). -/
def Device.issue? (d : Device) (serial : Serial) : Option Issue := d.ti.issues.find? (fun x => x.serial == serial)

/-- The Issue Unit fills a TICKET, or holds it while its wave is past its close and not yet SET (R162). -/
def Device.fillTicket (d : Device) (num : Byte) (serial : Serial) (stamp : Tick) : FillAnswer :=
  match d.passWave? num, d.issue? serial with
  | some w, some r =>
      if w.state == .goSet then
        .fill (.ticket num serial (w.call.getD 0) (w.lead.getD 0) true (w.go.getD 0) r.items)
      else if before stamp (w.close.getD 0) then
        .fill (.ticket num serial (w.call.getD 0) (w.lead.getD 0) false 0 r.items)
      else .hold
  | _, _ => .withdraw

/-- The Issue Unit fills the head of the issue queue (R38, R162). An entry of an abandoned wave, back in the queue after a
loss, is filled as its frame in flight was: R36 returns it and R166 lets it leave only with a fate, while the records it
was filled from are gone (log entry 27, DESIGN CHOICE). -/
def Device.fillIssue (d : Device) (stamp : Tick) : FillAnswer :=
  match d.iu.queue.head? with
  | none => .withdraw
  | some e =>
      match e.orphan, e.kind with
      | some b, _ => .fill b
      | none, .ticket => d.fillTicket e.num e.serial stamp
      | none, .void => .fill (.void e.num e.serial)
      | none, .pickup => .fill (.pickup e.num)

/-- The placer's answer for an entry (R36). -/
def Device.fillEntry (d : Device) (stamp : Tick) : TxEntry → FillAnswer
  | .ready ref => d.fillReady ref stamp
  | .slip ref => d.fillSlip ref stamp
  | .offer bid => d.fillOffer bid
  | .mark => .fill .mark
  | .issue => d.fillIssue stamp

/-- The entries asked in turn: the one filled, and those withdrawn on the way (R36). -/
def Device.choose (d : Device) (stamp : Tick) : List TxEntry → Option (TxEntry × Body) × List TxEntry
  | [] => (none, [])
  | e :: rest =>
      match d.fillEntry stamp e with
      | .fill b => (some (e, b), [])
      | .withdraw => ((d.choose stamp rest).1, e :: (d.choose stamp rest).2)
      | .hold => d.choose stamp rest

/-- Entries withdrawn at the choice leave the queue; an OFFER among them clears its batch's marker (R36, R147). -/
def Device.dropAsked (es : List TxEntry) (d : Device) : Device :=
  es.foldl (fun x e => match e with
    | .offer _ => x.withdrawOffer
    | .ready r => x.withdraw (.ready r)
    | .slip r => x.withdraw (.slip r)
    | .mark => x.withdraw .mark
    | .issue => x.withdraw .issue) d

/-- A filled entry leaves the queue and becomes the frame in flight; its start slot begins (R5, R19, R26, R36). -/
def Device.beginFrame (stamp : Stamp) (e : TxEntry) (b : Body) (d : Device) : Device :=
  let f : Frame := { sender := d.strap.addr, cls := d.strap.cls, stamp := stamp, body := b }
  (((d.withdraw e).onFe (fun x =>
    { x with inFlight := some { entry := e, frame := f, gapError := false, rejectReq := false, deferred := none } })).onSck
    (fun k => { k with capture := some stamp })).edge.drive .startSlot

/-- What passes before a start slot: slot times without an edge, and crystal counts (R1, R19). -/
def Device.untilStart (wait : Wait) (d : Device) : Device :=
  (((d.lineReturn).quietLine).passSlots wait.slots).pass wait.elapsed

/-- The station may contend: ON_LINE, a mode other than DOWN, no frame on the line, its idle count at 11, an entry queued
(R26). -/
def Device.mayContend (d : Device) : Bool :=
  d.mayDrive .onLine && !d.frameInHand && decide (11 ≤ d.fe.idleCount) && !d.fe.txq.isEmpty

/-- The idle count stands at 11 with an entry queued: the start-slot choice and, if a frame is filled, its start slot with
the edges of it (R26, R36, R48). Where the station may not contend by then, the command changes nothing (log entry 3). -/
def Device.contend (start : OwnStart) (d : Device) : Device :=
  let d1 : Device := d.untilStart start.toWait
  if !d1.mayContend then d
  else
    let stamp := d1.sck.reading
    let r := d1.choose (stampTick stamp) (sortBy d1.chosenBefore d1.fe.txq)
    let d2 : Device := d1.dropAsked r.2
    let d3 : Device := match r.1 with
      | some x => (d2.beginFrame stamp x.1 x.2).hear start.toSilences
      | none => d2
    if r.2.any (fun e => e.sameKey (.offer 0)) then d3.offerEval else d3

/-! ### Issue frames and their fates (R160, R163 to R166) -/

/-- An issue record removed (R159). -/
def Device.dropIssue (serial : Serial) (d : Device) : Device :=
  d.onTi (fun t => { t with issues := t.issues.filter (fun x => x.serial != serial) })

/-- An issue record changed. -/
def Device.onIssue (serial : Serial) (f : Issue → Issue) (d : Device) : Device :=
  d.onTi (fun t => { t with issues := t.issues.map (fun x => if x.serial == serial then f x else x) })

/-- The acceptance of an own TICKET, VOID or PICKUP (R163, R164, R165). -/
def Device.issueAccepted (e : IssueEntry) (short : Bool) (d : Device) : Device :=
  match e.kind with
  | .ticket =>
      let d1 : Device := d.onIssue e.serial (fun r => { r with issued := true, short := r.short || short })
      let d2 : Device := if short then d1.notify (.ticketShort d.strap.addr e.serial e.num .shortRead false) else d1
      d2.dropHead
  | .void => (d.dropIssue e.serial).dropHead
  | .pickup =>
      match d.passWave? e.num with
      | some w => (d.retire w.ref).dropHead
      | none => d.dropHead

/-- The eighth failure of an issue frame (R163). -/
def Device.issueFails (e : IssueEntry) (d : Device) : Device :=
  let d1 : Device := d.dropHead
  let d2 : Device := match e.kind with
    | .ticket =>
        (d1.dropIssue e.serial).onIu (fun u =>
          { u with queue := u.queue.filter (fun x => !(x.kind == .void && x.serial == e.serial)) })
    | .void => d1.onIssue e.serial (fun r => { r with voidPending := false })
    | .pickup =>
        match d1.passWave? e.num with
        | some w => d1.onWave w.ref (fun x => { x with pickupPending := false })
        | none => d1
  d2.notify (.issueFailed e.kind e.num (if e.kind == .pickup then 0 else e.serial))

/-- The fate of the issue head: accepted, failed once more, or broken off by DOWN; an entry of an abandoned wave leaves
whatever its fate (R163, R166). -/
def Device.issueFate (fate : Fate) (byDown short : Bool) (d : Device) : Device :=
  match d.iu.queue.head? with
  | none => d
  | some e =>
      if e.orphan.isSome then d.dropHead.placeHead
      else
        match fate with
        | .accepted => (d.issueAccepted e short).placeHead
        | _ =>
            if byDown then d.placeHead
            else if 8 ≤ e.fails + 1 then (d.issueFails e).placeHead
            else (d.onIu (fun u => { u with queue := { e with fails := e.fails + 1 } :: u.queue.tail })).placeHead

/-! ### The fates of own frames (R34, R39, R43) -/

/-- TEC after a fate (R43). -/
def tecAfter (fate : Fate) (byDown : Bool) (tec : Nat) : Nat :=
  match fate with
  | .accepted => tec - 1
  | .rejected => tec + 8
  | .brokenOff => if byDown then tec else tec + 8

/-- The FE's part of a fate report: the frame in flight dropped, TEC changed, the MARK quiet count returned and a waiting
MARK withdrawn on acceptance, QUIET entered where TEC reaches 128 (R15, R39, R43, R46), the wires compared (R50). -/
def Device.endOwnFrame (fate : Fate) (byDown agree : Bool) (d : Device) : Device :=
  let d1 : Device := d.onFe (fun f =>
    { f with inFlight := none, idleCount := 0, tecCount := tecAfter fate byDown f.tecCount })
  let d2 : Device := (d1.onSck (fun k => { k with capture := none })).onLif (Lif.frameEnds d.cfg.lock agree)
  let d3 : Device := match fate with
    | .accepted => (d2.onSck (fun k => { k with markQuiet := 0 })).withdraw .mark
    | _ => d2
  d3.quietIfDue

/-- The fate of an own READY (R97). -/
def Device.readyFate (ref : Nat) (f : Frame) (num : Byte) (pass : Addr) (offset : BitVec 15) (far withdrawn : Bool)
    (fate : Fate) (d : Device) : Device :=
  let stamp := stampTick f.stamp
  let d1 : Device := match fate with
    | .accepted =>
        (d.onWave ref (fun w =>
          { w with own := if withdrawn then .withdrawn stamp else .estimate (stamp + ticks offset.toNat) stamp })).applyReady
          f.sender stamp num pass offset far withdrawn
    | _ => d
  if d1.isPass then d1 else d1.announce ref

/-- The fate of an own SLIP (R105, R106). -/
def Device.slipFate (ref : Nat) (f : Frame) (num : Byte) (pass : Addr) (offset : BitVec 15) (far : Bool) (fate : Fate)
    (d : Device) : Device :=
  let d1 : Device := match fate with
    | .accepted => d.applySlip f.sender (stampTick f.stamp) num pass offset far
    | _ => d
  if d1.isPass then d1 else d1.slipEval ref

/-- An offer attempt counted (R145, R148). -/
def Batch.attempted (now : Tick) (o : OfferOutcome) (b : Batch) : Batch :=
  { b with attempts := min 2 (b.attempts + 1), lastOffer := some now, outcome := some o }

/-- The fate of an own OFFER (R148, R149). -/
def Device.offerFate (bid : Nat) (fate : Fate) (taker : Addr) (d : Device) : Device :=
  let d1 : Device := d.onBatch bid (fun b => { b with offerPending := false })
  let d2 : Device := match fate with
    | .accepted =>
        if taker == 63 then d1.onBatch bid (Batch.attempted d.now .noTaker)
        else (match d1.batch? bid with
          | some b => d1.offererCommit taker b
          | none => d1)
    | .rejected => d1.onBatch bid (Batch.attempted d.now .rejected)
    | .brokenOff => d1.onBatch bid (Batch.attempted d.now .brokenOff)
  d2.evaluate

/-- The placer's part of a fate report (R39). -/
def Device.placerFate (f : InFlight) (fate : Fate) (byDown short : Bool) (taker : Addr) (d : Device) : Device :=
  match f.entry, f.frame.body with
  | .ready ref, .ready num pass off far wd => d.readyFate ref f.frame num pass off far wd fate
  | .slip ref, .slip num pass off far => d.slipFate ref f.frame num pass off far fate
  | .offer bid, _ => d.offerFate bid fate taker
  | .issue, _ => d.issueFate fate byDown short
  | _, _ => d

/-- A press deferred to the end of the own accept slot (R148). -/
def Device.takeDeferred (p : Option (Fin 8)) (d : Device) : Device :=
  match p with
  | some i => d.press i
  | none => d

/-- The fate of the frame in flight reported: the FE's part, the placer's, then a deferred press (R34, R39, R148). Where the
fate takes TEC to 128, LINK_QUIET is queued before the notices of the placer (BATCH_LATE after an OFFER, ISSUE_FAILED at
an eighth failure): the rules give no order of them (log entry 45, DESIGN CHOICE). -/
def Device.reportFate (f : InFlight) (fate : Fate) (byDown short : Bool) (taker : Addr) (agree : Bool) (d : Device) :
    Device :=
  ((d.endOwnFrame fate byDown agree).placerFate f fate byDown short taker).takeDeferred f.deferred

/-- The sender drives its accept slot dominant for a reason of its own: for an OFFER a reject request or a reply-check error
in its reply field; for a TICKET or an OFFER a coding violation it read there (R25, R31, R32, R42, R148; log entry 14). -/
def InFlight.refuses (f : InFlight) (rep : OfferReply) (short : SlotReading) : Bool :=
  match f.frame.body.kind with
  | .offer => f.rejectReq || replyCheckError rep || rep.fault
  | .ticket => short == .violation
  | _ => false

/-- The fate of an own frame as the sender itself decides it: broken off after an own bit error in the reply gap or later,
rejected where it drives the accept slot dominant for another reason (R32, R34, R42). -/
def InFlight.settles (f : InFlight) (refuses : Bool) (fate : Fate) : Fate :=
  if f.gapError then .brokenOff
  else match fate with
    | .accepted => if refuses then .rejected else .accepted
    | .rejected => .rejected
    | .brokenOff => .brokenOff

/-- A fate row: it concerns the frame in flight of its kind, and nothing where none is (log entry 3). A sender that rejects
its own frame, or that found an own bit error in the reply gap or later, drives the accept slot dominant (R32, R42). -/
def Device.fateOf (k : Kind) (fate : Fate) (rep : OfferReply) (short : SlotReading) (line : Followed) (d : Device) :
    Device :=
  match d.fe.inFlight with
  | some f =>
      if f.frame.body.kind == k then
        let drives := f.gapError || (f.refuses rep short && fate != .brokenOff)
        let d1 : Device := if drives && d.mayDrive .onLine then (d.quietLine).drive .acceptDominant else d.quietLine
        (d1.hear line.toSilences).reportFate f (f.settles (f.refuses rep short) fate) false (short == .zero) rep.taker
          line.agree
      else d
  | none => d

/-- A contender loses (or stops as if it had): it becomes a receiver and its entry returns to the queue unfilled, unless a
newer one waits (R27, R36, R148). -/
def Device.loseArbitration (d : Device) : Device :=
  match d.fe.inFlight with
  | none => d
  | some f =>
      let d1 : Device := (d.quietLine).onFe (fun x =>
        { x with inFlight := none,
                 rx := some { startState := .onLine, frame := none, stage := .start, bad := false, ticket := .disregard,
                              taker := .notTaker } })
      if d1.waiting f.entry then d1 else d1.place f.entry

/-- An own bit error. Before the reply gap the station drives its reject break and the frame is broken off; in the gap, or
where a failover falls there or later, the sender follows its frame to the accept slot, which it drives dominant, and the
fate is broken off there (R42, R43, R54). -/
def Device.bitError (inGap agree : Bool) (d : Device) : Device :=
  match d.fe.inFlight with
  | none => d
  | some f =>
      if inGap then d.onFe (fun x => { x with inFlight := some { f with gapError := true } })
      else
        let d1 : Device := if d.mayDrive .onLine then (d.quietLine).drive .rejectBreak else d.quietLine
        d1.reportFate f .brokenOff false false 63 agree

/-- OWN_BIT_ERROR, with what the wires showed up to it (R42, R48); nothing without a frame in flight (log entry 3). -/
def Device.ownBitError (inGap : Bool) (line : Followed) (d : Device) : Device :=
  if d.fe.inFlight.isSome then (d.hear line.toSilences).bitError inGap line.agree else d

/-! ### Received frames (R19, R20, R23 to R33) -/

/-- A station not in STANDBY with no frame in hand: its wires' receivers show it what begins on the line (R20, R48). -/
def Device.listens (d : Device) : Bool := d.fe.station != .standby && !d.frameInHand

/-- A start edge at a station that follows the Link: with the idle count at 11 it begins a frame, its own clock captured and
its state held for the frame; below 11 it begins none and the count returns to 0 (R4, R19, R20). A station in DOWN begins
none (R48). A frame already in hand begins nothing, nor does a station in STANDBY. -/
def Device.rxStart (wait : Wait) (d : Device) : Device :=
  if d.listens then
    let d1 : Device := d.untilStart wait
    if !d1.follows || d1.fe.idleCount < 11 then d1.edge
    else
      ((d1.onSck (fun k => { k with capture := some k.reading })).edge).onFe (fun f =>
        { f with rx := some { startState := f.station, frame := none, stage := .start, bad := false,
                              ticket := .disregard, taker := .notTaker } })
  else d

/-- The frame being received changed. -/
def Device.onRx (f : Rx → Rx) (d : Device) : Device := d.onFe (fun x => { x with rx := x.rx.map f })

/-- The stages in order. -/
def stageRank : RxStage → Nat
  | .start => 0
  | .bodyEnd => 1
  | .reply => 2
  | .accept => 3

/-- The station state a frame was started in lets its blocks take it (R20). -/
def StationState.applies : StationState → Bool
  | .onLine => true
  | .quiet => true
  | .standby => false
  | .listen => false

/-- What the blocks decide at the end of the Body field: the Ticket Index about a TICKET (R72, R73), the Batch Planner
about an OFFER, where the station may drive the reply field and has not found the frame bad (R28, R54, R150). -/
def Device.atBodyEnd (raw : RawFrame) (r : Rx) (b : Body) (d : Device) : Rx :=
  match b with
  | .ticket num serial call _ _ _ items =>
      if r.startState.applies then { r with ticket := d.decideTicket raw.sender num serial call items } else r
  | .offer num pass go _ dish portions _ =>
      if d.mayDrive r.startState && !r.bad && d.qualifies raw.cls num pass go dish portions then { r with taker := .qualified }
      else r
  | _ => r

/-- The end of the Body field: the framing check, and the decisions about a frame free of framing errors (R23, R28). -/
def Device.rxBody (k : Kind) (raw : RawFrame) (d : Device) : Device :=
  match framed k raw with
  | none => d.onRx (fun x => { x with stage := .bodyEnd, bad := true })
  | some b => d.onRx (fun x => d.atBodyEnd raw { x with stage := .bodyEnd } b)

/-- A possible taker that stops being one releases its held record, formation runs, and the estimates follow where it
changed a batch (R90, R150). -/
def Device.dropQualified (d : Device) : Device :=
  match d.fe.rx with
  | some r =>
      if r.taker == .qualified then ((d.onRx (fun x => { x with taker := .notTaker })).formWaiting).evaluateSince d else d
  | none => d

/-- The SHORT slot driven by a station that cannot hold the ticket (R28, R29, R73). -/
def Device.driveShort (r : Rx) (d : Device) : Device :=
  match r.ticket with
  | .cannotHold _ => if d.mayDrive r.startState && !r.bad then d.drive .shortSlot else d
  | _ => d

/-- The values a qualifier drives in the taker slots: its address bits up to the first slot that does not read as it drove,
from which on it drives nothing (R30). -/
def drivenSlots : List Bool → List Bool → List Bool
  | x :: xs, y :: ys => if x == y then x :: drivenSlots xs ys else [x]
  | _, _ => []

/-- The address slots a qualifier drives against the taker address as read (R30). -/
def takerDriven (own read : Addr) : List Bool := drivenSlots (bitsOf 6 own.toNat) (bitsOf 6 read.toNat)

/-- The taker slots: a qualifier drives its address as long as every slot reads as it drove; the one still driving at their
end has won, reserves its lane and drives the reply-check slots (R30, R31, R151). A taker slot that reads as a coding
violation keeps no qualifier from driving on, winning and reserving, and only then makes the frame bad: R28 looks for errors
to the end of the reply gap, while R25 keeps a station that finds one later out of the reply field too (log entry 53,
DESIGN CHOICE). -/
def Device.takerSlots (rep : OfferReply) (dish : Byte) (d : Device) : Device :=
  match d.fe.rx with
  | none => d
  | some r =>
      if r.taker != .qualified then d
      else if !d.mayDrive r.startState || r.bad then d.dropQualified
      else
        let d1 : Device := d.drive (.takerSlots (takerDriven d.strap.addr rep.taker))
        if rep.taker == d.strap.addr then
          let lane := d1.laneToReserve dish
          let d2 : Device := d1.onRx (fun x => { x with taker := .won lane })
          let d3 : Device := match lane with
            | some i => d2.onLane i (fun l => { l with reserved := true })
            | none => d2
          d3.drive (.checkSlots (~~~(d.strap.addr.extractLsb' 0 2)))
        else d1.dropQualified

/-- The reply gap and reply field: a CRC error or a violation found by then keeps the station out of it (R24, R25, R28);
then the SHORT slot of a TICKET or the taker slots and the reply check of an OFFER (R29 to R31). A violation in a taker slot
counts only once the field has been read (log entry 53, DESIGN CHOICE). -/
def Device.rxReply (k : Kind) (raw : RawFrame) (gapFault : Bool) (rep : OfferReply) (d : Device) : Device :=
  let d1 : Device := d.onRx (fun x => { x with stage := .reply, bad := x.bad || gapFault || crcError raw })
  match d1.fe.rx, framed k raw with
  | some r, some (.ticket ..) => d1.driveShort r
  | some r, some (.offer _ _ _ _ dish _ _) =>
      let d2 : Device := if r.bad then d1.dropQualified else d1.takerSlots rep dish
      d2.onRx (fun x => { x with bad := x.bad || replyCheckError rep || rep.fault })
  | _, _ => d1.dropQualified

/-- The Service Clock takes an accepted frame: a first step in LISTEN while it is pending, else a sample (R6, R11). A first
step of size 0, after which the clock reads as before and at most prescaler counts the reading does not show have changed,
queues no CLOCK_STEP: whether it is a step "that changes the clock" R14 leaves open (log entry 50, DESIGN CHOICE). The state is
the one at the accept slot's end, also for a frame begun in LISTEN at a station since ON_LINE: R20 takes the frame as a
LISTEN station, R6, R7 and R11 speak of the state as it is (log entry 52, DESIGN CHOICE). -/
def Device.takeTime (raw : RawFrame) (d : Device) : Device :=
  if d.fe.station == .listen && d.sck.firstStep then
    let size := d.sck.firstSize raw.stamp
    let d1 : Device := d.onSck (Sck.stepFirst raw.stamp)
    if size == 0 then d1 else d1.notify (.clockStep .first size)
  else d.onSck (Sck.sample d.fe.station raw.sender raw.stamp)

/-- The TICKET_SHORT notice of a station that could not take a ticket (R72, R73). -/
def Device.shortNotice (raw : RawFrame) (num : Byte) (serial : Serial) (cause : ShortCause) (start : StationState)
    (d : Device) : Device :=
  d.notify (.ticketShort raw.sender serial num cause (start != .onLine))

/-- An accepted frame delivered to the blocks of its kind (R33). -/
def Device.deliver (raw : RawFrame) (r : Rx) (b : Body) (d : Device) : Device :=
  let stamp := stampTick raw.stamp
  match b with
  | .mark => d
  | .ready num pass off far wd => d.applyReady raw.sender stamp num pass off far wd
  | .slip num pass off far => d.applySlip raw.sender stamp num pass off far
  | .offer num pass go slips dish portions cs =>
      (match r.taker with
        | .won lane => d.takerCommit lane raw.sender stamp num pass go slips.toNat dish portions cs
        | _ => d)
  | .void num serial => if d.isPass then d else d.applyVoid raw.sender num serial
  | .pickup num => if d.isPass then d else d.applyPickup raw.sender num
  | .ticket num serial call lead goPresent go items =>
      match r.ticket with
      | .disregard => d
      | .away => d.shortNotice raw num serial .waveAway r.startState
      | .cannotHold c => d.shortNotice raw num serial c r.startState
      | .hold => d.takeTicket raw.sender stamp num serial call lead goPresent go items

/-- The end of a received frame: no frame on the line, the idle count at 0, the wires compared (R19, R50). -/
def Device.closeRx (agree : Bool) (d : Device) : Device :=
  (d.onFe (fun f => { f with rx := none, idleCount := 0 })).onLif (Lif.frameEnds d.cfg.lock agree)

/-- The accept slot: a frame found bad by then is rejected by a station that may drive; the finding, to which a coding
violation in the accept slot itself belongs, is counted; an accepted frame found good goes to the Service Clock and, by
the state of its start slot, to the blocks (R20, R25, R32, R33, R44). Where the finding takes REC to 128 and a possible
taker's release then calls a batch, LINK_QUIET is queued before BATCH_CALLED: R151 and R177 give no order of them (log
entry 45, DESIGN CHOICE). -/
def Device.rxAccept (k : Kind) (raw : RawFrame) (lateFault : Bool) (acc : SlotReading) (agree : Bool) (d : Device) :
    Device :=
  match d.fe.rx with
  | none => d
  | some r =>
      let found := r.bad || lateFault
      let bad := found || acc == .violation
      let d1 : Device := if found && d.mayDrive r.startState then d.drive .acceptDominant else d
      let d2 : Device := (d1.closeRx agree).countHeard bad
      let taken := !bad && acc == .one
      let d3 : Device := (if taken then d2.takeTime raw else d2).onSck (fun x => { x with capture := none })
      match framed k raw with
      | some b =>
          if taken && r.startState.applies then d3.deliver raw r b
          else (match r.taker with
            | .won lane => d3.releaseTaker lane
            | _ => d3)
      | none => d3

/-- A coding violation before the reply gap: the station stops following and, where it may drive, breaks the frame; a
possible taker releases its held record (R25, R44, R55, R90, R150), after the count and its LINK_QUIET (log entry 45,
DESIGN CHOICE). Where the station follows no frame, what the row brings still passes on the wires (R48). -/
def Device.codingViolation (wait : Wait) (line : Followed) (d : Device) : Device :=
  let d0 : Device := d.rxStart wait
  match d0.fe.rx with
  | none => if d.listens then d0.hear line.toSilences else d
  | some r =>
      if 2 ≤ stageRank r.stage then d
      else
        let d1 : Device := if d0.mayDrive r.startState then d0.drive .rejectBreak else d0
        let d2 : Device := (((d1.hear line.toSilences).closeRx line.agree).countHeard true).onSck (fun x => { x with capture := none })
        if r.taker == .qualified then (d2.formWaiting).evaluateSince d2 else d2

/-- A received frame brought up to a stage, every stage before it taken in order once the crystal counts up to its end have
passed (log entry 8); a coding violation in the slots of its fields acts as FRAME_CODING_VIOLATION does (R18, R25). Where
the station follows no frame, in DOWN or after a start edge that began none, what it brings still passes on the wires
(R48). A command that does not carry the frame being received, or a station in STANDBY, changes nothing (log entry 3). -/
def Device.receive (k : Kind) (h : Heard) (rep : OfferReply) (d : Device) : Device :=
  let d0 : Device := d.rxStart h.toWait
  match d0.fe.rx with
  | none => if d.listens then (d0.pass h.lasted).hear h.toSilences else d
  | some r =>
      if h.broken then (d0.pass h.lasted).codingViolation h.toWait h.toFollowed
      else if r.frame.isSome && r.frame != some (k, h.frame) then d
      else
        let d1 : Device := ((d0.pass h.lasted).hear h.toSilences).onRx (fun x => { x with frame := some (k, h.frame) })
        let d2 : Device := if stageRank r.stage < 1 && 1 ≤ stageRank h.upTo then d1.rxBody k h.frame else d1
        let d3 : Device := if stageRank r.stage < 2 && 2 ≤ stageRank h.upTo then d2.rxReply k h.frame h.gapFault rep else d2
        if h.upTo == .accept then d3.rxAccept k h.frame h.lateFault h.accept h.agree else d3

/-! ### Line failures (R49, R51, R52, R54) -/

/-- A failover in the middle of a frame: bad for a receiver, for the sender an own bit error in that slot, before the reply
gap or from it on (R42, R54). A contender, still in its Start, Kind or Sender field, is taken for the sender: R54 names only
receivers and senders, and R42 begins own bit errors at the Class field (log entry 51, DESIGN CHOICE). -/
def Device.failover (inGap : Bool) (d : Device) : Device :=
  match d.fe.inFlight with
  | some _ => d.bitError inGap false
  | none => ((d.quietLine).dropQualified).onRx (fun x => { x with bad := true })

/-- One wire fails in DUAL while the other is active; what the station then drives goes on the good wire alone
(R48, R49, R54). LINE_MODE is queued before the notices of the frame the failover breaks off, LINK_QUIET, BATCH_LATE and
ISSUE_FAILED: the rules give no order of them (log entry 45, DESIGN CHOICE). -/
def Device.wireFails (w : Wire) (failure : Failure) (d : Device) : Device :=
  if d.fe.station != .standby && d.lif.mode == .dual then
    let d1 : Device := d.changeMode (modeOf (otherWire w)) (match w with
      | .a => .wireAFailed
      | .b => .wireBFailed)
    let d2 : Device := d1.onLif (fun l => { (l.setWire w .failed).setSilence w failure.other with cleanCount := 0 })
    d2.failover failure.inGap
  else d

/-- The frame in hand ends for a station whose line goes DOWN: an own frame is broken off, a received one dropped
uncounted with what it held; an own bit error already found in the frame stays the cause of its end (R42, R51, R90, R151;
log entry 48). -/
def Device.dropLine (d : Device) : Device :=
  let d1 : Device := match d.fe.inFlight with
    | some f => d.reportFate f .brokenOff (!f.gapError) false 63 false
    | none => d
  match d1.fe.rx with
  | none => d1
  | some r =>
      let d2 : Device := (d1.onFe (fun f => { f with rx := none })).onSck (fun k => { k with capture := none })
      match r.taker with
      | .notTaker => d2
      | .qualified => (d2.formWaiting).evaluateSince d2
      | .won lane => d2.releaseTaker lane

/-- The line mode becomes DOWN (R48, R51, R55). LINE_MODE is queued before the notices of the fate of an own frame in
flight (BATCH_LATE after an OFFER) and of a batch that a dropped frame's lane or record then calls: R51 and R177 give no
order of them (log entry 45, DESIGN CHOICE). -/
def Device.lineDown (cause : DownCause) (other : Fin 2) (d : Device) : Device :=
  let found := match cause with
    | .stuckDominant => d.lif.mode != .down
    | .bothFailed => d.lif.mode.single
  if d.fe.station != .standby && found then
    let good := d.lif.mode.goodWire
    let d1 : Device := d.changeMode .down (match cause with
      | .stuckDominant => .stuckDominant
      | .bothFailed => .bothFailed)
    let d2 : Device := match cause with
      | .stuckDominant => d1.onLif (fun l => { l with silenceA := 16, silenceB := 16 })
      | .bothFailed => d1.onLif (fun l => { l.setSilence good other with wireA := .failed, wireB := .failed })
    let d3 : Device := ((d2.quietLine).onFe (fun f => { f with idleCount := 0 })).dropLine
    if d3.fe.station.applies then d3.markPartial else d3
  else d

/-- A valid frame on this wire may bring the station out of DOWN: any wire with lock AUTO, else the locked one
(R52, R53). -/
def lockAdmits (l : LineLock) (w : Wire) : Bool :=
  match l with
  | .auto => true
  | .aOnly => w == .a
  | .bOnly => w == .b

/-- A valid frame ends on a wire in DOWN (R52, R53). -/
def Device.frameSeen (x : Seen) (d : Device) : Device :=
  if d.fe.station != .standby && d.lif.mode == .down && lockAdmits d.cfg.lock x.wire then
    ((d.changeMode (modeOf x.wire) .frameSeen).onLif (Lif.frameSeen x.wire x.other)).onFe
      (fun f => { f with idleCount := 7 })
  else d

end Sys2Proof.Machine
end

