-- ==== Sys2Proof/Machine/Station.lean ====
section
/-! DEFINITION. The setup and control commands: configuration, menu, JOIN and LEAVE, the bell (spec/04, 08). -/

namespace Sys2Proof.Machine

/-! ### Setup commands (R58 to R62) -/

/-- A line lock code (R59, R170). -/
def lockOf (n : Nat) : LineLock := if n == 0 then .auto else if n == 1 then .aOnly else .bOnly

/-- A line lock's code (R170). -/
def lockCode : LineLock → Nat
  | .auto => 0
  | .aOnly => 1
  | .bOnly => 2

/-- The configuration record a CONFIGURE message leaves: clamped, with lane count 0 on a pass (R59, R170). -/
def configOf (isPass : Bool) (p : List Byte) : Configuration where
  laneCount := if isPass then 0 else param8 p 0
  laneKinds := Vector.ofFn (fun i => min 3 (param8 p (1 + i.val)))
  margin := param8 p 9
  threshold := max 8 (param8 p 10)
  callWindow := clamp 8 240 (param8 p 11)
  dueWindow := clamp 8 240 (param8 p 12)
  reportStep := clamp 1 32 (param8 p 13)
  shareCount := param8 p 14
  shareIndex := param8 p 15
  lock := lockOf (param8 p 16)
  waveGroup := (param p 17).getLsbD 0
  batchGroup := (param p 17).getLsbD 1
  ticketGroup := (param p 17).getLsbD 2
  linkGroup := (param p 17).getLsbD 3

/-- The counts and the share pair pass the checks of R58. -/
def countsOk (p : List Byte) : Bool :=
  decide (param8 p 0 ≤ 8) && decide (1 ≤ param8 p 14) && decide (param8 p 14 ≤ 8) && decide (param8 p 15 < param8 p 14)

/-- A lane after LEAVE, or one that a CONFIGURE leaves unconfigured: as after reset, its lamp output held to the next
boundary, where the LU sets outputs (R16, R67, R126; for CONFIGURE log entry 49, DEDUCED). -/
def Lane.left (l : Lane) : Lane := { Lane.reset with lamp := l.lamp }

/-- The lanes at or above the lane count at their reset values (R126). -/
def Device.resetUnconfigured (d : Device) : Device :=
  d.onLu (fun u => { u with lanes := Vector.ofFn (fun i => if d.configured i then u.lanes[i] else u.lanes[i].left) })

/-- CONFIGURE (R58, R59, R126, R169, R170). -/
def Device.configure (p : List Byte) (d : Device) : Device :=
  if d.fe.station != .standby then d.answer .wrongState []
  else if p.length != 18 then d.answer .badValue []
  else if !countsOk p then d.answer .badValue []
  else (((d.onSp (fun x => { x with config := configOf d.isPass p })).resetUnconfigured).applyLock .configure).answer .ok []

/-- The menu entry a LOAD_DISH message leaves: clamped (R61, R170). -/
def dishFrom (p : List Byte) : Dish :=
  let t := clamp 8 19200 (param16 p 2)
  { code := param p 0
    kind := min 3 (param8 p 1)
    cook := t
    turn := if t ≤ param16 p 4 then t - 1 else param16 p 4
    hold := clamp 16 4800 (param16 p 6)
    batch := clamp 1 16 (param8 p 8) }

/-- Some configured lane has this kind (R61, R64). -/
def Device.kindConfigured (d : Device) (k : Nat) : Bool :=
  (List.finRange 8).any (fun i => d.configured i && d.laneKind i == k)

/-- A menu with an entry loaded in its place by dish code, replacing one of its code (R60, R61). -/
def loadEntry (x : Dish) (m : List Dish) : List Dish :=
  insertBy (fun a b => decide (a.code.toNat < b.code.toNat)) x (m.filter (fun y => y.code != x.code))

/-- LOAD_DISH (R61, R169, R170). -/
def Device.loadDish (p : List Byte) (d : Device) : Device :=
  if d.fe.station != .standby then d.answer .wrongState []
  else if p.length != 9 then d.answer .badValue []
  else if param p 0 == 0 then d.answer .badValue []
  else if !d.isPass && !d.kindConfigured (param8 p 1) then d.answer .badValue []
  else if (d.dish? (param p 0)).isNone && decide (Config.menuCapacity ≤ d.sp.menu.length) then d.answer .full []
  else (d.onSp (fun x => { x with menu := loadEntry (dishFrom p) x.menu })).answer .ok []

/-- CLEAR_MENU (R62, R169, R170). -/
def Device.clearMenu (p : List Byte) (d : Device) : Device :=
  if d.fe.station != .standby then d.answer .wrongState []
  else if p.length != 0 then d.answer .badValue []
  else (d.onSp (fun x => { x with menu := [] })).answer .ok []

/-! ### JOIN and LEAVE (R64 to R67) -/

/-- The checks of JOIN (R64). -/
def Device.joinOk (d : Device) : Bool :=
  addrOk d.strap.addr &&
    (d.isPass ||
      (decide (1 ≤ d.cfg.laneCount) && !d.sp.menu.isEmpty && d.sp.menu.all (fun x => d.kindConfigured x.kind)))

/-- What a JOIN that passes does (R17, R19, R53, R65). -/
def Device.enterListen (d : Device) : Device :=
  let d1 : Device := d.onFe (fun f =>
    { f with station := .listen, listenCount := 0, viewFrom := none, idleCount := 0, tecCount := 0, recCount := 0 })
  let d2 : Device := d1.onSck (fun k => Sck.restart { k with firstStep := true })
  (d2.applyLock .join).onLif (fun l => { l with silenceA := 0, silenceB := 0, cleanCount := 0 })

/-- JOIN (R64, R65, R169, R170). -/
def Device.join (p : List Byte) (d : Device) : Device :=
  if d.fe.station != .standby then d.answer .wrongState []
  else if p.length != 0 then d.answer .badValue []
  else if !d.joinOk then d.answer .badValue []
  else (d.enterListen).answer .ok []

/-- What LEAVE does to the blocks (R17, R41, R53, R67, R109). -/
def Device.leaveAll (d : Device) : Device :=
  { d with
    sck := { d.sck with samples := [], capture := none, firstStep := false, markQuiet := 0, markDue := false }
    lif := { d.lif with silenceA := 0, silenceB := 0, cleanCount := 0 }
    fe := { d.fe with station := .standby, listenCount := 0, quietCount := 0, viewFrom := none, tecCount := 0,
                      recCount := 0, txq := [], inFlight := none, rx := none, drove := [] }
    wu := { waves := [], nextRef := 0 }
    ti := { tickets := [], issues := [] }
    bp := { batches := [], fireQ := [], handed := [], counter := 0, nextBid := 0 }
    lu := { lanes := d.lu.lanes.map Lane.left, ring := false, bell := d.lu.bell }
    iu := { queue := [] } }

/-- LEAVE (R67, R169, R170). -/
def Device.leave (p : List Byte) (d : Device) : Device :=
  if d.fe.station == .standby then d.answer .wrongState []
  else if p.length != 0 then d.answer .badValue []
  else
    ((d.leaveAll).notify
      (.stationLeft d.fe.station d.wu.waves.length d.bp.batches.length
        (d.ti.tickets.length + d.ti.issues.length))).answer .ok []

/-! ### The bell commands (R140, R141) -/

/-- A lane's overdue cause acknowledged (R140). -/
def Lane.acknowledge (l : Lane) : Lane := if l.overdue == .none then l else { l with ack := true }

/-- SILENCE (R140, R169, R170). -/
def Device.silence (p : List Byte) (d : Device) : Device :=
  if p.length != 0 then d.answer .badValue []
  else (d.onLu (fun u => { u with lanes := u.lanes.map Lane.acknowledge, ring := false })).answer .ok []

/-- RING (R141, R169, R170). -/
def Device.ringBell (p : List Byte) (d : Device) : Device :=
  if p.length != 0 then d.answer .badValue []
  else (d.onLu (fun u => { u with ring := true })).answer .ok []

end Sys2Proof.Machine
end

