-- ==== Sys2Proof/Machine/PassOps.lean ====
section
/-! DEFINITION. The pass commands: OPEN_WAVE, ISSUE_TICKET, VOID_TICKET and SEND_PICKUP (spec/10, R171). -/

namespace Sys2Proof.Machine

/-- The pass commands are taken on a pass in ON_LINE and in QUIET (R156). -/
def Device.takesPassCommands (d : Device) : Bool :=
  d.isPass && (d.fe.station == .onLine || d.fe.station == .quiet)

/-! ### OPEN_WAVE (R157, R158) -/

/-- The close lead held: as sent, or clamped to bring the close 64 ticks after now (R158). -/
def heldLead (now call : Tick) (lead : Nat) : Nat :=
  if before (call - ticks lead) (now + 64) then (call - now - 64).toNat else lead

/-- A pass wave record as OPEN_WAVE creates it (section 10.2). -/
def Device.passWave (d : Device) (num : Byte) (call : Tick) (lead : Nat) : Wave where
  ref := d.wu.nextRef
  id := some { pass := d.strap.addr, num := num }
  call := some call
  lead := some (BitVec.ofNat 16 lead)
  close := some (call - ticks lead)
  state := .opened
  go := none
  slips := 0
  heardFrom := d.now
  partialMark := false
  far := false
  participants := []
  own := .absent
  est := none
  lines := []
  adoptedOnly := false
  anonymous := false
  pickupPending := false

/-- OPEN_WAVE (R156, R158, R169, R171). -/
def Device.openWave (p : List Byte) (d : Device) : Device :=
  if !d.takesPassCommands then d.answer .wrongState []
  else if p.length != 6 then d.answer .badValue []
  else
    let num := param p 0
    let call := ticks (param24 p 1)
    if (d.passWave? num).isSome then d.answer .badValue []
    else if tickDiff call d.now < 128 then d.answer .badValue []
    else if Config.waveCapacity ≤ d.wu.waves.length then d.answer .full []
    else (d.addWave (d.passWave num call (heldLead d.now call (param16 p 4)))).answer .ok []

/-! ### ISSUE_TICKET (R161) -/

/-- The items of an ISSUE_TICKET message, pairs of a dish and a quantity (R171). -/
def issueItems (p : List Byte) : List Order := (readOrders (p.drop 4)).getD []

/-- The serial, count, dishes and quantities pass the first check of R161. -/
def issueValuesOk (p : List Byte) : Bool :=
  param16 p 1 != 0 && decide (1 ≤ param8 p 3) && decide (param8 p 3 ≤ 12) && (issueItems p).all orderOk

/-- A wave takes no ISSUE_TICKET: not held, SETTLING, or its pickup pending (R161). -/
def issueBarred : Option Wave → Bool
  | none => true
  | some w => w.state == .settling || w.pickupPending

/-- An entry appended to the issue queue, the head placed where none stands (R160). -/
def Device.appendIssue (e : IssueEntry) (d : Device) : Device :=
  (d.onIu (fun u => { u with queue := u.queue ++ [e] })).placeHead

/-- The issue queue holds 16 entries (R160). -/
def Device.issueFull (d : Device) : Bool := decide (Config.issueCapacity ≤ d.iu.queue.length)

/-- ISSUE_TICKET (R156, R161, R169, R171). -/
def Device.issueTicket (p : List Byte) (d : Device) : Device :=
  let num := param p 0
  let serial : Serial := BitVec.ofNat 16 (param16 p 1)
  if !d.takesPassCommands then d.answer .wrongState []
  else if p.length < 4 || p.length != 4 + 2 * param8 p 3 then d.answer .badValue []
  else if !issueValuesOk p then d.answer .badValue []
  else if issueBarred (d.passWave? num) then d.answer .wrongState []
  else if (d.issue? serial).isSome then d.answer .badValue []
  else if d.issueFull || decide (Config.ticketCapacity ≤ d.ti.issues.length) then d.answer .full []
  else
    let ref := ((d.passWave? num).map (·.ref)).getD 0
    let d1 : Device := d.onTi (fun t =>
      { t with issues := t.issues ++
          [{ serial := serial, wave := ref, items := issueItems p, issued := false, short := false,
             voidPending := false }] })
    (d1.appendIssue { kind := .ticket, num := num, serial := serial, fails := 0, orphan := none }).answer .ok []

/-! ### VOID_TICKET (R164) -/

/-- The TICKET entry of a serial that waits in the issue queue. -/
def waitingTicket (serial : Serial) (e : IssueEntry) : Bool := e.kind == .ticket && e.serial == serial && e.orphan.isNone

/-- The head of the issue queue is the TICKET of this serial. -/
def Device.headIs (d : Device) (serial : Serial) : Bool := (d.iu.queue.head?.map (waitingTicket serial)).getD false

/-- A ticket's TICKET still waits unsent: in the issue queue and not in flight (R164). -/
def Device.unsent (d : Device) (r : Issue) : Bool :=
  !r.issued && d.iu.queue.any (waitingTicket r.serial) && !(d.flying .issue && d.headIs r.serial)

/-- A waiting TICKET and its record removed, the next head placed (R164). -/
def Device.recallTicket (serial : Serial) (d : Device) : Device :=
  let atHead := d.headIs serial
  let d1 : Device := (d.dropIssue serial).onIu (fun u =>
    { u with queue := u.queue.filter (fun e => !waitingTicket serial e) })
  (if atHead then d1.withdraw .issue else d1).placeHead

/-- VOID_TICKET (R156, R164, R169, R171). -/
def Device.voidTicket (p : List Byte) (d : Device) : Device :=
  let num := param p 0
  let serial : Serial := BitVec.ofNat 16 (param16 p 1)
  if !d.takesPassCommands then d.answer .wrongState []
  else if p.length != 3 then d.answer .badValue []
  else
    match d.passWave? num with
    | none => d.answer .wrongState []
    | some w =>
        if w.pickupPending then d.answer .wrongState []
        else
          match d.ti.issues.find? (fun r => r.serial == serial && r.wave == w.ref) with
          | none => d.answer .unknownRecord []
          | some r =>
              if r.voidPending then d.answer .wrongState []
              else if d.unsent r then (d.recallTicket serial).answer .ok []
              else if d.issueFull then d.answer .full []
              else
                ((d.onIssue serial (fun x => { x with voidPending := true })).appendIssue
                  { kind := .void, num := num, serial := serial, fails := 0, orphan := none }).answer .ok []

/-! ### SEND_PICKUP (R165) -/

/-- SEND_PICKUP (R156, R165, R169, R171). -/
def Device.sendPickup (p : List Byte) (d : Device) : Device :=
  let num := param p 0
  if !d.takesPassCommands then d.answer .wrongState []
  else if p.length != 1 then d.answer .badValue []
  else
    match d.passWave? num with
    | none => d.answer .wrongState []
    | some w =>
        if w.state != .goSet || w.pickupPending then d.answer .wrongState []
        else if d.issueFull then d.answer .full []
        else
          ((d.onWave w.ref (fun x => { x with pickupPending := true })).appendIssue
            { kind := .pickup, num := num, serial := 0, fails := 0, orphan := none }).answer .ok []

end Sys2Proof.Machine
end

