-- ==== Sys2Proof/Machine/Reads.lean ====
section
/-! DEFINITION. The station port's reads, notices and replies (R168, R169, R172 to R178). -/

namespace Sys2Proof.Machine

/-! ### Codes -/

/-- The status codes (R169). -/
def Status.code : Status → Byte
  | .ok => 0
  | .wrongState => 1
  | .badValue => 2
  | .full => 3
  | .unknownRecord => 4

/-- The held reply as the port shifts it out, byte by byte, with 00h after its last byte (R168). -/
def Reply.stream (r : Reply) (n : Nat) : Byte := (r.status.code :: byteOf r.data.length :: r.data).getD n 0

/-- The NOTICE output is driven low (R177). -/
def Device.noticeLow (d : Device) : Bool := !d.sp.notices.isEmpty

/-- The station state codes (R173). -/
def StationState.code : StationState → Nat
  | .standby => 0
  | .listen => 1
  | .onLine => 2
  | .quiet => 3

/-- The line mode codes (R173). -/
def LineMode.code : LineMode → Nat
  | .dual => 0
  | .aOnly => 1
  | .bOnly => 2
  | .down => 3

/-- The wave state codes (R174). -/
def WaveState.code : WaveState → Nat
  | .opened => 0
  | .settling => 1
  | .goSet => 2
  | .away => 3

/-- The batch state codes (R175). -/
def BatchState.code : BatchState → Nat
  | .formed => 0
  | .called => 1
  | .cooking => 2
  | .due => 3
  | .holding => 4

/-- The last offer outcome codes (R175). -/
def outcomeCode : Option OfferOutcome → Nat
  | none => 0
  | some .noTaker => 1
  | some .rejected => 2
  | some .brokenOff => 3

/-- The lane state codes (R176). -/
def LaneState.code : LaneState → Nat
  | .idle => 0
  | .called => 1
  | .cooking => 2
  | .due => 3

/-- The overdue cause codes (R176). -/
def Overdue.code : Overdue → Nat
  | .none => 0
  | .call => 1
  | .due => 2

/-- The own announcement's code (R174). -/
def OwnAnn.code : OwnAnn → Nat
  | .absent => 0
  | .estimate .. => 1
  | .withdrawn .. => 2

/-- The own announcement's estimate (R174). -/
def OwnAnn.tick : OwnAnn → Option Tick
  | .absent => none
  | .estimate t _ => some t
  | .withdrawn _ => none

/-- The own announcement's stamp tick (R174). -/
def OwnAnn.stamp : OwnAnn → Option Tick
  | .absent => none
  | .estimate _ s => some s
  | .withdrawn s => some s

/-! ### READ_STATION (R173) -/

/-- The configuration record in the layout of the CONFIGURE parameters (R170, R173). -/
def Configuration.bytes (c : Configuration) : List Byte :=
  byteOf c.laneCount :: (c.laneKinds.toList.map byteOf) ++
    [byteOf c.margin, byteOf c.threshold, byteOf c.callWindow, byteOf c.dueWindow, byteOf c.reportStep,
     byteOf c.shareCount, byteOf c.shareIndex, byteOf (lockCode c.lock),
     byteOf (bit c.waveGroup 0 + bit c.batchGroup 1 + bit c.ticketGroup 2 + bit c.linkGroup 3)]

/-- A menu entry in the layout of the LOAD_DISH parameters (R170, R173). -/
def Dish.bytes (x : Dish) : List Byte :=
  [x.code, byteOf x.kind] ++ be16 x.cook ++ be16 x.turn ++ be16 x.hold ++ [byteOf x.batch]

/-- The station record (R173). -/
def Device.stationBytes (d : Device) : List Byte :=
  [byteOf d.fe.station.code, byteOf d.lif.mode.code,
   byteOf (bit (d.lif.wireA == .failed) 0 + bit (d.lif.wireB == .failed) 1),
   byteOf d.fe.tecCount, byteOf d.fe.recCount]
    ++ be32 d.sck.reading.toNat
    ++ [byteOf (bit d.fe.viewFrom.isSome 0)] ++ tickBytes d.fe.viewFrom
    ++ [byteOf d.fe.listenCount, byteOf d.fe.quietCount, addrByte d.strap.addr, byteOf d.strap.cls.toNat]
    ++ d.cfg.bytes
    ++ [byteOf d.sp.menu.length, byteOf d.wu.waves.length]
    ++ be16 (d.ti.tickets.length + d.ti.issues.length)
    ++ [byteOf d.bp.batches.length, byteOf d.bp.handed.length, byteOf d.sp.notices.length, byteOf d.sp.lost]

/-- The menu entry at the place a READ_STATION names (R173). -/
def Device.menuBytes (d : Device) (p : List Byte) : List Byte :=
  if p.length == 1 then ((d.sp.menu[param8 p 0]?).map Dish.bytes).getD [] else []

/-- READ_STATION, `elapsed` crystal counts after the last counted one (R3, R173). -/
def Device.readStation (elapsed : Nat) (p : List Byte) (d : Device) : Device :=
  let d1 : Device := d.passIdle elapsed
  if 1 < p.length then d1.answer .badValue []
  else d1.answer .ok (d1.stationBytes ++ d1.menuBytes p)

/-! ### READ_WAVE (R174) -/

/-- One participant in seven bytes (R174). -/
def Participant.bytes (x : Participant) : List Byte :=
  [byteOf (x.addr.toNat + bit x.far 7)] ++ be24 x.estimate.toNat ++ be24 x.stamp.toNat

/-- One dish line in four bytes (R174). -/
def DishLine.bytes (x : DishLine) : List Byte := x.dish :: be24 x.demand

/-- The count bytes 30 and 31: on a pass the issue records, on a cooking station the live batches of the wave (R174). -/
def Device.waveCount (d : Device) (w : Wave) : Nat :=
  if d.isPass then (d.ti.issues.filter (fun r => r.wave == w.ref)).length else (d.batchesOf w.ref).length

/-- A wave record at a place in the table (R174). The close lead of a record without one is sent as 0, as an absent time is
(log entry 46, DESIGN CHOICE). -/
def Device.waveBytes (d : Device) (place : Nat) (w : Wave) : List Byte :=
  [addrByte w.noticeId.pass, w.noticeId.num, byteOf place, byteOf w.state.code,
   byteOf (bit w.partialMark 0 + bit w.far 1 + bit w.adoptedOnly 2 + bit w.anonymous 3 + bit w.pickupPending 4
     + bit w.call.isSome 5 + bit w.go.isSome 6),
   byteOf (bit w.est.isSome 0 + bit ((w.est.map (·.saturated)).getD false) 1 + 4 * w.own.code)]
    ++ tickBytes w.call ++ be16 (w.lead.getD 0).toNat ++ tickBytes w.close
    ++ tickBytes w.go ++ [byteOf w.slips] ++ be24 w.heardFrom.toNat ++ tickBytes (w.est.map (·.tick))
    ++ tickBytes w.own.tick ++ tickBytes w.own.stamp ++ be16 (d.waveCount w)
    ++ [byteOf w.participants.length] ++ w.participants.flatMap Participant.bytes
    ++ [byteOf w.lines.length] ++ w.lines.flatMap DishLine.bytes

/-- A wave record is the one a pass address and wave number name (R70). -/
def Wave.bears (w : Wave) (pass : Addr) (num : Byte) : Bool :=
  !w.anonymous && w.id == some { pass := pass, num := num }

/-- The reply to a read of a list's place: the record there, or UNKNOWN_RECORD (R172). -/
def Device.answerPlace {α : Type} (l : List α) (i : Nat) (f : Nat → α → List Byte) (d : Device) : Device :=
  match l[i]? with
  | some x => d.answer .ok (f i x)
  | none => d.answer .unknownRecord []

/-- READ_WAVE (R172, R174). -/
def Device.readWave (p : List Byte) (d : Device) : Device :=
  let a := param8 p 0
  if p.length != 2 then d.answer .badValue []
  else if a == 63 then d.answer .badValue []
  else if a == 0 then d.answerPlace d.wu.waves (param8 p 1) d.waveBytes
  else if a ≤ 62 then
    d.answerPlace d.wu.waves (placeOf (fun w => w.bears (BitVec.ofNat 6 a) (param p 1)) d.wu.waves) d.waveBytes
  else d.answer .unknownRecord []

/-! ### READ_TICKET (R175) -/

/-- A ticket record of a cooking station at a place in the index (R175). -/
def Device.ticketBytes (d : Device) (place : Nat) (t : Ticket) : List Byte :=
  [addrByte t.pass] ++ be16 t.serial.toNat ++ [(d.waveIdOf t.wave).num, 0, byteOf place, byteOf t.items.length]
    ++ t.items.flatMap (fun it => [it.dish, byteOf it.qty, byteOf it.unb])

/-- An issue record of a pass at a place in the index (R175). -/
def Device.issueBytes (d : Device) (place : Nat) (r : Issue) : List Byte :=
  [addrByte d.strap.addr] ++ be16 r.serial.toNat ++
    [(d.waveIdOf r.wave).num, byteOf (bit r.issued 0 + bit r.short 1 + bit r.voidPending 2), byteOf place,
     byteOf r.items.length] ++ r.items.flatMap (fun it => [it.dish, byteOf it.qty, 0])

/-- READ_TICKET (R172, R175). -/
def Device.readTicket (p : List Byte) (d : Device) : Device :=
  let a := param8 p 0
  let n := param16 p 1
  if p.length != 3 then d.answer .badValue []
  else if d.isPass then
    if a == 0 then d.answerPlace d.ti.issues n d.issueBytes
    else if a == d.strap.addr.toNat then
      d.answerPlace d.ti.issues (placeOf (fun r => r.serial.toNat == n) d.ti.issues) d.issueBytes
    else d.answer .unknownRecord []
  else if a == 0 then d.answerPlace d.ti.tickets n d.ticketBytes
  else
    d.answerPlace d.ti.tickets (placeOf (fun t => t.pass.toNat == a && t.serial.toNat == n) d.ti.tickets) d.ticketBytes

/-! ### READ_BATCH (R175) -/

/-- The batch's record bears no wave id: its record is anonymous (R175). -/
def Device.waveAnonymous (d : Device) (ref : Nat) : Bool := ((d.wave? ref).map (·.anonymous)).getD false

/-- A live batch (R175). -/
def Device.batchBytes (d : Device) (b : Batch) : List Byte :=
  be16 b.seq.toNat ++ [addrByte (d.waveIdOf b.wave).pass, (d.waveIdOf b.wave).num, b.dish, byteOf b.portions,
   byteOf b.state.code,
   byteOf (bit b.staged 0 + bit b.late 1 + bit b.adopted 2 + bit b.offerPending 3 + bit (b.refire == 1) 4
     + bit b.turn.isSome 5 + bit (d.waveAnonymous b.wave) 6),
   byteOf ((b.lane.map (·.val)).getD 255)]
    ++ be24 b.ls.toNat ++ be24 b.rl.toNat
    ++ tickBytes b.start ++ tickBytes b.due ++ tickBytes b.turn ++ tickBytes b.done
    ++ [byteOf b.attempts, byteOf (outcomeCode b.outcome)] ++ tickBytes b.lastOffer
    ++ [byteOf b.contribs.length] ++ b.contribs.flatMap contribBytes

/-- A handed record at a place (R175). -/
def Device.handedBytes (d : Device) (place : Nat) (h : Handed) : List Byte :=
  [byteOf place, addrByte (d.waveIdOf h.wave).pass, (d.waveIdOf h.wave).num, h.dish, addrByte h.taker]
    ++ be16 h.seq.toNat ++ be24 h.handedAt.toNat
    ++ [byteOf h.contribs.length] ++ h.contribs.flatMap contribBytes

/-- The live batch bearing a sequence, the more recently created where two do (R175). -/
def Device.newestOf (d : Device) (seq : Nat) : Option Batch :=
  (d.bp.batches.filter (fun b => b.seq.toNat == seq)).getLast?

/-- READ_BATCH (R172, R175). -/
def Device.readBatch (p : List Byte) (d : Device) : Device :=
  let sel := param8 p 0
  if p.length != 3 then d.answer .badValue []
  else if 1 < sel then d.answer .badValue []
  else if sel == 0 then
    match d.newestOf (param16 p 1) with
    | some b => d.answer .ok (d.batchBytes b)
    | none => d.answer .unknownRecord []
  else d.answerPlace d.bp.handed (param8 p 1) d.handedBytes

/-! ### READ_LANE (R176) -/

/-- The formation sequence of a lane's batch (R176); 0 where the lane has none, which no rule gives (log entry 46, DESIGN
CHOICE). -/
def Device.seqOf (d : Device) (b : Option Nat) : Nat := ((b.bind d.batch?).map (·.seq.toNat)).getD 0

/-- A lane record (R176). -/
def Device.laneBytes (d : Device) (i : Fin 8) : List Byte :=
  let l := d.lane i
  [byteOf i.val,
   byteOf (bit (d.configured i) 0 + bit l.reserved 1 + bit l.ack 2 + bit l.lamp 3 + bit d.lu.ring 4 + bit d.lu.bell 5
     + bit l.current.isSome 6 + bit l.staged.isSome 7),
   byteOf (d.laneKind i), byteOf l.state.code, byteOf l.overdue.code]
    ++ be16 (d.seqOf l.current) ++ be16 (d.seqOf l.staged)
    ++ [byteOf (bit l.calledSince.isSome 0 + bit l.turnTick.isSome 1 + bit l.dueTick.isSome 2 + bit l.flashEnd.isSome 3
        + bit l.dueSince.isSome 4 + bit l.lastPress.isSome 5)]
    ++ tickBytes l.calledSince ++ tickBytes l.turnTick ++ tickBytes l.dueTick
    ++ tickBytes l.flashEnd ++ tickBytes l.dueSince ++ tickBytes l.lastPress

/-- READ_LANE (R172, R176). -/
def Device.readLane (p : List Byte) (d : Device) : Device :=
  if p.length != 1 then d.answer .badValue []
  else if h : param8 p 0 < 8 then d.answer .ok (d.laneBytes ⟨param8 p 0, h⟩)
  else d.answer .badValue []

/-! ### READ_NOTICE (R178) -/

/-- The WAVE_PARTIAL cause codes (R178). -/
def PartialCause.code : PartialCause → Nat
  | .heardFrom => 0
  | .link => 1
  | .both => 2

/-- The TICKET_SHORT cause codes (R178). -/
def ShortCause.code : ShortCause → Nat
  | .waveTable => 0
  | .ticketIndex => 1
  | .dishLines => 2
  | .waveAway => 3
  | .shortRead => 4

/-- The LINE_MODE cause codes (R178). -/
def ModeCause.code : ModeCause → Nat
  | .wireAFailed => 0
  | .wireBFailed => 1
  | .lineReturn => 2
  | .stuckDominant => 3
  | .bothFailed => 4
  | .frameSeen => 5
  | .configure => 6
  | .join => 7

/-- The step kind codes (R178). -/
def StepKind.code : StepKind → Nat
  | .first => 0
  | .mean => 1
  | .forward => 2

/-- The kind byte of a notice; for BATCH_ADOPTED with a lane, bits 5 to 7 hold the lane (R178). -/
def NoticeBody.code : NoticeBody → Byte
  | .waveSet .. => 0x01
  | .waveSlipped .. => 0x02
  | .wavePartial .. => 0x03
  | .waveFar .. => 0x04
  | .waveAway .. => 0x05
  | .waveAbandoned .. => 0x06
  | .batchCalled .. => 0x08
  | .batchLate .. => 0x09
  | .batchSpoiled .. => 0x0A
  | .batchLost .. => 0x0B
  | .batchHanded .. => 0x0C
  | .batchAdopted _ _ _ _ _ (some lane) => byteOf (0x0D + 32 * lane.val)
  | .batchAdopted _ _ _ _ _ none => 0x0E
  | .ticketShort .. => 0x10
  | .issueFailed .. => 0x11
  | .lineMode .. => 0x18
  | .linkQuiet .. => 0x19
  | .clockStep .. => 0x1A
  | .stationLeft .. => 0x1B

/-- The pass address and wave number bytes (R178). -/
def WaveId.bytes (id : WaveId) : List Byte := [addrByte id.pass, id.num]

/-- The six bytes of a hand-off notice (R178). -/
def handoffBytes (id : WaveId) (seq : Seq) (dish : Byte) (portions : Nat) (other : Addr) : List Byte :=
  let n := (portions - 1) % 16
  [byteOf (id.pass.toNat + 64 * (n / 4)), id.num] ++ be16 seq.toNat ++ [dish, byteOf (other.toNat + 64 * (n % 4))]

/-- The data bytes a notice uses (R178). -/
def NoticeBody.data : NoticeBody → List Byte
  | .waveSet id go n => id.bytes ++ be24 go.toNat ++ [byteOf n]
  | .waveSlipped id go n => id.bytes ++ be24 go.toNat ++ [byteOf n]
  | .wavePartial id c => id.bytes ++ [byteOf c.code]
  | .waveFar id a => id.bytes ++ [addrByte a]
  | .waveAway id n => id.bytes ++ [byteOf n]
  | .waveAbandoned id n => id.bytes ++ be16 n
  | .batchCalled id seq lane dish => id.bytes ++ be16 seq.toNat ++ [byteOf lane.val, dish]
  | .batchLate id seq n => id.bytes ++ be16 seq.toNat ++ be16 n
  | .batchSpoiled id seq dish n => id.bytes ++ be16 seq.toNat ++ [dish, byteOf n]
  | .batchLost id seq dish n => id.bytes ++ be16 seq.toNat ++ [dish, byteOf n]
  | .batchHanded id seq dish n taker => handoffBytes id seq dish n taker
  | .batchAdopted id seq dish n offerer _ => handoffBytes id seq dish n offerer
  | .ticketShort pass serial num c undriven =>
      [addrByte pass] ++ be16 serial.toNat ++ [num, byteOf c.code, byteOf (bit undriven 0)]
  | .issueFailed kind num serial => [byteOf kind.kind.code, num] ++ be16 serial.toNat
  | .lineMode old new c => [byteOf old.code, byteOf new.code, byteOf c.code]
  | .linkQuiet tec recv t r => [byteOf tec, byteOf recv, byteOf (bit t 0 + bit r 1)]
  | .clockStep kind size => byteOf kind.code :: be32 (BitVec.ofInt 32 size).toNat
  | .stationLeft st waves batches tickets =>
      [byteOf st.code, byteOf waves, byteOf batches] ++ be16 tickets

/-- The twelve bytes READ_NOTICE returns: kind, tick, data with unused bytes 0, lost count, notices left (R178). -/
def noticeBytes (n : Notice) (lost left : Nat) : List Byte :=
  [n.body.code] ++ be24 n.tick.toNat ++ (n.body.data ++ List.replicate 6 0).take 6 ++ [byteOf lost, byteOf left]

/-- READ_NOTICE (R172, R178). -/
def Device.readNotice (p : List Byte) (d : Device) : Device :=
  if p.length != 0 then d.answer .badValue []
  else
    match d.sp.notices with
    | [] => d.answer .ok (List.replicate 12 0)
    | n :: rest =>
        (d.onSp (fun x => { x with notices := rest, lost := 0 })).answer .ok (noticeBytes n d.sp.lost rest.length)

/-! ### Messages that carry no command (R168, R169) -/

/-- A command code that names no command is refused with BAD_VALUE; 00h is no command, and a code that names one is no
unknown command, so that neither does anything here (R168, R169; log entry 35). -/
def Device.unknownCommand (code : Byte) (d : Device) : Device :=
  if code == 0 || commandCodes.contains code then d else d.answer .badValue []

/-- A select without a command takes nothing and leaves the held reply (R168). -/
def Device.nullSelect (d : Device) : Device := d

/-- A message cut short: nothing is taken and the held reply becomes BAD_VALUE without data (R168). -/
def Device.messageCutShort (clocked : List Byte) (d : Device) : Device :=
  if cutShort clocked then d.answer .badValue [] else d

end Sys2Proof.Machine
end

