-- ==== Sys2Proof/Machine/ClockRows.lean ====
section
/-! DEFINITION. The meanings of the clock and station rows: RESET, TICK_BOUNDARY, PERIOD_END, MARK_PLACE, QUIET_END,
LISTEN_END. -/

namespace Sys2Proof.Machine

/-- RESET: every block returns to its reset value and the strap pins are sampled (R56, R57). -/
def execReset (addr : Addr) (cls : ClassNo) (s : State) : Host.Outcome State Fault Refusal :=
  .next (s.onDev (fun _ => Device.reset addr cls))

/-- TICK_BOUNDARY (R1, R2, R15, R16, R90, R117). -/
def execTickBoundary (s : State) : Host.Outcome State Fault Refusal :=
  .next (s.onDev (Device.tickBoundary))

/-- PERIOD_END (R8, R12, R13, R14). -/
def execPeriodEnd (s : State) : Host.Outcome State Fault Refusal :=
  .next (s.onDev (Device.periodEnd))

/-- MARK_PLACE (R15). -/
def execMarkPlace (s : State) : Host.Outcome State Fault Refusal :=
  .next (s.onDev (Device.markPlace))

/-- QUIET_END (R47). -/
def execQuietEnd (s : State) : Host.Outcome State Fault Refusal :=
  .next (s.onDev (Device.quietEnd))

/-- LISTEN_END (R66). -/
def execListenEnd (s : State) : Host.Outcome State Fault Refusal :=
  .next (s.onDev (Device.listenEnd))

end Sys2Proof.Machine
end

