-- ==== Sys2Proof/Machine/LaneRows.lean ====
section
/-! DEFINITION. The meanings of the lane rows. -/

namespace Sys2Proof.Machine

/-- The own OFFER in flight names the CALLED batch of this lane (R148). -/
def Device.offered (i : Fin 8) (d : Device) : Bool :=
  (d.lane i).state == .called && ((d.lane i).current.map d.offerFlying).getD false

/-- A press; one that comes after the offerer has begun driving its accept slot, on the lane of the offered batch, waits
for the end of that slot (R129, R148; log entry 37). -/
def Device.buttonPress (i : Fin 8) (inAccept : Bool) (d : Device) : Device :=
  if inAccept && d.offered i then
    d.onFe (fun f => { f with inFlight := f.inFlight.map (fun x => { x with deferred := some i }) })
  else d.press i

/-- TURN_COMPARE (R134). -/
def execTurnCompare (lane : Fin 8) (s : State) : Host.Outcome State Fault Refusal :=
  .next (s.onDev (Device.turnCompare lane))

/-- TURN_FLASH_END (R138). -/
def execTurnFlashEnd (lane : Fin 8) (s : State) : Host.Outcome State Fault Refusal :=
  .next (s.onDev (Device.flashEnd lane))

/-- DUE_COMPARE (R119, R120, R134). -/
def execDueCompare (lane : Fin 8) (s : State) : Host.Outcome State Fault Refusal :=
  .next (s.onDev (Device.dueCompare lane))

/-- CALL_OVERDUE (R136). -/
def execCallOverdue (lane : Fin 8) (s : State) : Host.Outcome State Fault Refusal :=
  .next (s.onDev (Device.callOverdue lane))

/-- DUE_OVERDUE (R137). -/
def execDueOverdue (lane : Fin 8) (s : State) : Host.Outcome State Fault Refusal :=
  .next (s.onDev (Device.dueOverdue lane))

/-- BUTTON_PRESS (R129 to R133, R148). -/
def execButtonPress (lane : Fin 8) (inAccept : Bool) (s : State) : Host.Outcome State Fault Refusal :=
  .next (s.onDev (Device.buttonPress lane inAccept))

end Sys2Proof.Machine
end

