-- ==== Sys2Proof/Machine/LinkRows.lean ====
section
/-! DEFINITION. The meanings of the Link rows: sending, receiving, fates and line modes. -/

namespace Sys2Proof.Machine

/-- CONTEND (R5, R19, R26, R36). -/
def execContend (start : OwnStart) (s : State) : Host.Outcome State Fault Refusal :=
  .next (s.onDev (Device.contend start))

/-- ARBITRATION_LOST (R27, R36). -/
def execArbitrationLost (s : State) : Host.Outcome State Fault Refusal :=
  .next (s.onDev (Device.loseArbitration))

/-- OWN_BIT_ERROR (R42, R43). -/
def execOwnBitError (inGap : Bool) (line : Followed) (s : State) : Host.Outcome State Fault Refusal :=
  .next (s.onDev (Device.ownBitError inGap line))

/-- FRAME_CODING_VIOLATION (R25, R44). -/
def execFrameCodingViolation (wait : Wait) (line : Followed) (s : State) : Host.Outcome State Fault Refusal :=
  .next (s.onDev (Device.codingViolation wait line))

/-- MARK_FRAME (R20, R23 to R25, R33, R6). -/
def execMarkFrame (h : Heard) (s : State) : Host.Outcome State Fault Refusal :=
  .next (s.onDev (Device.receive .mark h noTakerReply))

/-- READY_FRAME (R20, R23 to R25, R33, R98). -/
def execReadyFrame (h : Heard) (s : State) : Host.Outcome State Fault Refusal :=
  .next (s.onDev (Device.receive .ready h noTakerReply))

/-- SLIP_FRAME (R20, R23 to R25, R33, R106). -/
def execSlipFrame (h : Heard) (s : State) : Host.Outcome State Fault Refusal :=
  .next (s.onDev (Device.receive .slip h noTakerReply))

/-- TICKET_FRAME (R20, R23 to R25, R33, R72 to R76). -/
def execTicketFrame (h : Heard) (s : State) : Host.Outcome State Fault Refusal :=
  .next (s.onDev (Device.receive .ticket h noTakerReply))

/-- VOID_FRAME (R20, R23 to R25, R33, R77 to R80). -/
def execVoidFrame (h : Heard) (s : State) : Host.Outcome State Fault Refusal :=
  .next (s.onDev (Device.receive .void h noTakerReply))

/-- PICKUP_FRAME (R20, R23 to R25, R33, R84). -/
def execPickupFrame (h : Heard) (s : State) : Host.Outcome State Fault Refusal :=
  .next (s.onDev (Device.receive .pickup h noTakerReply))

/-- OFFER_FRAME (R20, R23 to R25, R28, R30 to R33, R150 to R153). -/
def execOfferFrame (h : Heard) (rep : OfferReply) (s : State) : Host.Outcome State Fault Refusal :=
  .next (s.onDev (Device.receive .offer h rep))

/-- READY_FATE (R34, R39, R43, R97). -/
def execReadyFate (fate : Fate) (line : Followed) (s : State) : Host.Outcome State Fault Refusal :=
  .next (s.onDev (Device.fateOf .ready fate noTakerReply .one line))

/-- SLIP_FATE (R34, R39, R43, R105, R106). -/
def execSlipFate (fate : Fate) (line : Followed) (s : State) : Host.Outcome State Fault Refusal :=
  .next (s.onDev (Device.fateOf .slip fate noTakerReply .one line))

/-- OFFER_FATE (R25, R31, R32, R34, R39, R42, R43, R148, R149). -/
def execOfferFate (fate : Fate) (rep : OfferReply) (line : Followed) (s : State) : Host.Outcome State Fault Refusal :=
  .next (s.onDev (Device.fateOf .offer fate rep .one line))

/-- MARK_FATE (R15, R34, R39, R43). -/
def execMarkFate (fate : Fate) (line : Followed) (s : State) : Host.Outcome State Fault Refusal :=
  .next (s.onDev (Device.fateOf .mark fate noTakerReply .one line))

/-- TICKET_FATE (R25, R29, R34, R39, R42, R43, R163). -/
def execTicketFate (fate : Fate) (short : Slot) (line : Followed) (s : State) : Host.Outcome State Fault Refusal :=
  .next (s.onDev (Device.fateOf .ticket fate noTakerReply (short.read .shared) line))

/-- VOID_FATE (R34, R39, R43, R163, R164). -/
def execVoidFate (fate : Fate) (line : Followed) (s : State) : Host.Outcome State Fault Refusal :=
  .next (s.onDev (Device.fateOf .void fate noTakerReply .one line))

/-- PICKUP_FATE (R34, R39, R43, R163, R165). -/
def execPickupFate (fate : Fate) (line : Followed) (s : State) : Host.Outcome State Fault Refusal :=
  .next (s.onDev (Device.fateOf .pickup fate noTakerReply .one line))

/-- WIRE_FAILED (R49, R54). -/
def execWireFailed (wire : Wire) (failure : Failure) (s : State) : Host.Outcome State Fault Refusal :=
  .next (s.onDev (Device.wireFails wire failure))

/-- LINE_RETURN (R50). -/
def execLineReturn (s : State) : Host.Outcome State Fault Refusal :=
  .next (s.onDev (Device.lineReturn))

/-- LINE_DOWN (R51, R54, R55). -/
def execLineDown (cause : DownCause) (other : Fin 2) (s : State) : Host.Outcome State Fault Refusal :=
  .next (s.onDev (Device.lineDown cause other))

/-- FRAME_SEEN (R52, R53). -/
def execFrameSeen (seen : Seen) (s : State) : Host.Outcome State Fault Refusal :=
  .next (s.onDev (Device.frameSeen seen))

end Sys2Proof.Machine
end

