-- ==== Sys2Proof/Machine/PortRows.lean ====
section
/-! DEFINITION. The meanings of the station port rows. -/

namespace Sys2Proof.Machine

/-- CONFIGURE, code 10h (R58, R59, R170). -/
def execConfigure (params : List Byte) (s : State) : Host.Outcome State Fault Refusal :=
  .next (s.onDev (Device.configure params))

/-- LOAD_DISH, code 11h (R61, R170). -/
def execLoadDish (params : List Byte) (s : State) : Host.Outcome State Fault Refusal :=
  .next (s.onDev (Device.loadDish params))

/-- CLEAR_MENU, code 12h (R62, R170). -/
def execClearMenu (params : List Byte) (s : State) : Host.Outcome State Fault Refusal :=
  .next (s.onDev (Device.clearMenu params))

/-- JOIN, code 18h (R64, R65, R170). -/
def execJoin (params : List Byte) (s : State) : Host.Outcome State Fault Refusal :=
  .next (s.onDev (Device.join params))

/-- LEAVE, code 19h (R67, R170). -/
def execLeave (params : List Byte) (s : State) : Host.Outcome State Fault Refusal :=
  .next (s.onDev (Device.leave params))

/-- SILENCE, code 30h (R140, R170). -/
def execSilence (params : List Byte) (s : State) : Host.Outcome State Fault Refusal :=
  .next (s.onDev (Device.silence params))

/-- RING, code 31h (R141, R170). -/
def execRing (params : List Byte) (s : State) : Host.Outcome State Fault Refusal :=
  .next (s.onDev (Device.ringBell params))

/-- OPEN_WAVE, code 40h (R158, R171). -/
def execOpenWave (params : List Byte) (s : State) : Host.Outcome State Fault Refusal :=
  .next (s.onDev (Device.openWave params))

/-- ISSUE_TICKET, code 41h (R161, R171). -/
def execIssueTicket (params : List Byte) (s : State) : Host.Outcome State Fault Refusal :=
  .next (s.onDev (Device.issueTicket params))

/-- VOID_TICKET, code 42h (R164, R171). -/
def execVoidTicket (params : List Byte) (s : State) : Host.Outcome State Fault Refusal :=
  .next (s.onDev (Device.voidTicket params))

/-- SEND_PICKUP, code 43h (R165, R171). -/
def execSendPickup (params : List Byte) (s : State) : Host.Outcome State Fault Refusal :=
  .next (s.onDev (Device.sendPickup params))

/-- READ_STATION, code 20h (R173). -/
def execReadStation (elapsed : Nat) (params : List Byte) (s : State) : Host.Outcome State Fault Refusal :=
  .next (s.onDev (Device.readStation elapsed params))

/-- READ_WAVE, code 21h (R174). -/
def execReadWave (params : List Byte) (s : State) : Host.Outcome State Fault Refusal :=
  .next (s.onDev (Device.readWave params))

/-- READ_TICKET, code 22h (R175). -/
def execReadTicket (params : List Byte) (s : State) : Host.Outcome State Fault Refusal :=
  .next (s.onDev (Device.readTicket params))

/-- READ_BATCH, code 23h (R175). -/
def execReadBatch (params : List Byte) (s : State) : Host.Outcome State Fault Refusal :=
  .next (s.onDev (Device.readBatch params))

/-- READ_LANE, code 24h (R176). -/
def execReadLane (params : List Byte) (s : State) : Host.Outcome State Fault Refusal :=
  .next (s.onDev (Device.readLane params))

/-- READ_NOTICE, code 25h (R178). -/
def execReadNotice (params : List Byte) (s : State) : Host.Outcome State Fault Refusal :=
  .next (s.onDev (Device.readNotice params))

/-- UNKNOWN_COMMAND (R169). -/
def execUnknownCommand (code : Byte) (_params : List Byte) (s : State) : Host.Outcome State Fault Refusal :=
  .next (s.onDev (Device.unknownCommand code))

/-- NULL_SELECT (R168). -/
def execNullSelect (_clocked : List Byte) (s : State) : Host.Outcome State Fault Refusal :=
  .next (s.onDev (Device.nullSelect))

/-- MESSAGE_CUT_SHORT (R168). -/
def execMessageCutShort (clocked : List Byte) (s : State) : Host.Outcome State Fault Refusal :=
  .next (s.onDev (Device.messageCutShort clocked))

end Sys2Proof.Machine
end

