-- ==== Sys2Proof/Machine/WaveRows.lean ====
section
/-! DEFINITION. The meanings of the rows at which own clock reaches a time of a wave or a batch. -/

namespace Sys2Proof.Machine

/-- What own clock does to a named wave record at a boundary; nothing where no record bears the name (log entry 3). -/
def Device.onNamed (pass : Addr) (num : Byte) (f : Nat → Device → Device) (d : Device) : Device :=
  match d.named? pass num with
  | some w => f w.ref d
  | none => d

/-- A queued batch of this sequence is released: a dispatch pass, and the estimates after it (R111, R117, R90). -/
def Device.batchReleased (seq : Seq) (d : Device) : Device :=
  if d.queued.any (fun b => b.seq == seq && d.released b) then (d.dispatch).evaluate else d

/-- A batch of this sequence is behind: the evaluation that reads it (R104, R105, R107, R146). -/
def Device.batchBehind (seq : Seq) (d : Device) : Device :=
  if d.bp.batches.any (fun b => b.seq == seq && d.behind b) then d.evaluate else d

/-- Own clock has reached the last offer time plus 8 of a batch of this sequence (R146). -/
def Device.retryDue (seq : Seq) (d : Device) : Bool :=
  d.bp.batches.any (fun b => b.seq == seq && (b.lastOffer.map (fun t => atOrAfter d.now (t + 8))).getD false)

/-- A batch may be offered again: the evaluation that may name it (R146). -/
def Device.offerRetry (seq : Seq) (d : Device) : Device := if d.retryDue seq then d.evaluate else d

/-- Own clock is at or after the go time less 16 of a SET wave: the evaluation that marks its late batches (R107). -/
def Device.slipCutoff (ref : Nat) (d : Device) : Device :=
  match d.wave? ref with
  | some w => if w.state == .goSet && !d.beforeCutoff w then d.evaluate else d
  | none => d

/-- The expiring batch that bears this sequence, at the boundary of its expiry (R122). -/
def Device.holdExpired (seq : Seq) (d : Device) : Device :=
  match d.bp.batches.find? (fun b => b.seq == seq && d.expires b) with
  | some b => d.holdExpiry b.bid
  | none => d

/-- WAVE_CLOSE (R99). -/
def execWaveClose (pass : Addr) (num : Byte) (s : State) : Host.Outcome State Fault Refusal :=
  .next (s.onDev (Device.onNamed pass num Device.waveClose))

/-- WAVE_SETTLE (R100 to R102). -/
def execWaveSettle (pass : Addr) (num : Byte) (s : State) : Host.Outcome State Fault Refusal :=
  .next (s.onDev (Device.onNamed pass num Device.waveSettle))

/-- WAVE_ABANDON (R87). -/
def execWaveAbandon (pass : Addr) (num : Byte) (s : State) : Host.Outcome State Fault Refusal :=
  .next (s.onDev (Device.onNamed pass num Device.waveAbandon))

/-- PASS_WAVE_ABANDON (R166). -/
def execPassWaveAbandon (pass : Addr) (num : Byte) (s : State) : Host.Outcome State Fault Refusal :=
  .next (s.onDev (Device.onNamed pass num Device.passAbandon))

/-- BATCH_RELEASED (R111, R117). -/
def execBatchReleased (seq : Seq) (s : State) : Host.Outcome State Fault Refusal :=
  .next (s.onDev (Device.batchReleased seq))

/-- BATCH_BEHIND (R104). -/
def execBatchBehind (seq : Seq) (s : State) : Host.Outcome State Fault Refusal :=
  .next (s.onDev (Device.batchBehind seq))

/-- OFFER_RETRY_DUE (R146). -/
def execOfferRetryDue (seq : Seq) (s : State) : Host.Outcome State Fault Refusal :=
  .next (s.onDev (Device.offerRetry seq))

/-- SLIP_CUTOFF (R107). -/
def execSlipCutoff (pass : Addr) (num : Byte) (s : State) : Host.Outcome State Fault Refusal :=
  .next (s.onDev (Device.onNamed pass num Device.slipCutoff))

/-- HOLD_EXPIRY (R122, R123). -/
def execHoldExpiry (seq : Seq) (s : State) : Host.Outcome State Fault Refusal :=
  .next (s.onDev (Device.holdExpired seq))

end Sys2Proof.Machine
end

