-- ==== Sys2Proof/Machine/Dispatch.lean ====
section
/-! DEFINITION. The meaning of each command: one arm for each row of the table. -/

namespace Sys2Proof.Machine

def exec (i : Instr) (s : State) : Host.Outcome State Fault Refusal :=
  match i with
  | .reset addr cls => Sys2Proof.Machine.execReset addr cls s
  | .tickBoundary => Sys2Proof.Machine.execTickBoundary s
  | .periodEnd => Sys2Proof.Machine.execPeriodEnd s
  | .markPlace => Sys2Proof.Machine.execMarkPlace s
  | .contend start => Sys2Proof.Machine.execContend start s
  | .arbitrationLost => Sys2Proof.Machine.execArbitrationLost s
  | .ownBitError inGap line => Sys2Proof.Machine.execOwnBitError inGap line s
  | .frameCodingViolation wait line => Sys2Proof.Machine.execFrameCodingViolation wait line s
  | .markFrame h => Sys2Proof.Machine.execMarkFrame h s
  | .readyFrame h => Sys2Proof.Machine.execReadyFrame h s
  | .slipFrame h => Sys2Proof.Machine.execSlipFrame h s
  | .offerFrame h rep => Sys2Proof.Machine.execOfferFrame h rep s
  | .ticketFrame h => Sys2Proof.Machine.execTicketFrame h s
  | .voidFrame h => Sys2Proof.Machine.execVoidFrame h s
  | .pickupFrame h => Sys2Proof.Machine.execPickupFrame h s
  | .readyFate fate line => Sys2Proof.Machine.execReadyFate fate line s
  | .slipFate fate line => Sys2Proof.Machine.execSlipFate fate line s
  | .offerFate fate rep line => Sys2Proof.Machine.execOfferFate fate rep line s
  | .markFate fate line => Sys2Proof.Machine.execMarkFate fate line s
  | .ticketFate fate short line => Sys2Proof.Machine.execTicketFate fate short line s
  | .voidFate fate line => Sys2Proof.Machine.execVoidFate fate line s
  | .pickupFate fate line => Sys2Proof.Machine.execPickupFate fate line s
  | .wireFailed wire failure => Sys2Proof.Machine.execWireFailed wire failure s
  | .lineReturn => Sys2Proof.Machine.execLineReturn s
  | .lineDown cause other => Sys2Proof.Machine.execLineDown cause other s
  | .frameSeen seen => Sys2Proof.Machine.execFrameSeen seen s
  | .quietEnd => Sys2Proof.Machine.execQuietEnd s
  | .listenEnd => Sys2Proof.Machine.execListenEnd s
  | .waveClose pass num => Sys2Proof.Machine.execWaveClose pass num s
  | .waveSettle pass num => Sys2Proof.Machine.execWaveSettle pass num s
  | .waveAbandon pass num => Sys2Proof.Machine.execWaveAbandon pass num s
  | .passWaveAbandon pass num => Sys2Proof.Machine.execPassWaveAbandon pass num s
  | .batchReleased seq => Sys2Proof.Machine.execBatchReleased seq s
  | .batchBehind seq => Sys2Proof.Machine.execBatchBehind seq s
  | .offerRetryDue seq => Sys2Proof.Machine.execOfferRetryDue seq s
  | .slipCutoff pass num => Sys2Proof.Machine.execSlipCutoff pass num s
  | .holdExpiry seq => Sys2Proof.Machine.execHoldExpiry seq s
  | .turnCompare lane => Sys2Proof.Machine.execTurnCompare lane s
  | .turnFlashEnd lane => Sys2Proof.Machine.execTurnFlashEnd lane s
  | .dueCompare lane => Sys2Proof.Machine.execDueCompare lane s
  | .callOverdue lane => Sys2Proof.Machine.execCallOverdue lane s
  | .dueOverdue lane => Sys2Proof.Machine.execDueOverdue lane s
  | .buttonPress lane inAccept => Sys2Proof.Machine.execButtonPress lane inAccept s
  | .configure params => Sys2Proof.Machine.execConfigure params s
  | .loadDish params => Sys2Proof.Machine.execLoadDish params s
  | .clearMenu params => Sys2Proof.Machine.execClearMenu params s
  | .join params => Sys2Proof.Machine.execJoin params s
  | .leave params => Sys2Proof.Machine.execLeave params s
  | .silence params => Sys2Proof.Machine.execSilence params s
  | .ring params => Sys2Proof.Machine.execRing params s
  | .openWave params => Sys2Proof.Machine.execOpenWave params s
  | .issueTicket params => Sys2Proof.Machine.execIssueTicket params s
  | .voidTicket params => Sys2Proof.Machine.execVoidTicket params s
  | .sendPickup params => Sys2Proof.Machine.execSendPickup params s
  | .readStation elapsed params => Sys2Proof.Machine.execReadStation elapsed params s
  | .readWave params => Sys2Proof.Machine.execReadWave params s
  | .readTicket params => Sys2Proof.Machine.execReadTicket params s
  | .readBatch params => Sys2Proof.Machine.execReadBatch params s
  | .readLane params => Sys2Proof.Machine.execReadLane params s
  | .readNotice params => Sys2Proof.Machine.execReadNotice params s
  | .unknownCommand code params => Sys2Proof.Machine.execUnknownCommand code params s
  | .nullSelect clocked => Sys2Proof.Machine.execNullSelect clocked s
  | .messageCutShort clocked => Sys2Proof.Machine.execMessageCutShort clocked s

end Sys2Proof.Machine
end

