-- ==== Sys2Proof/Machine/Step.lean ====
section
/-! DEFINITION. One step: the command at the front of the queue, or one crystal count on an empty queue. -/

namespace Sys2Proof.Machine

/-- One step. A waiting command is taken with the rest of the queue left waiting; on an empty queue one crystal count
passes (R1; log entry 5). -/
def step (s : State) : Host.Outcome State Fault Refusal :=
  match s.pending with
  | c :: rest => exec c { s with pending := rest }
  | [] => .next (s.onDev Device.crystalCount)

/-- A select of the station port ends: the command its bytes spell joins the waiting ones, in the order of the selects
(R168). -/
def State.select (clocked : List Byte) (s : State) : State :=
  { s with pending := s.pending ++ [selectCommand clocked] }

/-- The machine with the command a word spells at the front of its queue; unchanged where the word spells none. -/
def State.withFetchWord (s : State) (nbits w : Nat) : State :=
  match decodeTableWord nbits w with
  | some c => { s with pending := c :: s.pending }
  | none => s

end Sys2Proof.Machine
end

