-- ==== Sys2Proof/WellFormed.lean ====
section
/-! DEFINITION. Which commands a sender may give: the operands the Link, the crystal or the host can bring with each
row. A command that is not well formed still has a meaning, and the statements do not ask for well-formedness. -/

namespace Sys2Proof

open Sys2Proof.Machine

/-- Crystal counts that can pass within a tick: fewer than its longest length, 4,160 (R1, R2). -/
def countsPass (elapsed : Nat) : Bool := decide (elapsed < 4160)

/-- Wires that read alike in every slot of a frame have both shown its last transition (R48, R50). -/
def Followed.wf (f : Followed) : Bool := !f.agree || f.silentA == f.silentB

/-- A message carries at most 255 parameter bytes (section 11.1). -/
def paramsFit (p : List Byte) : Bool := decide (p.length ≤ 255)

/-- A frame heard under the row of its kind: its kind bits, no coding violation from Kind to Check, the slots its Length field
gives, the counts before it and in it, and the wires (R18, R21, R25, R48). The row MARK_FRAME also brings a frame whose kind bits read 0 (log entry 11). -/
def Heard.wf (k : Kind) (h : Heard) : Bool :=
  (h.frame.kind.toNat == k.code || (k == .mark && h.frame.kind == 0))
    && !h.broken && h.fields.length == fieldSlots h.frame.length.toNat && countsPass h.elapsed && countsPass h.lasted && h.toFollowed.wf

/-- The well-formed commands. -/
def Instr.wf : Instr → Bool
  | .reset _ _ => true
  | .tickBoundary => true
  | .periodEnd => true
  | .markPlace => true
  | .contend start => countsPass start.elapsed
  | .arbitrationLost => true
  | .ownBitError _ line => line.wf
  | .frameCodingViolation wait line => countsPass wait.elapsed && line.wf
  | .markFrame h => h.wf .mark
  | .readyFrame h => h.wf .ready
  | .slipFrame h => h.wf .slip
  | .offerFrame h _ => h.wf .offer
  | .ticketFrame h => h.wf .ticket
  | .voidFrame h => h.wf .void
  | .pickupFrame h => h.wf .pickup
  | .readyFate _ line => line.wf
  | .slipFate _ line => line.wf
  | .offerFate _ _ line => line.wf
  | .markFate _ line => line.wf
  | .ticketFate _ _ line => line.wf
  | .voidFate _ line => line.wf
  | .pickupFate _ line => line.wf
  | .wireFailed _ _ => true
  | .lineReturn => true
  | .lineDown _ _ => true
  | .frameSeen _ => true
  | .quietEnd => true
  | .listenEnd => true
  | .waveClose pass _ => addrOk pass
  | .waveSettle pass _ => addrOk pass
  | .waveAbandon pass _ => addrOk pass
  | .passWaveAbandon pass _ => addrOk pass
  | .batchReleased _ => true
  | .batchBehind _ => true
  | .offerRetryDue _ => true
  | .slipCutoff pass _ => addrOk pass
  | .holdExpiry _ => true
  | .turnCompare _ => true
  | .turnFlashEnd _ => true
  | .dueCompare _ => true
  | .callOverdue _ => true
  | .dueOverdue _ => true
  | .buttonPress _ _ => true
  | .configure p => paramsFit p
  | .loadDish p => paramsFit p
  | .clearMenu p => paramsFit p
  | .join p => paramsFit p
  | .leave p => paramsFit p
  | .silence p => paramsFit p
  | .ring p => paramsFit p
  | .openWave p => paramsFit p
  | .issueTicket p => paramsFit p
  | .voidTicket p => paramsFit p
  | .sendPickup p => paramsFit p
  | .readStation elapsed p => countsPass elapsed && paramsFit p
  | .readWave p => paramsFit p
  | .readTicket p => paramsFit p
  | .readBatch p => paramsFit p
  | .readLane p => paramsFit p
  | .readNotice p => paramsFit p
  | .unknownCommand code p => code != 0 && !commandCodes.contains code && paramsFit p
  | .nullSelect clocked => noCommand clocked
  | .messageCutShort clocked => cutShort clocked

end Sys2Proof
end

