-- ==== Sys2Proof/Safety.lean ====
section
/-! DEFINITION. What the statements about runs speak of: what an event of the kitchen's work leaves alone, the
invariants of the part, and the commands by kind. -/

namespace Sys2Proof.Machine

/-! ### Frames -/

/-- What no event of the waves, batches and lanes changes: the clock, the line, the strap record, the setup, the held
reply, the Frame Engine's state and counts, the frame being received, and whether a frame is in flight. -/
structure Device.Kept (d e : Device) : Prop where
  sck         : e.sck = d.sck
  lif         : e.lif = d.lif
  strap       : e.strap = d.strap
  config      : e.sp.config = d.sp.config
  menu        : e.sp.menu = d.sp.menu
  reply       : e.sp.reply = d.sp.reply
  station     : e.fe.station = d.fe.station
  listenCount : e.fe.listenCount = d.fe.listenCount
  quietCount  : e.fe.quietCount = d.fe.quietCount
  viewFrom    : e.fe.viewFrom = d.fe.viewFrom
  tecCount    : e.fe.tecCount = d.fe.tecCount
  recCount    : e.fe.recCount = d.fe.recCount
  idleCount   : e.fe.idleCount = d.fe.idleCount
  drove       : e.fe.drove = d.fe.drove
  rx          : e.fe.rx = d.fe.rx
  flight      : e.fe.inFlight.isSome = d.fe.inFlight.isSome

/-! ### Invariants -/

/-- The records are told apart: no two wave records or batches share an identity of the model, each identity lies below
its counter, and no two records answer to one wave id (R70). -/
def Device.idsOk (d : Device) : Prop :=
  (d.wu.waves.map (·.ref)).Nodup ∧ (∀ w ∈ d.wu.waves, w.ref < d.wu.nextRef) ∧
  (d.bp.batches.map (·.bid)).Nodup ∧ (∀ b ∈ d.bp.batches, b.bid < d.bp.nextBid) ∧
  ((d.wu.waves.filter (fun w => !w.anonymous)).map (·.id)).Nodup

/-- The Service Clock's items lie in their ranges (section 1.1, R2, R7, R8, R15). -/
def Device.clockOk (d : Device) : Prop :=
  d.sck.prescaler ≤ 4159 ∧ 4031 ≤ d.sck.terminal ∧ d.sck.terminal ≤ 4159 ∧ d.sck.periodCount ≤ 63 ∧
  d.sck.markQuiet ≤ 32 ∧ -512 ≤ d.sck.corr ∧ d.sck.corr ≤ 512 ∧
  d.sck.samples.length ≤ Config.sampleCapacity ∧ (d.sck.samples.map (·.sender)).Nodup ∧
  (∀ x ∈ d.sck.samples, -32767 ≤ x.offset ∧ x.offset ≤ 32767) ∧
  (d.fe.station = .onLine ∨ d.fe.station = .quiet →
    ∀ x ∈ d.sck.samples, x.outlier = false → -1024 ≤ x.offset ∧ x.offset ≤ 1024)

/-- What the Frame Engine holds fits its station state: nothing followed in STANDBY, a frame in flight only ON_LINE and
never beside a received one, a frame received in LISTEN begun in LISTEN, both error counts below 128 in LISTEN and
ON_LINE; the idle count and the silence counts within their caps, the latter at 0 in STANDBY (R19, R20, R46, R48, R63,
R65). -/
def Device.linkOk (d : Device) : Prop :=
  (d.fe.inFlight.isSome → d.fe.station = .onLine ∧ d.fe.rx = none) ∧
  (d.fe.station = .standby → d.fe.rx = none) ∧
  (d.fe.station = .listen → ∀ r, d.fe.rx = some r → r.startState = .listen) ∧
  (d.fe.station = .listen ∨ d.fe.station = .onLine → d.fe.tecCount < 128 ∧ d.fe.recCount < 128) ∧
  d.fe.idleCount ≤ 11 ∧ d.lif.silenceA ≤ 16 ∧ d.lif.silenceB ≤ 16 ∧
  (d.fe.station = .standby → d.lif.silenceA = 0 ∧ d.lif.silenceB = 0)

/-- A station in STANDBY or LISTEN holds no work: no wave, ticket, issue record, batch or handed record, nothing queued
for the Link, and every lane IDLE (R63, R65, R67). -/
def Device.restOk (d : Device) : Prop :=
  d.fe.station = .standby ∨ d.fe.station = .listen →
    d.wu.waves = [] ∧ d.ti.tickets = [] ∧ d.ti.issues = [] ∧ d.bp.batches = [] ∧ d.bp.fireQ = [] ∧ d.bp.handed = [] ∧
    d.fe.txq = [] ∧ d.iu.queue = [] ∧ ∀ i : Fin 8, (d.lane i).state = .idle

/-- The notice queue and the menu table are within their limits, the menu in ascending order of dish code
(R60, R177). -/
def Device.portOk (d : Device) : Prop :=
  d.sp.notices.length ≤ Config.noticeCapacity ∧ d.sp.lost ≤ 255 ∧ d.sp.menu.length ≤ Config.menuCapacity ∧
  d.sp.menu.Pairwise (fun a b => a.code.toNat < b.code.toNat) ∧ ∀ x ∈ d.sp.menu, x.code ≠ 0

/-- The pool with its held-back record, the handed records, the participant lists, the issue queue and the issue records
are within their limits, room for a handed record stands while an OFFER is in flight, and the transmit queue holds at
most one entry per key (R35, R98, R109, R144, R150, R159, R160). -/
def Device.roomOk (d : Device) : Prop :=
  d.bp.batches.length + d.heldBack ≤ Config.batchCapacity ∧
  d.bp.handed.length ≤ Config.handedCapacity ∧
  (∀ f bid, d.fe.inFlight = some f → f.entry = .offer bid → d.bp.handed.length < Config.handedCapacity) ∧
  (∀ w ∈ d.wu.waves, w.participants.length ≤ Config.participantCapacity) ∧
  d.iu.queue.length ≤ Config.issueCapacity ∧ d.ti.issues.length ≤ Config.ticketCapacity ∧
  d.fe.txq.Pairwise (fun a b => a.sameKey b = false)

/-- Lanes and batches agree: each lane's current batch names that lane and stands in the lane's own state, each staged
batch waits FORMED with its marker set, every batch on a lane is that lane's, a batch whose OFFER is in flight waits
or is to be refused, the lane reserved for a won OFFER stays IDLE, and the fire queue holds every FORMED batch that is
not staged, each once, and no other (R110, R116, R119, R128, R148). -/
def Device.floorOk (d : Device) : Prop :=
  (∀ i : Fin 8, ∀ bid, (d.lane i).current = some bid → ∃ b ∈ d.bp.batches, b.bid = bid ∧ b.lane = some i ∧
    ((d.lane i).state = .called ∧ b.state = .called ∨ (d.lane i).state = .cooking ∧ b.state = .cooking ∨
      (d.lane i).state = .due ∧ b.state = .due)) ∧
  (∀ i : Fin 8, ∀ bid, (d.lane i).staged = some bid → (d.lane i).state = .due ∧
    ∃ b ∈ d.bp.batches, b.bid = bid ∧ b.lane = some i ∧ b.state = .formed ∧ b.staged = true) ∧
  (∀ i : Fin 8, (d.lane i).state = .idle ↔ (d.lane i).current = none) ∧
  (∀ b ∈ d.bp.batches, b.state = .called ∨ b.state = .cooking ∨ b.state = .due →
    b.staged = false ∧ ∃ i : Fin 8, b.lane = some i ∧ (d.lane i).current = some b.bid) ∧
  (∀ b ∈ d.bp.batches, b.state = .formed → b.staged = true →
    ∃ i : Fin 8, b.lane = some i ∧ (d.lane i).staged = some b.bid) ∧
  (∀ b ∈ d.bp.batches, b.state = .formed → b.staged = false → b.lane = none) ∧
  (∀ b ∈ d.bp.batches, b.state = .holding → b.staged = false ∧ b.lane = none) ∧
  d.bp.fireQ.Nodup ∧
  (∀ bid, bid ∈ d.bp.fireQ ↔ ∃ b ∈ d.bp.batches, b.bid = bid ∧ b.state = .formed ∧ b.staged = false) ∧
  (∀ f bid, d.fe.inFlight = some f → f.entry = .offer bid →
    f.rejectReq = true ∨ ∀ b ∈ d.bp.batches, b.bid = bid → (b.state = .formed ∨ b.state = .called) ∧ b.staged = false) ∧
  (∀ r i, d.fe.rx = some r → r.taker = .won (some i) → (d.lane i).state = .idle ∧ (d.lane i).reserved = true)

/-- The portions that a contributor list holds for a serial. -/
def listedFor (serial : Serial) (cs : List Contrib) : Nat := portionsOf (cs.filter (fun c => c.serial = serial))

/-- The quantity of a dish in the tickets of a serial filed against a record. -/
def quantityOf (ref : Nat) (serial : Serial) (dish : Byte) (ts : List Ticket) : Nat :=
  ((ts.filter (fun t => t.wave = ref ∧ t.serial = serial)).map (fun t =>
    ((t.items.filter (fun it => it.dish = dish)).map (·.qty)).sum)).sum

/-- The portions listed for a serial and a dish in the live batches of a record that are not adopted. -/
def Device.inBatches (d : Device) (ref : Nat) (serial : Serial) (dish : Byte) : Nat :=
  ((d.bp.batches.filter (fun b => b.wave = ref ∧ b.dish = dish ∧ b.adopted = false)).map
    (fun b => listedFor serial b.contribs)).sum

/-- The portions listed for a serial and a dish in the handed records of a record. -/
def Device.inHanded (d : Device) (ref : Nat) (serial : Serial) (dish : Byte) : Nat :=
  ((d.bp.handed.filter (fun r => r.wave = ref ∧ r.dish = dish)).map (fun r => listedFor serial r.contribs)).sum

/-- What the laws of the accounts rest on: each ticket is filed against a held record that answers to its pass, no two
tickets carry one pass and serial, no batch or handed record belongs to a record still to come, a batch that is not
adopted lists a serial once, the OFFER in flight names a batch that is not adopted, and a TICKET the station decided to
hold is not in the index (R73 to R75, R82, R113, R146). -/
def Device.filedOk (d : Device) : Prop :=
  (∀ t ∈ d.ti.tickets, ∃ w ∈ d.wu.waves, w.ref = t.wave ∧ w.anonymous = false ∧
    ∃ num, w.id = some { pass := t.pass, num := num }) ∧
  (d.ti.tickets.map (fun t => (t.pass, t.serial))).Nodup ∧
  (∀ b ∈ d.bp.batches, b.wave < d.wu.nextRef) ∧ (∀ r ∈ d.bp.handed, r.wave < d.wu.nextRef) ∧
  (∀ b ∈ d.bp.batches, b.adopted = false → (b.contribs.map (·.serial)).Nodup) ∧
  (∀ f bid, d.fe.inFlight = some f → f.entry = .offer bid → bid < d.bp.nextBid ∧
    ∀ b ∈ d.bp.batches, b.bid = bid → b.adopted = false) ∧
  (∀ r, d.fe.rx = some r → r.ticket = .hold → ∃ k raw, r.frame = some (k, raw) ∧
    ∀ num serial call lead gp go items, framed k raw = some (.ticket num serial call lead gp go items) →
      ∀ t ∈ d.ti.tickets, ¬(t.pass = raw.sender ∧ t.serial = serial))

/-- The laws of the accounts, for every record that answers to a wave id: the demand of each dish line is the sum of the
unbatched counts of its dish, with no unbatched portion of a dish without a line; and the quantity of each dish of each
serial is its unbatched portions, those listed in the batches not adopted, and those listed in the handed records
(R75, R89). -/
def Device.accountsOk (d : Device) : Prop :=
  ∀ w ∈ d.wu.waves, w.anonymous = false →
    (∀ l ∈ w.lines, l.demand = unbatchedOf w.ref l.dish d.ti.tickets) ∧
    (∀ dish, (∀ l ∈ w.lines, l.dish ≠ dish) → unbatchedOf w.ref dish d.ti.tickets = 0) ∧
    ∀ serial dish, quantityOf w.ref serial dish d.ti.tickets =
      unbatchedOf w.ref dish (d.ti.tickets.filter (fun t => t.serial = serial)) + d.inBatches w.ref serial dish +
        d.inHanded w.ref serial dish

/-- Formation sequences follow the identities of the model, and the fire queue stands in ascending latest start, equal ones
in the order of formation (R109, R116). -/
def Device.fireOk (d : Device) : Prop :=
  d.bp.counter = BitVec.ofNat 16 d.bp.nextBid ∧ (∀ b ∈ d.bp.batches, b.seq = BitVec.ofNat 16 b.bid) ∧
  d.queued.Pairwise (fun a b => before a.ls b.ls = true ∨ (a.ls = b.ls ∧ a.bid < b.bid))

/-- A service time lies in the half of the clock that begins at `base`, where comparisons are an order (section 1.2). -/
def inHalf (base t : Tick) : Prop := (t - base).toNat < 8388608

/-- The latest starts that the batches have or can take, and those that the waves can give, lie in one half of the clock. -/
def Device.startsIn (base : Tick) (d : Device) : Prop :=
  (∀ b ∈ d.bp.batches, inHalf base b.ls ∧ inHalf base (d.latestStart (d.goOf b.wave) b.dish)) ∧
  (∀ w ∈ d.wu.waves, (w.state = .goSet → ∀ dish, inHalf base (d.latestStart (w.go.getD 0) dish)) ∧
    (w.state = .settling → ∀ dish, inHalf base (d.latestStart w.settledGo dish)))

/-! ### Commands by kind -/

/-- The row that brings a received frame of a kind. -/
def frameCommand (k : Kind) (h : Heard) (rep : OfferReply) : Instr :=
  match k with
  | .pickup => .pickupFrame h
  | .slip => .slipFrame h
  | .offer => .offerFrame h rep
  | .void => .voidFrame h
  | .ticket => .ticketFrame h
  | .ready => .readyFrame h
  | .mark => .markFrame h

/-- The row that reports the fate of an own frame of a kind; the reply slots and the SHORT reading as R34 gives them. -/
def fateCommand (k : Kind) (fate : Fate) (rep : OfferReply) (short : Slot) (line : Followed) : Instr :=
  match k with
  | .pickup => .pickupFate fate line
  | .slip => .slipFate fate line
  | .offer => .offerFate fate rep line
  | .void => .voidFate fate line
  | .ticket => .ticketFate fate short line
  | .ready => .readyFate fate line
  | .mark => .markFate fate line

/-- The station states and classes in which a row is taken (R63, R156). -/
def PortRow.taken (d : Device) : PortRow → Bool
  | .configure => d.fe.station == .standby
  | .loadDish => d.fe.station == .standby
  | .clearMenu => d.fe.station == .standby
  | .join => d.fe.station == .standby
  | .leave => d.fe.station != .standby
  | .openWave => d.strap.cls == 0 && (d.fe.station == .onLine || d.fe.station == .quiet)
  | .issueTicket => d.strap.cls == 0 && (d.fe.station == .onLine || d.fe.station == .quiet)
  | .voidTicket => d.strap.cls == 0 && (d.fe.station == .onLine || d.fe.station == .quiet)
  | .sendPickup => d.strap.cls == 0 && (d.fe.station == .onLine || d.fe.station == .quiet)
  | .silence => true
  | .ring => true
  | .readStation => true
  | .readWave => true
  | .readTicket => true
  | .readBatch => true
  | .readLane => true
  | .readNotice => true

/-- The parameter lengths a row takes (R170 to R178). -/
def PortRow.lengthOk (p : List Byte) : PortRow → Bool
  | .configure => p.length == 18
  | .loadDish => p.length == 9
  | .clearMenu => p.length == 0
  | .join => p.length == 0
  | .leave => p.length == 0
  | .silence => p.length == 0
  | .ring => p.length == 0
  | .openWave => p.length == 6
  | .issueTicket => decide (4 ≤ p.length) && p.length == 4 + 2 * param8 p 3
  | .voidTicket => p.length == 3
  | .sendPickup => p.length == 1
  | .readStation => decide (p.length ≤ 1)
  | .readWave => p.length == 2
  | .readTicket => p.length == 3
  | .readBatch => p.length == 3
  | .readLane => p.length == 1
  | .readNotice => p.length == 0

/-- A frame of a kind heard to the end of its accept slot, found free of every error, and accepted (R23 to R25, R31,
R33). -/
def heardGood (h : Heard) (k : Kind) (rep : OfferReply) (b : Body) : Prop :=
  h.upTo = .accept ∧ framed k h.frame = some b ∧ crcError h.frame = false ∧ h.gapFault = false ∧
  h.lateFault = false ∧ h.accept = .one ∧ (k = .offer → replyCheckError rep = false ∧ rep.fault = false)

/-- The wires after a frame the station followed: the silence counts it leaves, and the wires compared (R48, R50). -/
def Device.heardLine (line : Followed) (d : Device) : Lif :=
  (d.lif.hear line.toSilences).frameEnds d.sp.config.lock line.agree

/-- What an accepted frame that the station found good leaves at the clock, the line and the Frame Engine: the sample of
R6, the counts of the frame passed, the wires compared, the idle count at 0, and REC one lower while ON_LINE (R6, R19,
R44, R48, R50). -/
def Device.heardFrame (h : Heard) (d : Device) : Device :=
  let k := d.sck.advance h.elapsed
  { d with
    sck := { Sck.sample d.fe.station h.frame.sender h.frame.stamp
      (Sck.advance h.lasted { k with capture := some k.reading }) with capture := none }
    lif := d.heardLine h.toFollowed
    fe := { d.fe with
      idleCount := 0
      drove := []
      recCount := if d.fe.station = .onLine then d.fe.recCount - 1 else d.fe.recCount } }

/-- What the fate of an own frame leaves at the clock, the line and the Frame Engine while both error counts stay below
128: an own frame counts in the clean-frame comparison (R15, R39, R43, R50; log entry 15). -/
def Device.endedFrame (fate : Fate) (line : Followed) (d : Device) : Device :=
  { d with
    sck := { d.sck with capture := none, markQuiet := if fate = .accepted then 0 else d.sck.markQuiet }
    lif := d.heardLine line
    fe := { d.fe with
      inFlight := none
      idleCount := 0
      drove := []
      tecCount := if fate = .accepted then d.fe.tecCount - 1 else d.fe.tecCount + 8
      txq := if fate = .accepted then withdrawEntry .mark d.fe.txq else d.fe.txq } }

/-- The participants of a wave record after an accepted READY, by the table of R98. -/
def participantsAfter (sender : Addr) (stamp : Tick) (offset : BitVec 15) (far withdrawn : Bool) (w : Wave) :
    List Participant :=
  let p : Participant :=
    { addr := sender, estimate := stamp + BitVec.ofNat 24 offset.toNat, stamp := stamp, far := far }
  if (w.state = .opened ∨ w.state = .settling) ∧ before stamp (w.close.getD 0) = true then
    if withdrawn then w.participants.filter (fun x => x.addr ≠ sender)
    else if ∃ x ∈ w.participants, x.addr = sender then w.participants.map (fun x => if x.addr = sender then p else x)
    else if w.participants.length < 16 then w.participants ++ [p]
    else w.participants
  else w.participants

/-- The station follows the Link with no frame in hand, no return to DUAL is due, and the idle count stands at 11 by the start
slot: that slot begins a frame it receives, whose fields show no coding violation (R18). Where crystal counts pass before it or in the frame, no event of the last
boundary is still to be taken (R1, R19, R20, R50). -/
def Device.hears (h : Heard) (d : Device) : Prop :=
  d.fe.station ≠ .standby ∧ d.lif.mode ≠ .down ∧ d.fe.rx = none ∧ d.fe.inFlight = none ∧ d.returnDue = false ∧
  11 ≤ d.fe.idleCount + h.slots ∧ h.broken = false ∧ (h.elapsed = 0 ∧ h.lasted = 0 ∨ d.sck.atBoundary = false)

/-- A byte of flags, the first at bit 0. -/
def flagByte (flags : List Bool) : Byte := BitVec.ofNat 8 (flags.foldr (fun b n => 2 * n + if b then 1 else 0) 0)

/-- A TICKET heard good that is a cooking station's own, repeats no record of the index and finds the index with room
(R72, R73). -/
def Device.ownsTicket (h : Heard) (serial : Serial) (items kept : List Order) (d : Device) : Prop :=
  d.hears h ∧ (d.fe.station = .onLine ∨ d.fe.station = .quiet) ∧ 
  (d.fe.station = .onLine → d.fe.tecCount < 128 ∧ d.fe.recCount < 128) ∧ d.idsOk ∧
  d.strap.cls ≠ 0 ∧ serial.toNat % d.sp.config.shareCount = d.sp.config.shareIndex ∧
  kept = items.filter (fun o => (d.dish? o.dish).isSome) ∧ kept ≠ [] ∧
  (∀ x ∈ d.ti.tickets, ¬(x.pass = h.frame.sender ∧ x.serial = serial)) ∧ d.ti.tickets.length < 256

/-- What a ticket record says of itself, without its unbatched counts. -/
def Ticket.key (t : Ticket) : Addr × Serial × Nat × List (Byte × Nat) :=
  (t.pass, t.serial, t.wave, t.items.map (fun it => (it.dish, it.qty)))

/-- The machine with its held reply replaced and nothing else changed (R168). -/
def State.replied (s : State) (st : Status) (data : List Byte) : State :=
  { s with dev := { s.dev with sp := { s.dev.sp with reply := { status := st, data := data } } } }

end Sys2Proof.Machine
end

