-- ==== Sys2Proof/Certificates/Slice0/Obligations.lean ====
section
/-! DEFINITION. The statements for the provers, in the order of OBLIGATIONS.json: the machine, the clock, the Link, waves
and batches, lanes, the station port, and what every step keeps. -/

open Sys2Proof Sys2Proof.Machine

/-! ### The machine -/

/-- A step takes the command at the front of the queue and leaves the rest waiting. On an empty queue one crystal count
passes: the events of a boundary that no count has followed are taken, a period end among them, and then the prescaler
advances, with the slot times that end in the count, or, when it holds the terminal count, the tick boundary comes. So the
count after a boundary finds nothing of that boundary left (R1). That the empty queue stands for the crystal, and how
slot times divide over its counts, are the model's: log entries 4, 5 and 9. -/
def Obligations.StepTakesFront : Prop :=
  (∀ (c : Instr) (rest : List Instr) (s : State),
    s.pending = c :: rest → step s = exec c { s with pending := rest }) ∧
  (∀ (s : State) (settled : Device), s.pending = [] → settled = s.dev.settleBoundary →
    (settled.sck.prescaler < settled.sck.terminal →
      step s = .next { s with dev :=
        { settled.passSlots (slotsBetween settled.sck.prescaler (settled.sck.prescaler + 1)) with
          sck := { settled.sck with prescaler := settled.sck.prescaler + 1 } } }) ∧
    (settled.sck.terminal ≤ settled.sck.prescaler → step s = exec .tickBoundary s)) ∧
  (∀ d : Device, d.sck.atBoundary = true →
    d.settleBoundary.sck.atBoundary = false ∧ d.settleBoundary.sck.periodEndDue = false ∧
    d.settleBoundary.sck.markDue = false) ∧
  (∀ d : Device, d.sck.atBoundary = false → d.returnDue = false → d.settleBoundary = d)

/-- Every command answers a next state and leaves the queue of waiting commands alone. That none stops is the model's
reading, log entry 38; the rules say so of single commands only. -/
def Obligations.ExecCompletes : Prop :=
  ∀ (c : Instr) (s : State), ∃ d : Device, exec c s = .next { dev := d, pending := s.pending }

/-- RESET leaves every block at its reset value, with the pins held in the strap record (R56, R57). -/
def Obligations.ResetLeaves : Prop :=
  ∀ (addr : Addr) (cls : ClassNo) (s : State), ∃ t,
    exec (.reset addr cls) s = .next t ∧ t.pending = s.pending ∧
    t.dev.strap.addr = addr ∧ t.dev.strap.cls = cls ∧
    t.dev.sck = { tick := 0, prescaler := 0, terminal := 4095, capture := none, samples := [], periodCount := 0,
                  corr := 0, firstStep := false, markQuiet := 0, periodEndDue := false, markDue := false,
                  atBoundary := false } ∧
    t.dev.lif = { mode := .dual, wireA := .good, wireB := .good, silenceA := 0, silenceB := 0, cleanCount := 0 } ∧
    t.dev.fe.station = .standby ∧ t.dev.fe.listenCount = 0 ∧ t.dev.fe.quietCount = 0 ∧ t.dev.fe.viewFrom = none ∧
    t.dev.fe.tecCount = 0 ∧ t.dev.fe.recCount = 0 ∧ t.dev.fe.txq = [] ∧ t.dev.fe.inFlight = none ∧
    t.dev.fe.rx = none ∧
    t.dev.wu.waves = [] ∧ t.dev.ti.tickets = [] ∧ t.dev.ti.issues = [] ∧
    t.dev.bp.batches = [] ∧ t.dev.bp.fireQ = [] ∧ t.dev.bp.handed = [] ∧ t.dev.bp.counter = 0 ∧ t.dev.iu.queue = [] ∧
    (∀ i : Fin 8, t.dev.lane i =
      { state := .idle, current := none, staged := none, reserved := false, calledSince := none, turnTick := none,
        dueTick := none, flashEnd := none, dueSince := none, overdue := .none, ack := false, lastPress := none,
        lamp := false }) ∧
    t.dev.lu.ring = false ∧ t.dev.lu.bell = false ∧
    t.dev.sp.menu = [] ∧ t.dev.sp.notices = [] ∧ t.dev.sp.lost = 0 ∧
    t.dev.sp.reply = { status := .ok, data := [] } ∧
    t.dev.sp.config =
      { laneCount := 0, laneKinds := Vector.replicate 8 0, margin := 16, threshold := 24, callWindow := 80,
        dueWindow := 40, reportStep := 4, shareCount := 1, shareIndex := 0, lock := .auto, waveGroup := true,
        batchGroup := true, ticketGroup := true, linkGroup := true }

/-- The machine after power-on, and after any RESET, meets every invariant of the model. -/
def Obligations.ResetHoldsInvariants : Prop :=
  ∀ (addr : Addr) (cls : ClassNo) (s t : State),
    (t = State.reset ∨ exec (.reset addr cls) s = .next t) →
    t.dev.clockOk ∧ t.dev.idsOk ∧ t.dev.linkOk ∧ t.dev.restOk ∧ t.dev.portOk ∧ t.dev.roomOk ∧ t.dev.floorOk ∧
    t.dev.fireOk ∧ t.dev.filedOk ∧ t.dev.accountsOk

/-! ### The Service Clock -/

/-- A tick boundary that ends no period: the tick counter rises by one, the prescaler returns to 0, the length of the new tick
is fixed from C, and C moves toward zero by the smaller of its size and 4 (R1, R2). The boundary at which the period count
would pass 63 returns it to 0 and brings the period end, which fixes that length (R8; how the two meet is log entry 6).
Either raises the length count of LISTEN or of QUIET and, ON_LINE, the MARK quiet count, which holds at 32, and there
leaves a MARK to be placed where none waits (R15, R47, R66). -/
def Obligations.TickBoundaryAdvances : Prop :=
  ∀ s : State, s.dev.sck.periodEndDue = false →
    ¬(s.dev.sck.atBoundary = true ∧ s.dev.fe.station = .listen ∧ s.dev.fe.listenCount = 128) →
    ∃ t, exec .tickBoundary s = .next t ∧ t.pending = s.pending ∧
      t.dev.sck.tick = s.dev.sck.tick + 1 ∧ t.dev.sck.prescaler = 0 ∧
      (s.dev.sck.periodCount < 63 →
        t.dev.sck.periodCount = s.dev.sck.periodCount + 1 ∧ t.dev.sck.periodEndDue = false ∧
        (0 < s.dev.sck.corr →
          t.dev.sck.terminal = 4095 - 16 * min s.dev.sck.corr.natAbs 4 ∧
          t.dev.sck.corr = s.dev.sck.corr - (min s.dev.sck.corr.natAbs 4 : Nat)) ∧
        (s.dev.sck.corr < 0 →
          t.dev.sck.terminal = 4095 + 16 * min s.dev.sck.corr.natAbs 4 ∧
          t.dev.sck.corr = s.dev.sck.corr + (min s.dev.sck.corr.natAbs 4 : Nat)) ∧
        (s.dev.sck.corr = 0 → t.dev.sck.terminal = 4095 ∧ t.dev.sck.corr = 0)) ∧
      (s.dev.sck.periodCount = 63 →
        t.dev.sck.periodCount = 0 ∧ t.dev.sck.periodEndDue = true ∧ t.dev.sck.corr = s.dev.sck.corr) ∧
      t.dev.sck.capture = s.dev.sck.capture ∧ t.dev.sck.samples = s.dev.sck.samples ∧
      t.dev.sck.firstStep = s.dev.sck.firstStep ∧
      (s.dev.sck.atBoundary = false →
        t.dev.fe.station = s.dev.fe.station ∧ t.dev.fe.viewFrom = s.dev.fe.viewFrom ∧
        t.dev.fe.listenCount =
          (if s.dev.fe.station = .listen then min 128 (s.dev.fe.listenCount + 1) else s.dev.fe.listenCount) ∧
        t.dev.fe.quietCount =
          (if s.dev.fe.station = .quiet then min 128 (s.dev.fe.quietCount + 1) else s.dev.fe.quietCount) ∧
        t.dev.sck.markQuiet = (if s.dev.fe.station = .onLine then min 32 (s.dev.sck.markQuiet + 1) else 0) ∧
        (t.dev.sck.markDue = true ↔
          s.dev.fe.station = .onLine ∧ 31 ≤ s.dev.sck.markQuiet ∧ ∀ e ∈ t.dev.fe.txq, e ≠ .mark)) ∧
      t.dev.strap = s.dev.strap ∧ t.dev.sp.config = s.dev.sp.config ∧ t.dev.sp.menu = s.dev.sp.menu ∧
      t.dev.sp.reply = s.dev.sp.reply

/-- The outputs a tick boundary sets for the tick that begins: each configured lane's lamp by its state and the taps of
the new tick, and the BELL in odd ticks while an unacknowledged cause or the ring marker stands (R16, R138, R139). Two
choices of the model stand in it: the lanes are read after the events that the boundary before this one left to be taken
(log entry 4), and before the dispatch pass, the compares and the overdue causes of this one (log entry 26). -/
def Obligations.OutputsAtBoundary : Prop :=
  ∀ s : State, ∃ t, exec .tickBoundary s = .next t ∧ t.pending = s.pending ∧
    (∀ i : Fin 8, (t.dev.lane i).lamp =
      (decide (i.val < s.dev.sp.config.laneCount) &&
        match (s.dev.settleBoundary.lane i).state with
        | .idle => false
        | .called => t.dev.sck.tick.toNat % 2 == 1
        | .cooking =>
            (match (s.dev.settleBoundary.lane i).flashEnd with
              | some e => if before t.dev.sck.tick e then t.dev.sck.tick.toNat % 2 == 1 else true
              | none => true)
        | .due => decide (4 ≤ t.dev.sck.tick.toNat % 8))) ∧
    (t.dev.lu.bell = true ↔
      t.dev.sck.tick.toNat % 2 = 1 ∧
        (s.dev.settleBoundary.lu.ring = true ∨
          ∃ i : Fin 8, i.val < s.dev.sp.config.laneCount ∧ (s.dev.settleBoundary.lane i).overdue ≠ .none ∧
            (s.dev.settleBoundary.lane i).ack = false))

/-- The trimmed mean: of one to three offsets their sum by their number; of four or more the sum without one largest and
one smallest by what remains, truncated toward zero; of none, no mean. A period end without a step: C stays as it is in
STANDBY and while the first step is pending, and is otherwise half the trimmed mean where there is one; the list is emptied
and the tick that begins is fixed from the new C (R2, R8). Only the lamp and BELL outputs change beside the clock (R16). -/
def Obligations.PeriodEndCorrects : Prop :=
  (∀ l : List Int,
      (l = [] → trimmedMean l = none) ∧
      (1 ≤ l.length → l.length ≤ 3 → trimmedMean l = some (l.sum.tdiv (l.length : Int))) ∧
      (∀ hi lo : Int, hi ∈ l → lo ∈ l → (∀ x ∈ l, lo ≤ x ∧ x ≤ hi) → 4 ≤ l.length →
        trimmedMean l = some ((l.sum - hi - lo).tdiv ((l.length : Int) - 2)))) ∧
  (∀ (s : State) (c : Int), s.dev.sck.periodEndDue = true →
      (((s.dev.fe.station = .standby ∨ (s.dev.fe.station = .listen ∧ s.dev.sck.firstStep = true)) ∧
          c = s.dev.sck.corr) ∨
        ((s.dev.fe.station = .quiet ∨
            (s.dev.fe.station = .onLine ∧
              ¬(s.dev.idleStation = true ∧ ∃ m, s.dev.sck.median = some m ∧ 1024 < m))) ∧
          c = (match s.dev.sck.mean with
            | some m => m.tdiv 2
            | none => s.dev.sck.corr))) →
      ∃ t, exec .periodEnd s = .next t ∧ t.pending = s.pending ∧
        t.dev.sck = { s.dev.sck with
          samples := []
          periodEndDue := false
          terminal := if 0 < c then 4095 - 16 * min c.natAbs 4 else if c < 0 then 4095 + 16 * min c.natAbs 4 else 4095
          corr := if 0 < c then c - (min c.natAbs 4 : Nat) else if c < 0 then c + (min c.natAbs 4 : Nat) else 0 } ∧
        t.dev = { s.dev with sck := t.dev.sck, lu := t.dev.lu } ∧
        (∀ i : Fin 8, { t.dev.lane i with lamp := (s.dev.lane i).lamp } = s.dev.lane i) ∧
        t.dev.lu.ring = s.dev.lu.ring)

/-- A period end that steps the clock: by a trimmed mean that is not zero in LISTEN after the first step, forward or
backward by its sign, and forward by a median above 1024 on an idle ON_LINE station. The step adds to the 32-bit reading,
sets the terminal count to 4095, leaves C at 0, and queues CLOCK_STEP with the tick after it. In LISTEN after the first
step a mean of zero, or none, steps nothing and C stays at 0 (R12; with R13 and R14). -/
def Obligations.PeriodEndSteps : Prop :=
  (∀ (s : State) (m : Int) (kind : StepKind), s.dev.sck.periodEndDue = true →
    ((s.dev.fe.station = .listen ∧ s.dev.sck.firstStep = false ∧ s.dev.sck.mean = some m ∧ m ≠ 0 ∧
        s.dev.sck.corr = 0 ∧ kind = .mean) ∨
      (s.dev.fe.station = .onLine ∧ s.dev.wu.waves = [] ∧ (∀ i : Fin 8, (s.dev.lane i).state = .idle) ∧
        s.dev.sck.median = some m ∧ 1024 < m ∧ kind = .forward)) →
    ∃ t, exec .periodEnd s = .next t ∧ t.pending = s.pending ∧
      t.dev.sck = { s.dev.sck with
        tick := stampTick (s.dev.sck.reading + BitVec.ofInt 32 m)
        prescaler := (stampFrac (s.dev.sck.reading + BitVec.ofInt 32 m)).toNat * 16
        terminal := 4095
        corr := 0
        samples := []
        periodEndDue := false } ∧
      t.dev.sp = s.dev.sp.queueNotice (stampTick (s.dev.sck.reading + BitVec.ofInt 32 m)) (.clockStep kind m) ∧
      t.dev = { s.dev with sck := t.dev.sck, lu := t.dev.lu, sp := t.dev.sp }) ∧
  (∀ s : State, s.dev.sck.periodEndDue = true → s.dev.fe.station = .listen → s.dev.sck.firstStep = false →
    s.dev.sck.corr = 0 → (s.dev.sck.mean = none ∨ s.dev.sck.mean = some 0) →
    ∃ t, exec .periodEnd s = .next t ∧ t.pending = s.pending ∧
      t.dev.sck = { s.dev.sck with terminal := 4095, samples := [], periodEndDue := false } ∧
      t.dev = { s.dev with sck := t.dev.sck, lu := t.dev.lu })

/-- The boundaries that the Service Clock and the station record count to: a MARK placed at a quiet count of 32, the end
of LISTEN and the end of QUIET at a length count of 128 (R15, R17, R47, R66). That the view-from time is the new tick is
the model's choice: log entry 42. -/
def Obligations.StationCounts : Prop :=
  (∀ s : State, s.dev.sck.markDue = true → s.dev.fe.station = .onLine → s.dev.sck.markQuiet = 32 →
    (∀ e ∈ s.dev.fe.txq, e ≠ .mark) →
    exec .markPlace s = .next { s with dev := { s.dev with
      sck := { s.dev.sck with markDue := false }
      fe := { s.dev.fe with txq := s.dev.fe.txq ++ [.mark] } } }) ∧
  (∀ s : State, s.dev.fe.station = .listen → s.dev.fe.listenCount = 128 → s.dev.sck.periodEndDue = false →
    exec .listenEnd s = .next { s with dev := { s.dev with
      sck := { s.dev.sck with firstStep := false, markQuiet := 0, periodCount := 0, samples := [] }
      fe := { s.dev.fe with station := .onLine, listenCount := 0, viewFrom := some s.dev.sck.tick } } }) ∧
  (∀ s : State, s.dev.fe.station = .quiet → s.dev.fe.quietCount = 128 →
    exec .quietEnd s = .next { s with dev := { s.dev with
      sck := { s.dev.sck with markQuiet := 0 }
      fe := { s.dev.fe with station := .onLine, quietCount := 0, tecCount := 0, recCount := 0 } } })

/-! ### The Link: sending -/

/-- A station that may contend asks its entries in the order of choice: the lowest kind first, READY by close time, SLIP by go
time, then the lower pass address and wave number. The first that its placer fills leaves the queue and begins its frame:
the reading at the start slot is the frame's stamp and the capture, and the start slot is driven. An entry asked before
it leaves where its placer withdraws it and stays where it is held; one not yet asked stays. Where none is filled no
frame begins (R4, R5, R19, R26, R36, R38, R48). A withdrawn OFFER may have another placed in its stead (R146). -/
def Obligations.ContendBeginsFrame : Prop :=
  (∀ (s : State) (start : OwnStart) (d : Device) (r : Stamp) (ask : TxEntry → FillAnswer),
    s.dev.fe.station = .onLine → s.dev.lif.mode ≠ .down → s.dev.fe.inFlight = none → s.dev.fe.rx = none →
    s.dev.returnDue = false → 11 ≤ s.dev.fe.idleCount + start.slots →
    (start.elapsed = 0 ∨ s.dev.sck.atBoundary = false) → s.dev.fe.txq ≠ [] →
    s.dev.fe.txq.Pairwise (fun a b => a.sameKey b = false) →
    d = { s.dev with
      sck := s.dev.sck.advance start.elapsed
      lif := s.dev.lif.passSlots start.slots
      fe := { s.dev.fe with idleCount := 11, drove := [] } } →
    r = d.sck.reading → ask = d.fillEntry (stampTick r) →
    (∀ (e : TxEntry) (b : Body), e ∈ s.dev.fe.txq → ask e = .fill b →
      (∀ x ∈ s.dev.fe.txq, ∀ y ∈ s.dev.fe.txq, x ≠ y → (d.chosenBefore x y = true ↔ d.chosenBefore y x = false)) →
      (∀ x ∈ s.dev.fe.txq, ∀ y ∈ s.dev.fe.txq, ∀ z ∈ s.dev.fe.txq,
        d.chosenBefore x y = true → d.chosenBefore y z = true → d.chosenBefore x z = true) →
      (∀ x ∈ s.dev.fe.txq, x ≠ e → d.chosenBefore x e = true → ask x = .withdraw ∨ ask x = .hold) →
      ∃ t, exec (.contend start) s = .next t ∧ t.pending = s.pending ∧
        t.dev.sck = { d.sck with capture := some r } ∧ t.dev.lif = d.lif.hear start.toSilences ∧ t.dev.fe.idleCount = 0 ∧
        t.dev.fe.drove = [⟨.startSlot, s.dev.lif.mode.wires⟩] ∧
        t.dev.fe.inFlight = some
          { entry := e
            frame := { sender := s.dev.strap.addr, cls := s.dev.strap.cls, stamp := r, body := b }
            gapError := false
            rejectReq := false
            deferred := none } ∧
        t.dev.strap = s.dev.strap ∧ t.dev.wu = s.dev.wu ∧ t.dev.ti = s.dev.ti ∧ t.dev.lu = s.dev.lu ∧
        t.dev.iu = s.dev.iu ∧ t.dev.sp = s.dev.sp ∧ e ∉ t.dev.fe.txq ∧
        (∀ x ∈ s.dev.fe.txq, x ≠ e → x.sameKey (.offer 0) = false →
          (x ∈ t.dev.fe.txq ↔ ¬(d.chosenBefore x e = true ∧ ask x = .withdraw))) ∧
        (∀ x ∈ t.dev.fe.txq, x ∈ s.dev.fe.txq ∨ x.sameKey (.offer 0) = true) ∧
        ((∀ x ∈ s.dev.fe.txq, x.sameKey (.offer 0) = true → d.chosenBefore x e = true → ask x = .hold) →
          t.dev.bp = s.dev.bp ∧
          t.dev.fe = { d.fe with
            idleCount := 0
            drove := t.dev.fe.drove
            inFlight := t.dev.fe.inFlight
            txq := s.dev.fe.txq.filter (fun x =>
              decide (x ≠ e) && !(d.chosenBefore x e && decide (ask x = .withdraw))) })) ∧
    ((∀ x ∈ s.dev.fe.txq, ask x = .withdraw ∨ ask x = .hold) →
      ∃ t, exec (.contend start) s = .next t ∧ t.pending = s.pending ∧
        t.dev.sck = d.sck ∧ t.dev.lif = d.lif ∧ t.dev.fe.inFlight = none ∧ t.dev.fe.drove = [] ∧
        t.dev.fe.idleCount = 11 ∧
        ∀ x ∈ s.dev.fe.txq, x.sameKey (.offer 0) = false → (x ∈ t.dev.fe.txq ↔ ask x = .hold))) ∧
  (∀ (d : Device) (x y : Nat) (v w : Wave), d.wave? x = some v → d.wave? y = some w →
    d.entryKind (.slip x) = 2 ∧ d.entryKind (.offer x) = 3 ∧ d.entryKind (.ready x) = 6 ∧ d.entryKind .mark = 7 ∧
    (∀ e, d.iu.queue.head? = some e →
      d.entryKind .issue = (match e.kind with
        | .pickup => 1
        | .void => 4
        | .ticket => 5)) ∧
    (∀ a b, d.entryKind a < d.entryKind b → d.chosenBefore a b = true ∧ d.chosenBefore b a = false) ∧
    (d.chosenBefore (.ready x) (.ready y) = true ↔
      before (v.close.getD 0) (w.close.getD 0) = true ∨ v.close.getD 0 = w.close.getD 0 ∧
        (v.noticeId.pass.toNat < w.noticeId.pass.toNat ∨
          v.noticeId.pass = w.noticeId.pass ∧ v.noticeId.num.toNat < w.noticeId.num.toNat)) ∧
    (d.chosenBefore (.slip x) (.slip y) = true ↔
      before (v.go.getD 0) (w.go.getD 0) = true ∨ v.go.getD 0 = w.go.getD 0 ∧
        (v.noticeId.pass.toNat < w.noticeId.pass.toNat ∨
          v.noticeId.pass = w.noticeId.pass ∧ v.noticeId.num.toNat < w.noticeId.num.toNat)))

/-- The idle count: slot times without an edge raise it to 11 at most, and the silence counts to 16, those that end in a
tick up to its boundary among them (R19, R48; how they divide over a tick, and how a row brings the silence counts, are
log entries 9 and 10). A start edge that finds the idle count below 11 begins no frame, and neither does one in DOWN:
nothing is captured, driven or counted, the idle count is 0, and each wire's silence count is the one its receiver
shows (R19, R48). A station whose count is below 11 by its start slot does not contend (R26); that CONTEND then changes
nothing is the model's: log entry 3. -/
def Obligations.IdleCountGates : Prop :=
  (∀ (d : Device) (n : Nat), d.fe.station ≠ .standby → d.fe.inFlight = none → d.fe.rx = none →
    d.passSlots n = { d with
      lif := { d.lif with silenceA := min 16 (d.lif.silenceA + n), silenceB := min 16 (d.lif.silenceB + n) }
      fe := { d.fe with
        idleCount := if d.lif.mode = .down then d.fe.idleCount else min 11 (d.fe.idleCount + n) } }) ∧
  (∀ (s : State) (k : Kind) (h : Heard) (rep : OfferReply) (line : Followed),
    (s.dev.lif.mode ≠ .down → s.dev.fe.idleCount + h.slots < 11) → s.dev.fe.station ≠ .standby →
    s.dev.fe.inFlight = none → s.dev.fe.rx = none → s.dev.returnDue = false →
    (h.elapsed = 0 ∧ h.lasted = 0 ∨ s.dev.sck.atBoundary = false) →
    exec (.contend { toWait := h.toWait, toSilences := h.toSilences }) s = .next s ∧
    exec (frameCommand k h rep) s = .next { s with dev := { s.dev with
      sck := (s.dev.sck.advance h.elapsed).advance h.lasted
      lif := { s.dev.lif with silenceA := h.silentA.val, silenceB := h.silentB.val }
      fe := { s.dev.fe with idleCount := 0, drove := [] } } } ∧
    exec (.frameCodingViolation h.toWait line) s = .next { s with dev := { s.dev with
      sck := s.dev.sck.advance h.elapsed
      lif := { s.dev.lif with silenceA := line.silentA.val, silenceB := line.silentB.val }
      fe := { s.dev.fe with idleCount := 0, drove := [] } } }) ∧
  (∀ (s : State) (n : Nat), s.dev.fe.station ≠ .standby → s.dev.fe.inFlight = none → s.dev.fe.rx = none →
    s.dev.returnDue = false → s.dev.sck.atBoundary = false →
    n = (s.dev.sck.terminal + 1) * 15625 / 8192 - s.dev.sck.prescaler * 15625 / 8192 →
    ∃ t, exec .tickBoundary s = .next t ∧
      t.dev.lif = { s.dev.lif with
        silenceA := min 16 (s.dev.lif.silenceA + n), silenceB := min 16 (s.dev.lif.silenceB + n) } ∧
      t.dev.fe.idleCount = if s.dev.lif.mode = .down then s.dev.fe.idleCount else min 11 (s.dev.fe.idleCount + n))

/-- The estimate offset and the FAR marker of a READY or SLIP: 32,767 with FAR for a saturated estimate or one further
than 32,767 ticks ahead of the stamp, 0 for one behind it, the difference otherwise; FAR is set exactly when the offset
was clamped at the top, and a READY that withdraws carries offset 0 with FAR clear (R37, R96). -/
def Obligations.OffsetRule : Prop :=
  (∀ (e : Estimate) (stamp : Tick),
    (e.saturated = true → offsetFor e stamp = (32767, true)) ∧
    (e.saturated = false → (e.tick - stamp).toInt < 0 → offsetFor e stamp = (0, false)) ∧
    (e.saturated = false → 0 ≤ (e.tick - stamp).toInt → (e.tick - stamp).toInt ≤ 32767 →
      ((offsetFor e stamp).1.toNat : Int) = (e.tick - stamp).toInt ∧ (offsetFor e stamp).2 = false) ∧
    (e.saturated = false → 32767 < (e.tick - stamp).toInt → offsetFor e stamp = (32767, true))) ∧
  (∀ (d : Device) (ref : Nat) (stamp : Tick) (num : Byte) (pass : Addr) (off : BitVec 15) (far wd : Bool),
    d.fillReady ref stamp = .fill (.ready num pass off far wd) →
    ∃ w, d.wave? ref = some w ∧ num = w.noticeId.num ∧ pass = w.noticeId.pass ∧
      ((wd = true ∧ off = 0 ∧ far = false ∧ w.est = none) ∨
        (wd = false ∧ ∃ e, w.est = some e ∧ (off, far) = offsetFor e stamp))) ∧
  (∀ (d : Device) (ref : Nat) (stamp : Tick) (num : Byte) (pass : Addr) (off : BitVec 15) (far : Bool),
    d.fillSlip ref stamp = .fill (.slip num pass off far) →
    ∃ w e, d.wave? ref = some w ∧ num = w.noticeId.num ∧ pass = w.noticeId.pass ∧ w.est = some e ∧
      (off, far) = offsetFor e stamp)

/-- A contender that loses becomes a receiver of the frame on the line, its entry returns to the queue unfilled, and
neither error count changes (R27, R36). -/
def Obligations.ArbitrationLostReturns : Prop :=
  ∀ (s : State) (f : InFlight), s.dev.fe.inFlight = some f →
    (∀ e ∈ s.dev.fe.txq, e.sameKey f.entry = false) →
    exec .arbitrationLost s = .next { s with dev := { s.dev with fe := { s.dev.fe with
      inFlight := none
      drove := []
      txq := s.dev.fe.txq ++ [f.entry]
      rx := some { startState := .onLine, frame := none, stage := .start, bad := false, ticket := .disregard,
                   taker := .notTaker } } } }

/-- An own bit error before the reply gap drives the reject break, breaks the frame off and raises TEC by 8; at 128 the
station goes QUIET. The capture is dropped, and no lane, ticket, handed record or fire queue changes. One in the reply gap
leaves the frame to run to its accept slot, which the station drives dominant: its fate, whatever the slot reads, is
broken off, TEC 8 higher (R42, R43, R46). That the broken-off own frame counts in the clean-frame comparison of R50 is read
from that rule: log entry 15. -/
def Obligations.OwnBitErrorBreaks : Prop :=
  ∀ (s : State) (f : InFlight) (line : Followed), s.dev.fe.inFlight = some f → s.dev.fe.station ≠ .standby →
    (f.deferred = none → s.dev.fe.station = .onLine → s.dev.lif.mode ≠ .down → s.dev.fe.recCount < 128 →
      ∃ t, exec (.ownBitError false line) s = .next t ∧ t.pending = s.pending ∧
        t.dev.fe.inFlight = none ∧ t.dev.fe.tecCount = s.dev.fe.tecCount + 8 ∧
        t.dev.fe.recCount = s.dev.fe.recCount ∧
        t.dev.lif = s.dev.heardLine line ∧ t.dev.fe.drove = [⟨.rejectBreak, s.dev.lif.mode.wires⟩] ∧
        t.dev.sck.capture = none ∧ t.dev.sck.tick = s.dev.sck.tick ∧
        t.dev.fe.station = (if 128 ≤ s.dev.fe.tecCount + 8 then .quiet else .onLine) ∧
        t.dev.lu = s.dev.lu ∧ t.dev.ti.tickets = s.dev.ti.tickets ∧ t.dev.bp.handed = s.dev.bp.handed ∧
        t.dev.bp.fireQ = s.dev.bp.fireQ ∧ t.dev.strap = s.dev.strap ∧ t.dev.sp.config = s.dev.sp.config ∧
        t.dev.sp.menu = s.dev.sp.menu ∧ t.dev.sp.reply = s.dev.sp.reply) ∧
    exec (.ownBitError true line) s = .next { s with dev := { s.dev with
      lif := s.dev.lif.hear line.toSilences
      fe := { s.dev.fe with inFlight := some { f with gapError := true } } } } ∧
    (∀ (fate : Fate) (rep : OfferReply) (short : Slot), f.gapError = true → f.deferred = none →
      s.dev.fe.station = .onLine → s.dev.lif.mode ≠ .down → s.dev.fe.recCount < 128 →
      ∃ t, exec (fateCommand f.frame.body.kind fate rep short line) s = .next t ∧ t.pending = s.pending ∧
        t.dev.fe.inFlight = none ∧ t.dev.fe.tecCount = s.dev.fe.tecCount + 8 ∧
        t.dev.fe.drove = [⟨.acceptDominant, s.dev.lif.mode.wires⟩] ∧ t.dev.sck.capture = none ∧
        t.dev.lu = s.dev.lu ∧ t.dev.ti.tickets = s.dev.ti.tickets ∧ t.dev.bp.handed = s.dev.bp.handed ∧
        t.dev.bp.fireQ = s.dev.bp.fireQ)

/-- The fate of an own frame of any kind ends it and changes TEC by the table: less 1 but not below 0 when accepted, 8 more
when rejected or broken off. An own bit error in the reply gap makes the fate broken off. A sender that reads its accept
slot at 1 and drove it dominant itself has its frame rejected: for an OFFER by a reject request, a reply-check error or a
coding violation in the reply field, for a TICKET by a coding violation in the SHORT slot. An acceptance returns the MARK
quiet count to 0 and leaves no MARK queued (R15, R25, R31, R32, R34, R39, R42, R43). That a sender's own reply-check error
rejects its OFFER is read from R25, R31 and R32: log entry 14. -/
def Obligations.FatesCount : Prop :=
  ∀ (s : State) (k : Kind) (fate : Fate) (rep : OfferReply) (short : Slot) (line : Followed) (f : InFlight)
    (final : Fate),
    s.dev.fe.inFlight = some f → f.frame.body.kind = k → s.dev.fe.station = .onLine →
    final = (if f.gapError = true then .brokenOff
      else if fate = .accepted ∧
        (k = .offer ∧ (f.rejectReq = true ∨ replyCheckError rep = true ∨ rep.fault = true) ∨
          k = .ticket ∧ short.read .shared = .violation) then .rejected
      else fate) →
    ∃ t, exec (fateCommand k fate rep short line) s = .next t ∧ t.pending = s.pending ∧
      t.dev.fe.inFlight = none ∧ t.dev.sck.capture = none ∧ t.dev.sck.tick = s.dev.sck.tick ∧
      t.dev.fe.tecCount =
        (match final with
          | .accepted => s.dev.fe.tecCount - 1
          | .rejected => s.dev.fe.tecCount + 8
          | .brokenOff => s.dev.fe.tecCount + 8) ∧
      t.dev.fe.recCount = s.dev.fe.recCount ∧
      (final = .accepted → t.dev.sck.markQuiet = 0 ∧ ∀ e ∈ t.dev.fe.txq, e ≠ .mark) ∧
      t.dev.strap = s.dev.strap ∧ t.dev.sp.config = s.dev.sp.config ∧ t.dev.sp.menu = s.dev.sp.menu ∧
      t.dev.sp.reply = s.dev.sp.reply

/-! ### The Link: receiving -/

/-- A coding violation before the reply gap: an ON_LINE station breaks the frame and counts it in REC; at 128 it goes QUIET,
withdrawing its OFFER and MARK entries and marking every OPEN and SETTLING wave partial. A QUIET station drives
nothing, counts nothing and marks its waves; one in LISTEN does not even that (R25, R40, R44, R46, R55). A frame row whose
fields hold a coding violation, or end too soon, does what FRAME_CODING_VIOLATION does (R18, R25). -/
def Obligations.CodingViolationCounted : Prop :=
  (∀ (s : State) (r : Rx) (wait : Wait) (line : Followed),
    s.dev.fe.rx = some r → (r.stage = .start ∨ r.stage = .bodyEnd) → r.taker = .notTaker →
    r.startState = s.dev.fe.station →
    (s.dev.fe.station = .onLine → s.dev.lif.mode ≠ .down → s.dev.fe.tecCount < 128 → s.dev.fe.recCount < 127 →
      exec (.frameCodingViolation wait line) s = .next { s with dev := { s.dev with
        sck := { s.dev.sck with capture := none }
        lif := s.dev.heardLine line
        fe := { s.dev.fe with rx := none, idleCount := 0, recCount := s.dev.fe.recCount + 1,
                              drove := s.dev.fe.drove ++ [⟨.rejectBreak, s.dev.lif.mode.wires⟩] } } }) ∧
    (s.dev.fe.station = .onLine → s.dev.lif.mode ≠ .down → s.dev.fe.tecCount < 128 → s.dev.fe.recCount = 127 →
      ∃ t, exec (.frameCodingViolation wait line) s = .next t ∧ t.pending = s.pending ∧
        t.dev.fe.station = .quiet ∧ t.dev.fe.recCount = 128 ∧ t.dev.fe.tecCount = s.dev.fe.tecCount ∧
        t.dev.fe.quietCount = 0 ∧ t.dev.sck.markQuiet = 0 ∧ t.dev.fe.rx = none ∧
        t.dev.fe.drove = s.dev.fe.drove ++ [⟨.rejectBreak, s.dev.lif.mode.wires⟩] ∧
        t.dev.fe.txq = s.dev.fe.txq.filter (fun e => !(e.sameKey (.offer 0) || e.sameKey .mark)) ∧
        (∀ b ∈ t.dev.bp.batches, .offer b.bid ∈ s.dev.fe.txq → b.offerPending = false) ∧
        t.dev.wu.waves = s.dev.wu.waves.map (fun w =>
          if w.state = .opened ∨ w.state = .settling then { w with partialMark := true } else w) ∧
        t.dev.sp = s.dev.sp.queueNotice s.dev.sck.tick (.linkQuiet s.dev.fe.tecCount 128 false true) ∧
        t.dev.ti = s.dev.ti ∧ t.dev.lu = s.dev.lu ∧ t.dev.iu = s.dev.iu) ∧
    (s.dev.fe.station = .quiet →
      exec (.frameCodingViolation wait line) s = .next { s with dev := { s.dev with
        sck := { s.dev.sck with capture := none }
        lif := s.dev.heardLine line
        fe := { s.dev.fe with rx := none, idleCount := 0 }
        wu := { s.dev.wu with waves := s.dev.wu.waves.map (fun w =>
          if w.state = .opened ∨ w.state = .settling then { w with partialMark := true } else w) } } }) ∧
    (s.dev.fe.station = .listen →
      exec (.frameCodingViolation wait line) s = .next { s with dev := { s.dev with
        sck := { s.dev.sck with capture := none }
        lif := s.dev.heardLine line
        fe := { s.dev.fe with rx := none, idleCount := 0 } } })) ∧
  (∀ (s : State) (h : Heard) (line : Followed),
    s.dev.hears h → s.dev.fe.station = .onLine → s.dev.fe.tecCount < 128 → s.dev.fe.recCount < 127 →
    exec (.frameCodingViolation h.toWait line) s = .next { s with dev := { s.dev with
      sck := { s.dev.sck.advance h.elapsed with capture := none }
      lif := s.dev.heardLine line
      fe := { s.dev.fe with idleCount := 0, recCount := s.dev.fe.recCount + 1,
                            drove := [⟨.rejectBreak, s.dev.lif.mode.wires⟩] } } }) ∧
  ∀ (s : State) (k : Kind) (h : Heard) (rep : OfferReply), h.broken = true → h.lasted = 0 →
    exec (frameCommand k h rep) s = exec (.frameCodingViolation h.toWait h.toFollowed) s

/-- A frame of any kind that a station finds bad by its framing, its check, a violation in the reply gap or the reply field,
or, for an OFFER, its reply check: nothing of it is applied, the capture is dropped and no sample is taken. An ON_LINE
station drives the accept slot dominant and REC rises by 1, at 128 with QUIET; no ticket, wave, handed record or adopted
batch is made, an OFFER's possible taker gives its lane and held record back (R128, R150), and a frame of another kind
changes no record below 128. A QUIET station drives nothing, counts nothing and marks its OPEN and SETTLING waves; one in
LISTEN does neither. A violation in the accept slot alone is counted, with nothing driven (R23 to R25, R30 to R33, R40,
R44, R46, R55). -/
def Obligations.BadFrameRejected : Prop :=
  (∀ (s : State) (k : Kind) (h : Heard) (rep : OfferReply) (rejected : Device),
    s.dev.hears h → s.dev.fe.station = .onLine → s.dev.fe.tecCount < 128 → s.dev.fe.recCount < 127 →
    h.upTo = .accept →
    rejected = { s.dev with
      sck := { (s.dev.sck.advance h.elapsed).advance h.lasted with capture := none }
      lif := s.dev.heardLine h.toFollowed
      fe := { s.dev.fe with idleCount := 0, recCount := s.dev.fe.recCount + 1,
                            drove := [⟨.acceptDominant, s.dev.lif.mode.wires⟩] } } →
    ((framed k h.frame = none ∨ crcError h.frame = true ∨ h.gapFault = true ∨ h.lateFault = true ∨
        (k = .offer ∧ (replyCheckError rep = true ∨ rep.fault = true))) →
      ∃ t, exec (frameCommand k h rep) s = .next t ∧ t.pending = s.pending ∧
        t.dev.sck = rejected.sck ∧ t.dev.lif = rejected.lif ∧ t.dev.strap = s.dev.strap ∧
        t.dev.fe.station = .onLine ∧ t.dev.fe.rx = none ∧ t.dev.fe.inFlight = none ∧ t.dev.fe.idleCount = 0 ∧
        t.dev.fe.recCount = s.dev.fe.recCount + 1 ∧ t.dev.fe.tecCount = s.dev.fe.tecCount ∧
        t.dev.fe.drove.getLast? = some ⟨.acceptDominant, s.dev.lif.mode.wires⟩ ∧
        t.dev.wu.waves.map (·.ref) = s.dev.wu.waves.map (·.ref) ∧
        t.dev.ti.tickets.map (fun x => (x.pass, x.serial)) = s.dev.ti.tickets.map (fun x => (x.pass, x.serial)) ∧
        t.dev.ti.issues = s.dev.ti.issues ∧ t.dev.iu = s.dev.iu ∧ t.dev.bp.handed = s.dev.bp.handed ∧
        (∀ b ∈ t.dev.bp.batches, b.adopted = true → ∃ x ∈ s.dev.bp.batches, x.bid = b.bid ∧ x.adopted = true) ∧
        (∀ i : Fin 8, (s.dev.lane i).reserved = false → (t.dev.lane i).reserved = false) ∧
        t.dev.sp.config = s.dev.sp.config ∧ t.dev.sp.menu = s.dev.sp.menu ∧ t.dev.sp.reply = s.dev.sp.reply ∧
        (k ≠ .offer → k ≠ .ticket → t.dev = rejected) ∧
        (k ≠ .offer → t.dev = { rejected with fe := { rejected.fe with drove := t.dev.fe.drove } }) ∧
        (framed k h.frame = none ∨ k ≠ .offer ∧ (crcError h.frame = true ∨ h.gapFault = true) → t.dev = rejected)) ∧
    ((∃ b, framed k h.frame = some b) → crcError h.frame = false → h.gapFault = false → h.lateFault = false →
      h.accept = .violation → k ≠ .offer → k ≠ .ticket →
      exec (frameCommand k h rep) s = .next { s with dev := { rejected with fe := { rejected.fe with drove := [] } } })) ∧
  (∀ (s : State) (k : Kind) (h : Heard) (rep : OfferReply),
    s.dev.hears h → (s.dev.fe.station = .onLine → s.dev.fe.tecCount < 128) → h.upTo = .accept →
    (framed k h.frame = none ∨ crcError h.frame = true ∨ h.gapFault = true ∨ h.lateFault = true ∨
      h.accept = .violation ∨ (k = .offer ∧ (replyCheckError rep = true ∨ rep.fault = true))) →
    (s.dev.fe.station = .onLine → s.dev.fe.recCount = 127 → k ≠ .offer →
      ∃ t, exec (frameCommand k h rep) s = .next t ∧ t.pending = s.pending ∧
        t.dev.fe.station = .quiet ∧ t.dev.fe.recCount = 128 ∧ t.dev.fe.tecCount = s.dev.fe.tecCount ∧
        t.dev.fe.quietCount = 0 ∧ t.dev.fe.rx = none ∧ t.dev.fe.idleCount = 0 ∧ t.dev.lif = s.dev.heardLine h.toFollowed ∧
        t.dev.sck = { (s.dev.sck.advance h.elapsed).advance h.lasted with
          capture := none, markQuiet := 0, markDue := false } ∧
        (framed k h.frame = none ∨ crcError h.frame = true ∨ h.gapFault = true ∨ h.lateFault = true →
          t.dev.fe.drove.getLast? = some ⟨.acceptDominant, s.dev.lif.mode.wires⟩) ∧
        t.dev.fe.txq = s.dev.fe.txq.filter (fun e => !(e.sameKey (.offer 0) || e.sameKey .mark)) ∧
        t.dev.wu.waves = s.dev.wu.waves.map (fun w =>
          if w.state = .opened ∨ w.state = .settling then { w with partialMark := true } else w) ∧
        t.dev.sp = s.dev.sp.queueNotice s.dev.sck.tick (.linkQuiet s.dev.fe.tecCount 128 false true) ∧
        t.dev.ti = s.dev.ti ∧ t.dev.lu = s.dev.lu ∧ t.dev.iu = s.dev.iu ∧ t.dev.bp.fireQ = s.dev.bp.fireQ ∧
        t.dev.bp.handed = s.dev.bp.handed) ∧
    (s.dev.fe.station = .quiet ∨ s.dev.fe.station = .listen →
      exec (frameCommand k h rep) s = .next { s with dev := { s.dev with
        sck := { (s.dev.sck.advance h.elapsed).advance h.lasted with capture := none }
        lif := s.dev.heardLine h.toFollowed
        fe := { s.dev.fe with idleCount := 0, drove := [] }
        wu := if s.dev.fe.station = .quiet then { s.dev.wu with waves := s.dev.wu.waves.map (fun w =>
            if w.state = .opened ∨ w.state = .settling then { w with partialMark := true } else w) }
          else s.dev.wu } }))

/-- An accepted MARK found good yields an offset sample and nothing else: the stamp less the capture modulo 2^32, signed and
saturated, entered in its sender's place or appended while the list has fewer than 16 entries, an outlier beyond 1024
while ON_LINE or QUIET (R6, R7, R33). -/
def Obligations.MarkFrameSamples : Prop :=
  ∀ (s : State) (h : Heard) (offset : Int) (x : Sample),
    s.dev.hears h → heardGood h .mark noTakerReply .mark →
    ¬(s.dev.fe.station = .listen ∧ s.dev.sck.firstStep = true) →
    (s.dev.fe.station = .onLine → s.dev.fe.tecCount < 128 ∧ s.dev.fe.recCount < 128) →
    offset = max (-32767) (min 32767 (h.frame.stamp - (s.dev.sck.advance h.elapsed).reading).toInt) →
    x = { sender := h.frame.sender
          offset := offset
          outlier := (s.dev.fe.station == .onLine || s.dev.fe.station == .quiet) &&
            (decide (1024 < offset) || decide (offset < -1024)) } →
    exec (.markFrame h) s = .next { s with dev := { s.dev with
      sck := { (s.dev.sck.advance h.elapsed).advance h.lasted with
        capture := none
        samples :=
          if ∃ y ∈ s.dev.sck.samples, y.sender = x.sender then
            s.dev.sck.samples.map (fun y => if y.sender = x.sender then x else y)
          else if s.dev.sck.samples.length < 16 then s.dev.sck.samples ++ [x]
          else s.dev.sck.samples }
      lif := s.dev.heardLine h.toFollowed
      fe := { s.dev.fe with
        idleCount := 0
        drove := []
        recCount := if s.dev.fe.station = .onLine then s.dev.fe.recCount - 1 else s.dev.fe.recCount } } }

/-- In LISTEN with the first step pending, an accepted frame of any kind that the station found good sets the clock to its
stamp, C to 0 and the marker clear, restarts the period, queues CLOCK_STEP with the difference from the reading at the end
of the accept slot, and reaches no other block (R8, R11, R14, R20). That a difference of 0 queues none is the model's
choice: log entry 50. -/
def Obligations.FirstStepFromAnyFrame : Prop :=
  ∀ (s : State) (k : Kind) (h : Heard) (rep : OfferReply) (b : Body) (size : Int),
    s.dev.hears h → s.dev.fe.station = .listen → s.dev.sck.firstStep = true → heardGood h k rep b →
    size = (h.frame.stamp - ((s.dev.sck.advance h.elapsed).advance h.lasted).reading).toInt →
    exec (frameCommand k h rep) s = .next { s with dev := { s.dev with
      sck := { s.dev.sck with
        tick := stampTick h.frame.stamp
        prescaler := (stampFrac h.frame.stamp).toNat * 16
        terminal := 4095
        corr := 0
        firstStep := false
        periodCount := 0
        samples := []
        capture := none
        periodEndDue := false }
      lif := s.dev.heardLine h.toFollowed
      fe := { s.dev.fe with idleCount := 0, drove := [] }
      sp := if size = 0 then s.dev.sp
        else s.dev.sp.queueNotice (stampTick h.frame.stamp) (.clockStep .first size) } }

/-- An accepted READY found good changes the participant list of the named wave by the table of R98 and nothing else beside
what every accepted frame leaves: an entry replaced in its place, appended while fewer than 16 stand, or removed by
WITHDRAWN; nothing in SET or AWAY, or where the stamp is at or after the close (R98). -/
def Obligations.ReadyFrameApplied : Prop :=
  ∀ (s : State) (h : Heard) (w : Wave) (num : Byte) (pass : Addr) (off : BitVec 15) (far wd : Bool),
    s.dev.hears h → (s.dev.fe.station = .onLine ∨ s.dev.fe.station = .quiet) →
    (s.dev.fe.station = .onLine → s.dev.fe.tecCount < 128 ∧ s.dev.fe.recCount < 128) → s.dev.idsOk →
    heardGood h .ready noTakerReply (.ready num pass off far wd) → s.dev.named? pass num = some w →
    exec (.readyFrame h) s = .next { s with dev := { s.dev.heardFrame h with wu := { s.dev.wu with
      waves := s.dev.wu.waves.map (fun x =>
        if x.ref = w.ref then
          { x with participants := participantsAfter h.frame.sender (stampTick h.frame.stamp) off far wd x }
        else x) } } }

/-- An accepted SLIP found good moves the named SET wave's go time to the later of it and the sent estimate, raises its
slip count and sets its far marker, queues its notices, and on a cooking station recomputes the latest start and
release of the wave's FORMED batches and of no other. A SLIP stamped at or after go less 16, a fourth one, or one
naming a wave not held in SET, changes nothing but what every accepted frame leaves (R106, R111, R121). -/
def Obligations.SlipFrameApplied : Prop :=
  ∀ (s : State) (h : Heard) (num : Byte) (pass : Addr) (off : BitVec 15) (far : Bool),
    s.dev.hears h → (s.dev.fe.station = .onLine ∨ s.dev.fe.station = .quiet) →
    (s.dev.fe.station = .onLine → s.dev.fe.tecCount < 128 ∧ s.dev.fe.recCount < 128) → s.dev.idsOk →
    heardGood h .slip noTakerReply (.slip num pass off far) →
    (∀ (w : Wave) (go : Tick), s.dev.named? pass num = some w → w.state = .goSet →
      before (stampTick h.frame.stamp) (w.go.getD 0 - 16) = true → w.slips < 3 →
      go = laterOf (w.go.getD 0) (stampTick h.frame.stamp + BitVec.ofNat 24 off.toNat) →
      ∃ t, exec (.slipFrame h) s = .next t ∧ t.pending = s.pending ∧ (s.dev.heardFrame h).Kept t.dev ∧
        t.dev.wu.waves.map (·.ref) = s.dev.wu.waves.map (·.ref) ∧
        (∀ x ∈ t.dev.wu.waves, ∃ y ∈ s.dev.wu.waves, x =
          if y.ref = w.ref then
            { y with go := some go, slips := y.slips + 1, far := y.far || far, est := x.est }
          else { y with est := x.est }) ∧
        t.dev.ti = s.dev.ti ∧ t.dev.iu = s.dev.iu ∧ t.dev.bp.handed = s.dev.bp.handed ∧
        (s.dev.sp.config.waveGroup = true → s.dev.sp.notices.length ≤ 30 →
          { tick := s.dev.sck.tick, body := .waveSlipped w.noticeId go (w.slips + 1) } ∈ t.dev.sp.notices ∧
          (far = true → w.far = false →
            { tick := s.dev.sck.tick, body := .waveFar w.noticeId h.frame.sender } ∈ t.dev.sp.notices)) ∧
        (s.dev.strap.cls ≠ 0 → ∀ b ∈ s.dev.bp.batches, ∃ b' ∈ t.dev.bp.batches, b'.bid = b.bid ∧
          if b.wave = w.ref ∧ b.state = .formed then
            b'.ls = go - BitVec.ofNat 24 s.dev.sp.config.margin - BitVec.ofNat 24 (s.dev.cookOf b.dish) ∧
            b'.rl = b'.ls - BitVec.ofNat 24 (s.dev.holdOf b.dish)
          else b'.ls = b.ls ∧ b'.rl = b.rl)) ∧
    ((∀ w, s.dev.named? pass num = some w →
        w.state ≠ .goSet ∨ before (stampTick h.frame.stamp) (w.go.getD 0 - 16) = false ∨ 3 ≤ w.slips) →
      exec (.slipFrame h) s = .next { s with dev := s.dev.heardFrame h })

/-- A TICKET that is a cooking station's own and that it can hold is filed at the end of the index, and its quantities join
the demand of the record's dish lines, new lines at the end. It is filed against the record of its call time, or an
adopted-only SET record, which takes call time, lead and close from it; on a SET record with room in the pool all of it
is then in batches. Else a new record takes the frame's wave id, call time and lead, the close they give, and heard-from
the later of view-from and the stamp: SET with the go time carried, OPEN, SETTLING, or SET at the call time, by its go
present bit, its stamp and own clock. A record held under the number with another call time makes way: an AWAY one becomes
anonymous; any other is abandoned with its notice, gone, or AWAY and anonymous where batches are on the heat (R72 to R76,
R83). -/
def Obligations.TicketFrameFiled : Prop :=
  (∀ (s : State) (h : Heard) (num : Byte) (serial : Serial) (call : Tick) (lead : BitVec 16) (gp : Bool) (go : Tick)
    (items kept : List Order) (ref : Nat), s.dev.ownsTicket h serial items kept →
    heardGood h .ticket noTakerReply (.ticket num serial call lead gp go items) →
    ((∃ w, s.dev.named? h.frame.sender num = some w ∧ (w.state = .opened ∨ w.state = .settling) ∧
        w.call = some call ∧ w.lines.length + kept.length ≤ 16 ∧ ref = w.ref) ∨
      (s.dev.named? h.frame.sender num = none ∧ s.dev.wu.waves.length < 32 ∧ gp = false ∧
        before (stampTick h.frame.stamp) (call - BitVec.ofNat 24 lead.toNat) = true ∧
        before s.dev.sck.tick (call - BitVec.ofNat 24 lead.toNat) = true ∧ ref = s.dev.wu.nextRef)) →
    ∃ t, exec (.ticketFrame h) s = .next t ∧ t.pending = s.pending ∧ (s.dev.heardFrame h).Kept t.dev ∧
      t.dev.ti.tickets = s.dev.ti.tickets ++
        [{ pass := h.frame.sender, serial := serial, wave := ref,
           items := kept.map (fun o => { dish := o.dish, qty := o.qty, unb := o.qty }) }] ∧
      t.dev.ti.issues = s.dev.ti.issues ∧ t.dev.lu = s.dev.lu ∧ t.dev.iu = s.dev.iu ∧
      t.dev.bp.fireQ = s.dev.bp.fireQ ∧ t.dev.bp.handed = s.dev.bp.handed ∧
      t.dev.bp.batches.map (·.bid) = s.dev.bp.batches.map (·.bid) ∧
      (∀ y ∈ s.dev.wu.waves, ∃ x ∈ t.dev.wu.waves, x = { y with est := x.est, lines := x.lines } ∧
        (y.ref ≠ ref → x.lines = y.lines) ∧
        (y.ref = ref → y.lines.map (·.dish) <+: x.lines.map (·.dish) ∧
          ∀ c, x.demandOf c = y.demandOf c + ((kept.filter (fun o => o.dish = c)).map (·.qty)).sum)) ∧
      (if s.dev.named? h.frame.sender num = none then
        t.dev.wu.waves.map (·.ref) = s.dev.wu.waves.map (·.ref) ++ [ref] ∧
        ∃ x ∈ t.dev.wu.waves,
          x = { ref := ref
                id := some { pass := h.frame.sender, num := num }
                call := some call
                lead := some lead
                close := some (call - BitVec.ofNat 24 lead.toNat)
                state := .opened
                go := none
                slips := 0
                heardFrom := laterOf (s.dev.fe.viewFrom.getD (stampTick h.frame.stamp)) (stampTick h.frame.stamp)
                partialMark := false
                far := false
                participants := []
                own := .absent
                est := x.est
                lines := x.lines
                adoptedOnly := false
                anonymous := false
                pickupPending := false } ∧
          ∀ c, x.demandOf c = ((kept.filter (fun o => o.dish = c)).map (·.qty)).sum
      else t.dev.wu.waves.map (·.ref) = s.dev.wu.waves.map (·.ref))) ∧
  (∀ (s : State) (h : Heard) (num : Byte) (serial : Serial) (call : Tick) (lead : BitVec 16) (gp : Bool) (go : Tick)
    (items kept : List Order) (w : Wave), s.dev.ownsTicket h serial items kept →
    heardGood h .ticket noTakerReply (.ticket num serial call lead gp go items) →
    s.dev.named? h.frame.sender num = some w → w.state = .goSet → (w.call = some call ∨ w.adoptedOnly = true) →
    w.lines.length + kept.length ≤ 16 →
    ∃ t, exec (.ticketFrame h) s = .next t ∧ t.pending = s.pending ∧ (s.dev.heardFrame h).Kept t.dev ∧
      t.dev.wu.waves.map (·.ref) = s.dev.wu.waves.map (·.ref) ∧
      t.dev.ti.tickets.map Ticket.key = s.dev.ti.tickets.map Ticket.key ++
        [(h.frame.sender, serial, w.ref, kept.map (fun o => (o.dish, o.qty)))] ∧
      t.dev.ti.issues = s.dev.ti.issues ∧ t.dev.iu = s.dev.iu ∧ t.dev.bp.handed = s.dev.bp.handed ∧
      (s.dev.bp.batches.map (·.bid) <+: t.dev.bp.batches.map (·.bid)) ∧
      ∃ x ∈ t.dev.wu.waves,
        x = { w with
          call := some call
          lead := if w.call = some call then w.lead else some lead
          close := if w.call = some call then w.close else some (call - BitVec.ofNat 24 lead.toNat)
          adoptedOnly := if w.call = some call then w.adoptedOnly else false
          est := x.est
          lines := x.lines } ∧
        (w.lines.map (·.dish) <+: x.lines.map (·.dish)) ∧
        ((∀ y ∈ s.dev.sp.menu, 1 ≤ y.batch) → (∀ l ∈ w.lines, l.demand = 0) →
          (∀ y ∈ s.dev.ti.tickets, y.wave = w.ref → ∀ it ∈ y.items, it.unb = 0) →
          s.dev.bp.batches.length + (kept.map (·.qty)).sum ≤ 96 →
          (∀ l ∈ x.lines, l.demand = 0) ∧ (∀ y ∈ t.dev.ti.tickets, y.wave = w.ref → ∀ it ∈ y.items, it.unb = 0) ∧
          (∀ c, t.dev.inBatches w.ref serial c = s.dev.inBatches w.ref serial c +
            ((kept.filter (fun o => o.dish = c)).map (·.qty)).sum) ∧
          ∀ b ∈ t.dev.bp.batches, s.dev.bp.nextBid ≤ b.bid → (∀ y ∈ s.dev.bp.batches, y.bid ≠ b.bid) →
            b.wave = w.ref ∧ (b.state = .formed ∨ b.state = .called) ∧ 1 ≤ b.portions ∧
              b.portions ≤ s.dev.sizeOf b.dish ∧ b.contribs = [⟨serial, b.portions⟩])) ∧
  (∀ (s : State) (h : Heard) (num : Byte) (serial : Serial) (call close : Tick) (lead : BitVec 16) (gp : Bool) (go : Tick)
    (items kept : List Order) (st : WaveState) (g : Option Tick), s.dev.ownsTicket h serial items kept →
    heardGood h .ticket noTakerReply (.ticket num serial call lead gp go items) → s.dev.wu.waves.length < 32 →
    (∀ w, s.dev.named? h.frame.sender num = some w →
      w.call ≠ some call ∧ ¬(w.state = .goSet ∧ w.adoptedOnly = true)) →
    close = call - BitVec.ofNat 24 lead.toNat →
    ((gp = true ∧ st = .goSet ∧ g = some go) ∨
      (gp = false ∧ before (stampTick h.frame.stamp) close = true ∧ before s.dev.sck.tick close = true ∧
        st = .opened ∧ g = none) ∨
      (gp = false ∧ (before (stampTick h.frame.stamp) close = false ∨ before s.dev.sck.tick close = false) ∧
        ((before s.dev.sck.tick (close + 4) = true ∧ st = .settling ∧ g = none) ∨
          (before s.dev.sck.tick (close + 4) = false ∧ st = .goSet ∧ g = some call)))) →
    ∃ t, exec (.ticketFrame h) s = .next t ∧ t.pending = s.pending ∧ (s.dev.heardFrame h).Kept t.dev ∧
      (∃ x ∈ t.dev.wu.waves,
        x = { ref := s.dev.wu.nextRef
              id := some { pass := h.frame.sender, num := num }
              call := some call
              lead := some lead
              close := some close
              state := st
              go := g
              slips := 0
              heardFrom := laterOf (s.dev.fe.viewFrom.getD (stampTick h.frame.stamp)) (stampTick h.frame.stamp)
              partialMark := x.partialMark
              far := false
              participants := []
              own := .absent
              est := x.est
              lines := x.lines
              adoptedOnly := false
              anonymous := false
              pickupPending := false } ∧
        (st ≠ .goSet ∨ gp = true → x.partialMark = false) ∧
        (∀ c, (∃ l ∈ x.lines, l.dish = c) ↔ ∃ o ∈ kept, o.dish = c) ∧
        (st ≠ .goSet → ∀ c, x.demandOf c = ((kept.filter (fun o => o.dish = c)).map (·.qty)).sum) ∧
        (st = .goSet → (∀ y ∈ s.dev.sp.menu, 1 ≤ y.batch) →
          (∀ y ∈ s.dev.wu.waves, y.state = .goSet → ∀ l ∈ y.lines, l.demand = 0) →
          s.dev.bp.batches.length + (kept.map (·.qty)).sum ≤ 96 → ∀ l ∈ x.lines, l.demand = 0)) ∧
      (s.dev.named? h.frame.sender num = none →
        t.dev.wu.waves.map (·.ref) = s.dev.wu.waves.map (·.ref) ++ [s.dev.wu.nextRef] ∧
        t.dev.ti.tickets.map Ticket.key = s.dev.ti.tickets.map Ticket.key ++
          [(h.frame.sender, serial, s.dev.wu.nextRef, kept.map (fun o => (o.dish, o.qty)))] ∧
        t.dev.bp.handed = s.dev.bp.handed ∧
        (st = .goSet → s.dev.sp.config.waveGroup = true → s.dev.sp.notices.length < 32 →
          { tick := s.dev.sck.tick
            body := .waveSet { pass := h.frame.sender, num := num } (g.getD 0) 0 } ∈ t.dev.sp.notices)) ∧
      ∀ w, s.dev.named? h.frame.sender num = some w →
        (∃ kt, t.dev.ti.tickets.map Ticket.key = kt ++
            [(h.frame.sender, serial, s.dev.wu.nextRef, kept.map (fun o => (o.dish, o.qty)))] ∧
          ∀ y ∈ kt, y.2.2.1 ≠ w.ref) ∧
        (∀ r ∈ t.dev.bp.handed, r.wave ≠ w.ref) ∧
        (w.state ≠ .away → .ready w.ref ∉ t.dev.fe.txq ∧ .slip w.ref ∉ t.dev.fe.txq) ∧
        ((w.state = .away ∨
            w.state = .goSet ∧ ∃ b ∈ s.dev.bp.batches, b.wave = w.ref ∧ (b.state = .cooking ∨ b.state = .due)) →
          t.dev.wu.waves.map (·.ref) = s.dev.wu.waves.map (·.ref) ++ [s.dev.wu.nextRef] ∧
          ∃ y ∈ t.dev.wu.waves, y.ref = w.ref ∧ y.state = .away ∧ y.anonymous = true ∧ y.id = none) ∧
        (w.state = .opened ∨ w.state = .settling ∨
            w.state = .goSet ∧ (∀ b ∈ s.dev.bp.batches, b.wave = w.ref → b.state ≠ .cooking ∧ b.state ≠ .due) →
          t.dev.wu.waves.map (·.ref) =
            (s.dev.wu.waves.map (·.ref)).filter (fun r => r ≠ w.ref) ++ [s.dev.wu.nextRef]) ∧
        (w.state ≠ .away → s.dev.sp.config.waveGroup = true → s.dev.sp.notices.length < 32 →
          { tick := s.dev.sck.tick
            body := .waveAbandoned w.noticeId (s.dev.bp.batches.filter (fun b => b.wave = w.ref)).length } ∈
            t.dev.sp.notices))

/-- A TICKET that is not the station's own, or repeats a record of the index, changes nothing but what every accepted frame
leaves. One whose wave is AWAY with the same call time queues TICKET_SHORT with cause WAVE_AWAY and drives nothing. One
that finds the index full drives SHORT where the station may drive, and queues TICKET_SHORT; the undriven flag stands
where it could not drive (R28, R29, R72, R73); in the WAVE_AWAY notice that flag is the model's reading, log entry 19. -/
def Obligations.TicketTurnedAway : Prop :=
  ∀ (s : State) (h : Heard) (num : Byte) (serial : Serial) (call : Tick) (lead : BitVec 16) (gp : Bool) (go : Tick)
    (items kept : List Order),
    s.dev.hears h → (s.dev.fe.station = .onLine ∨ s.dev.fe.station = .quiet) →
    (s.dev.fe.station = .onLine → s.dev.fe.tecCount < 128 ∧ s.dev.fe.recCount < 128) →
    heardGood h .ticket noTakerReply (.ticket num serial call lead gp go items) →
    kept = items.filter (fun o => (s.dev.dish? o.dish).isSome) →
    ((s.dev.strap.cls = 0 ∨ serial.toNat % s.dev.sp.config.shareCount ≠ s.dev.sp.config.shareIndex ∨ kept = [] ∨
        (∃ x ∈ s.dev.ti.tickets, x.pass = h.frame.sender ∧ x.serial = serial)) →
      exec (.ticketFrame h) s = .next { s with dev := s.dev.heardFrame h }) ∧
    (∀ w, s.dev.strap.cls ≠ 0 → serial.toNat % s.dev.sp.config.shareCount = s.dev.sp.config.shareIndex → kept ≠ [] →
      (∀ x ∈ s.dev.ti.tickets, ¬(x.pass = h.frame.sender ∧ x.serial = serial)) →
      s.dev.named? h.frame.sender num = some w → w.call = some call →
      (w.state = .away →
        exec (.ticketFrame h) s = .next { s with dev := { s.dev.heardFrame h with
          sp := s.dev.sp.queueNotice s.dev.sck.tick
            (.ticketShort h.frame.sender serial num .waveAway (s.dev.fe.station == .quiet)) } }) ∧
      (w.state ≠ .away → w.lines.length + kept.length ≤ 16 → 256 ≤ s.dev.ti.tickets.length →
        exec (.ticketFrame h) s = .next { s with dev := { s.dev.heardFrame h with
          fe := { (s.dev.heardFrame h).fe with
            drove := if s.dev.fe.station = .onLine then [⟨.shortSlot, s.dev.lif.mode.wires⟩] else [] }
          sp := s.dev.sp.queueNotice s.dev.sck.tick
            (.ticketShort h.frame.sender serial num .ticketIndex (s.dev.fe.station == .quiet)) } }))

/-- An accepted VOID takes the ticket it names from the index, and its unbatched portions from the demand; a SET wave left
without work is retired. Each batch of the wave that lists the serial loses that entry: its portions fall to what remains
while FORMED or CALLED, and it is deleted when nothing remains; on the heat or HOLDING it keeps its portions as spares.
The entry leaves handed records too, and one left empty is dropped. A VOID that names no ticket does the same to adopted
batches and to handed records alone; of a wave not held, or on a pass, it changes nothing (R77 to R80, R86). -/
def Obligations.VoidFrameApplied : Prop :=
  (∀ (s : State) (h : Heard) (num : Byte) (serial : Serial) (w : Wave) (t0 : Ticket),
    s.dev.hears h → (s.dev.fe.station = .onLine ∨ s.dev.fe.station = .quiet) →
    (s.dev.fe.station = .onLine → s.dev.fe.tecCount < 128 ∧ s.dev.fe.recCount < 128) → s.dev.idsOk → s.dev.strap.cls ≠ 0 →
    heardGood h .void noTakerReply (.void num serial) → s.dev.named? h.frame.sender num = some w →
    t0 ∈ s.dev.ti.tickets → t0.pass = h.frame.sender → t0.serial = serial → t0.wave = w.ref →
    (∀ x ∈ s.dev.ti.tickets, x.pass = h.frame.sender → x.serial = serial → x = t0) →
    ((∀ b ∈ s.dev.bp.batches, b.wave = w.ref → ∀ c ∈ b.contribs, c.serial ≠ serial) →
      (w.state ≠ .goSet ∨ (∃ b ∈ s.dev.bp.batches, b.wave = w.ref) ∨
        ∃ l ∈ w.lines, ((t0.items.filter (fun it => it.dish = l.dish)).map (·.unb)).sum < l.demand) →
      ∃ t, exec (.voidFrame h) s = .next t ∧ t.pending = s.pending ∧ (s.dev.heardFrame h).Kept t.dev ∧
        t.dev.ti.tickets = s.dev.ti.tickets.filter (fun x => ¬(x.pass = h.frame.sender ∧ x.serial = serial)) ∧
        t.dev.bp.handed =
          (s.dev.bp.handed.map (fun r =>
            if r.wave = w.ref then { r with contribs := r.contribs.filter (fun c => c.serial ≠ serial) } else r)).filter
            (fun r => ¬(r.wave = w.ref ∧ r.contribs = [])) ∧
        t.dev.bp.batches.map (·.bid) = s.dev.bp.batches.map (·.bid) ∧ t.dev.bp.fireQ = s.dev.bp.fireQ ∧
        t.dev.lu = s.dev.lu ∧ t.dev.iu = s.dev.iu ∧
        t.dev.wu.waves.map (·.ref) = s.dev.wu.waves.map (·.ref) ∧
        ∀ x ∈ t.dev.wu.waves, ∃ y ∈ s.dev.wu.waves, x = { y with est := x.est, lines := x.lines } ∧
          (y.ref ≠ w.ref → x.lines = y.lines) ∧
          (y.ref = w.ref → ∀ c, x.demandOf c =
            y.demandOf c - ((t0.items.filter (fun it => it.dish = c)).map (·.unb)).sum)) ∧
    (∀ b ∈ s.dev.bp.batches, b.wave = w.ref → (∃ c ∈ b.contribs, c.serial = serial) →
      (∀ x ∈ s.dev.bp.batches, x.wave = w.ref → (∃ c ∈ x.contribs, c.serial = serial) → x = b) →
      ∃ t, exec (.voidFrame h) s = .next t ∧ t.pending = s.pending ∧ (s.dev.heardFrame h).Kept t.dev ∧
        (∀ x ∈ t.dev.ti.tickets, ¬(x.pass = h.frame.sender ∧ x.serial = serial)) ∧
        if (b.state = .formed ∨ b.state = .called) ∧ b.contribs.filter (fun c => c.serial ≠ serial) = [] then
          ∀ x ∈ t.dev.bp.batches, x.bid ≠ b.bid
        else
          t.dev.bp.fireQ = s.dev.bp.fireQ ∧ t.dev.lu = s.dev.lu ∧
          ∃ x ∈ t.dev.bp.batches, x =
            { b with
              contribs := b.contribs.filter (fun c => c.serial ≠ serial)
              portions := if b.state = .formed ∨ b.state = .called then
                  ((b.contribs.filter (fun c => c.serial ≠ serial)).map (·.portions)).sum
                else b.portions
              late := x.late
              offerPending := x.offerPending }) ∧
    (w.state = .goSet → (∀ b ∈ s.dev.bp.batches, b.wave ≠ w.ref) →
      (∀ l ∈ w.lines, l.demand ≤ ((t0.items.filter (fun it => it.dish = l.dish)).map (·.unb)).sum) →
      ∃ t, exec (.voidFrame h) s = .next t ∧ t.pending = s.pending ∧ (s.dev.heardFrame h).Kept t.dev ∧
        t.dev.wu.waves.map (·.ref) = (s.dev.wu.waves.map (·.ref)).filter (fun r => r ≠ w.ref) ∧
        t.dev.ti.tickets = s.dev.ti.tickets.filter
          (fun x => ¬(x.pass = h.frame.sender ∧ x.serial = serial) ∧ x.wave ≠ w.ref) ∧
        t.dev.bp.handed = s.dev.bp.handed.filter (fun r => r.wave ≠ w.ref) ∧
        t.dev.bp.batches.map (·.bid) = s.dev.bp.batches.map (·.bid) ∧ t.dev.bp.fireQ = s.dev.bp.fireQ ∧
        t.dev.lu = s.dev.lu ∧ t.dev.iu = s.dev.iu ∧ .slip w.ref ∉ t.dev.fe.txq)) ∧
  (∀ (s : State) (h : Heard) (num : Byte) (serial : Serial) (w : Wave) (handed : List Handed) (named : Prop),
    s.dev.hears h → (s.dev.fe.station = .onLine ∨ s.dev.fe.station = .quiet) →
    (s.dev.fe.station = .onLine → s.dev.fe.tecCount < 128 ∧ s.dev.fe.recCount < 128) → s.dev.idsOk → s.dev.strap.cls ≠ 0 →
    heardGood h .void noTakerReply (.void num serial) → s.dev.named? h.frame.sender num = some w →
    (named ↔ ∃ x ∈ s.dev.ti.tickets, x.pass = h.frame.sender ∧ x.serial = serial ∧ x.wave = w.ref) →
    handed = (s.dev.bp.handed.map (fun r =>
        if r.wave = w.ref then { r with contribs := r.contribs.filter (fun c => c.serial ≠ serial) } else r)).filter
        (fun r => ¬(r.wave = w.ref ∧ r.contribs = [])) →
    (¬named → (∀ b ∈ s.dev.bp.batches, b.wave = w.ref → b.adopted = true → ∀ c ∈ b.contribs, c.serial ≠ serial) →
      exec (.voidFrame h) s = .next { s with dev := { s.dev.heardFrame h with
        bp := { s.dev.bp with handed := handed } } }) ∧
    ((∀ x ∈ s.dev.wu.waves, x.state = .goSet → ∀ l ∈ x.lines, l.demand = 0) →
      ∃ t, exec (.voidFrame h) s = .next t ∧ t.pending = s.pending ∧ (s.dev.heardFrame h).Kept t.dev ∧
        t.dev.ti.tickets.Sublist s.dev.ti.tickets ∧
        (named → ∀ x ∈ t.dev.ti.tickets, ¬(x.pass = h.frame.sender ∧ x.serial = serial)) ∧
        (∀ x ∈ t.dev.bp.batches, ∃ b ∈ s.dev.bp.batches, x.bid = b.bid) ∧
        (∀ r ∈ t.dev.bp.handed, r ∈ handed) ∧ (∀ r ∈ handed, r.wave ≠ w.ref → r ∈ t.dev.bp.handed) ∧
        (w.state = .goSet → (∀ x ∈ t.dev.bp.batches, x.wave ≠ w.ref) → (named ∨ ∃ b ∈ s.dev.bp.batches, b.wave = w.ref) →
          ∀ x ∈ t.dev.wu.waves, x.ref ≠ w.ref) ∧
        ∀ b ∈ s.dev.bp.batches,
          (b.wave = w.ref → (∃ c ∈ b.contribs, c.serial = serial) → (named ∨ b.adopted = true) →
            if (b.state = .formed ∨ b.state = .called) ∧ b.contribs.filter (fun c => c.serial ≠ serial) = [] then
              ∀ x ∈ t.dev.bp.batches, x.bid ≠ b.bid
            else ∃ x ∈ t.dev.bp.batches, x =
              { b with
                contribs := b.contribs.filter (fun c => c.serial ≠ serial)
                portions := if b.state = .formed ∨ b.state = .called then
                    ((b.contribs.filter (fun c => c.serial ≠ serial)).map (·.portions)).sum
                  else b.portions
                state := x.state
                staged := x.staged
                lane := x.lane
                late := x.late
                offerPending := x.offerPending }) ∧
          (¬(b.wave = w.ref ∧ (∃ c ∈ b.contribs, c.serial = serial) ∧ (named ∨ b.adopted = true)) →
            ∃ x ∈ t.dev.bp.batches, x =
              { b with state := x.state, staged := x.staged, lane := x.lane, late := x.late,
                       offerPending := x.offerPending }))) ∧
  (∀ (s : State) (h : Heard) (num : Byte) (serial : Serial),
    s.dev.hears h → (s.dev.fe.station = .onLine ∨ s.dev.fe.station = .quiet) →
    (s.dev.fe.station = .onLine → s.dev.fe.tecCount < 128 ∧ s.dev.fe.recCount < 128) → heardGood h .void noTakerReply (.void num serial) →
    (s.dev.strap.cls = 0 ∨ s.dev.named? h.frame.sender num = none) →
    exec (.voidFrame h) s = .next { s with dev := s.dev.heardFrame h })

/-- An accepted PICKUP ends the wave it names. OPEN and SETTLING records leave with their tickets and handed records. Of a
SET wave every FORMED, CALLED and HOLDING batch leaves; with none on the heat the record leaves too; else it enters AWAY
with its demand dropped, and the batches on the heat stay; WAVE_AWAY is queued before the lanes made IDLE call a batch.
A wave that is AWAY or not held, and any wave on a pass, is untouched (R83 to R85). -/
def Obligations.PickupFrameApplied : Prop :=
  ∀ (s : State) (h : Heard) (num : Byte),
    s.dev.hears h → (s.dev.fe.station = .onLine ∨ s.dev.fe.station = .quiet) →
    (s.dev.fe.station = .onLine → s.dev.fe.tecCount < 128 ∧ s.dev.fe.recCount < 128) → s.dev.idsOk →
    heardGood h .pickup noTakerReply (.pickup num) →
    ((s.dev.strap.cls = 0 ∨ ∀ w, s.dev.named? h.frame.sender num = some w → w.state = .away) →
      exec (.pickupFrame h) s = .next { s with dev := s.dev.heardFrame h }) ∧
    (∀ w, s.dev.strap.cls ≠ 0 → s.dev.named? h.frame.sender num = some w → w.state ≠ .away →
      ∃ t, exec (.pickupFrame h) s = .next t ∧ t.pending = s.pending ∧ (s.dev.heardFrame h).Kept t.dev ∧
        (∀ r ∈ t.dev.bp.handed, r.wave ≠ w.ref) ∧ .ready w.ref ∉ t.dev.fe.txq ∧ .slip w.ref ∉ t.dev.fe.txq ∧
        (w.state = .opened ∨ w.state = .settling →
          t.dev.wu.waves.map (·.ref) = (s.dev.wu.waves.map (·.ref)).filter (fun r => r ≠ w.ref) ∧
          t.dev.ti.tickets = s.dev.ti.tickets.filter (fun x => x.wave ≠ w.ref) ∧
          t.dev.bp.handed = s.dev.bp.handed.filter (fun r => r.wave ≠ w.ref) ∧
          t.dev.bp.batches.map (·.bid) = s.dev.bp.batches.map (·.bid) ∧ t.dev.lu = s.dev.lu) ∧
        (w.state = .goSet → (∀ b ∈ s.dev.bp.batches, b.wave = w.ref → b.state ≠ .cooking ∧ b.state ≠ .due) →
          t.dev.wu.waves.map (·.ref) = (s.dev.wu.waves.map (·.ref)).filter (fun r => r ≠ w.ref) ∧
          (∀ x ∈ t.dev.ti.tickets, x.wave ≠ w.ref) ∧ (∀ b ∈ t.dev.bp.batches, b.wave ≠ w.ref)) ∧
        (w.state = .goSet → (∃ b ∈ s.dev.bp.batches, b.wave = w.ref ∧ (b.state = .cooking ∨ b.state = .due)) →
          t.dev.wu.waves.map (·.ref) = s.dev.wu.waves.map (·.ref) ∧
          (∀ x ∈ t.dev.wu.waves, x.ref = w.ref → x.state = .away ∧ x.est = none ∧ ∀ l ∈ x.lines, l.demand = 0) ∧
          (∀ b ∈ t.dev.bp.batches, b.wave = w.ref → b.state = .cooking ∨ b.state = .due) ∧
          (∀ b ∈ s.dev.bp.batches, b.wave = w.ref → b.state = .cooking ∨ b.state = .due →
            ∃ x ∈ t.dev.bp.batches, x.bid = b.bid ∧ x.wave = b.wave ∧ x.state = b.state ∧ x.contribs = b.contribs) ∧
          (s.dev.sp.config.waveGroup = true → s.dev.sp.notices.length < 32 →
            (∀ x ∈ s.dev.wu.waves, x.ref ≠ w.ref → x.state = .goSet → ∀ l ∈ x.lines, l.demand = 0) →
            s.dev.sp.notices ++
              [{ tick := s.dev.sck.tick
                 body := .waveAway w.noticeId
                   (s.dev.bp.batches.filter (fun b => b.wave = w.ref ∧ (b.state = .cooking ∨ b.state = .due))).length }] <+:
              t.dev.sp.notices)))

/-- An accepted OFFER for which a station does not qualify as taker, by any of the conditions of R150, changes no batch,
lane or record there, and nothing is driven: it serves the clock as a sample (R6, R150, R153). -/
def Obligations.OfferFrameThirdParty : Prop :=
  ∀ (s : State) (h : Heard) (rep : OfferReply) (num : Byte) (pass : Addr) (go : Tick) (slips : BitVec 2) (dish : Byte)
    (portions : Nat) (cs : List Contrib),
    s.dev.hears h → (s.dev.fe.station = .onLine ∨ s.dev.fe.station = .quiet) →
    (s.dev.fe.station = .onLine → s.dev.fe.tecCount < 128 ∧ s.dev.fe.recCount < 128) →
    heardGood h .offer rep (.offer num pass go slips dish portions cs) →
    (s.dev.fe.station = .quiet ∨ h.frame.cls ≠ s.dev.strap.cls ∨ s.dev.dish? dish = none ∨
      (∃ x, s.dev.dish? dish = some x ∧
        (x.batch < portions ∨
          (∀ i : Fin 8, ¬(i.val < s.dev.sp.config.laneCount ∧ (s.dev.lane i).state = .idle ∧
            (s.dev.lane i).reserved = false ∧ s.dev.laneKind i = x.kind)) ∨
          (∃ b ∈ s.dev.queued, s.dev.kindOf b.dish = some x.kind ∧ s.dev.released b = true) ∨
          before (go + 8) (s.dev.sck.tick + BitVec.ofNat 24 x.cook + BitVec.ofNat 24 s.dev.sp.config.margin) = true)) ∨
      96 ≤ s.dev.bp.batches.length ∨ (∃ w, s.dev.named? pass num = some w ∧ w.state ≠ .goSet) ∨
      (s.dev.named? pass num = none ∧ 32 ≤ s.dev.wu.waves.length)) →
    exec (.offerFrame h rep) s = .next { s with dev := s.dev.heardFrame h }

/-- The winner of an accepted OFFER adopts the batch: it drives its address and the complement of its two low bits, and
calls the adopted batch on its lowest free lane of the kind, with the next formation sequence, the OFFER's contributors,
times from its own T, M and H against the wave record's go time, and two attempts counted. A wave not held is created
adopted-only with the OFFER's go time and slip count. A qualifier that reads a slot it did not drive drives its address up
to that slot and nothing after it, and is not the taker (R30, R31, R127, R150 to R152). -/
def Obligations.OfferFrameAdopted : Prop :=
  ∀ (s : State) (h : Heard) (rep : OfferReply) (num : Byte) (pass : Addr) (go goW : Tick) (slips : BitVec 2)
    (dish : Byte) (portions : Nat) (cs : List Contrib) (x : Dish) (i : Fin 8) (ref : Nat),
    s.dev.hears h → s.dev.fe.station = .onLine → s.dev.fe.tecCount < 128 → s.dev.fe.recCount < 128 → s.dev.idsOk →
    heardGood h .offer rep (.offer num pass go slips dish portions cs) →
    h.frame.cls = s.dev.strap.cls → s.dev.strap.cls ≠ 0 → s.dev.dish? dish = some x → portions ≤ x.batch →
    (i.val < s.dev.sp.config.laneCount ∧ (s.dev.lane i).state = .idle ∧ (s.dev.lane i).reserved = false ∧
      s.dev.laneKind i = x.kind) →
    (∀ j : Fin 8, j < i → ¬(j.val < s.dev.sp.config.laneCount ∧ (s.dev.lane j).state = .idle ∧
      (s.dev.lane j).reserved = false ∧ s.dev.laneKind j = x.kind)) →
    (∀ b ∈ s.dev.queued, s.dev.kindOf b.dish = some x.kind → s.dev.released b = false) →
    before (go + 8) (s.dev.sck.tick + BitVec.ofNat 24 x.cook + BitVec.ofNat 24 s.dev.sp.config.margin) = false →
    s.dev.bp.batches.length < 96 →
    ((∃ w, s.dev.named? pass num = some w ∧ w.state = .goSet ∧ w.go = some goW ∧ ref = w.ref) ∨
      (s.dev.named? pass num = none ∧ s.dev.wu.waves.length < 32 ∧ goW = go ∧ ref = s.dev.wu.nextRef)) →
    (rep.taker = s.dev.strap.addr →
      ∃ t, exec (.offerFrame h rep) s = .next t ∧ t.pending = s.pending ∧
        ({ s.dev.heardFrame h with fe := { (s.dev.heardFrame h).fe with
            drove := [⟨.takerSlots (bitsOf 6 s.dev.strap.addr.toNat), s.dev.lif.mode.wires⟩,
              ⟨.checkSlots (~~~(s.dev.strap.addr.extractLsb' 0 2)), s.dev.lif.mode.wires⟩] } }).Kept t.dev ∧
        t.dev.ti = s.dev.ti ∧ t.dev.iu = s.dev.iu ∧ t.dev.bp.handed = s.dev.bp.handed ∧
        t.dev.bp.fireQ = s.dev.bp.fireQ.filter (fun b => b ≠ s.dev.bp.nextBid) ∧
        t.dev.bp.counter = s.dev.bp.counter + 1 ∧
        t.dev.bp.batches.map (·.bid) = s.dev.bp.batches.map (·.bid) ++ [s.dev.bp.nextBid] ∧
        (∃ b ∈ t.dev.bp.batches,
          b = { bid := s.dev.bp.nextBid
                seq := s.dev.bp.counter
                wave := ref
                dish := dish
                portions := portions
                contribs := cs
                state := .called
                staged := false
                ls := goW - BitVec.ofNat 24 s.dev.sp.config.margin - BitVec.ofNat 24 x.cook
                rl := goW - BitVec.ofNat 24 s.dev.sp.config.margin - BitVec.ofNat 24 x.cook - BitVec.ofNat 24 x.hold
                lane := some i
                start := none
                due := none
                turn := none
                done := none
                refire := 0
                late := b.late
                attempts := 2
                lastOffer := none
                outcome := none
                offerPending := false
                adopted := true }) ∧
        t.dev.lane i =
          { s.dev.lane i with
            state := .called, current := some s.dev.bp.nextBid, staged := none, reserved := false,
            calledSince := some s.dev.sck.tick, turnTick := none, dueTick := none, flashEnd := none, dueSince := none,
            overdue := .none, ack := false } ∧
        (∀ j : Fin 8, j ≠ i → t.dev.lane j = s.dev.lane j) ∧ t.dev.lu.ring = s.dev.lu.ring ∧
        (s.dev.sp.config.batchGroup = true → s.dev.sp.notices.length < 32 →
          { tick := s.dev.sck.tick
            body := .batchAdopted { pass := pass, num := num } s.dev.bp.counter dish portions h.frame.sender (some i) } ∈
            t.dev.sp.notices) ∧
        (s.dev.named? pass num = none → ∃ y ∈ t.dev.wu.waves,
          y = { ref := ref
                id := some { pass := pass, num := num }
                call := none
                lead := none
                close := none
                state := .goSet
                go := some go
                slips := slips.toNat
                heardFrom := laterOf (s.dev.fe.viewFrom.getD (stampTick h.frame.stamp)) (stampTick h.frame.stamp)
                partialMark := false
                far := false
                participants := []
                own := .absent
                est := y.est
                lines := []
                adoptedOnly := true
                anonymous := false
                pickupPending := false })) ∧
    (rep.taker ≠ s.dev.strap.addr → (∀ w ∈ s.dev.wu.waves, w.state = .goSet → ∀ l ∈ w.lines, l.demand = 0) →
      ∃ slots, exec (.offerFrame h rep) s = .next { s with dev := { s.dev.heardFrame h with
          fe := { (s.dev.heardFrame h).fe with drove := [⟨.takerSlots slots, s.dev.lif.mode.wires⟩] } } } ∧
        slots <+: bitsOf 6 s.dev.strap.addr.toNat ∧ slots ≠ (bitsOf 6 rep.taker.toNat).take slots.length ∧
        slots.dropLast <+: bitsOf 6 rep.taker.toNat)

/-! ### Fates and their placers -/

/-- An accepted READY becomes the wave's own announcement and, by the table of R98, the station's own participant entry. An
accepted own SLIP is applied to its wave as a received one is. A rejected or broken-off one of either kind changes no
record, a wave still to be announced has a READY placed again, and a SLIP whose conditions still hold is placed again.
Each leaves TEC, the capture, the MARK quiet count and the wires as every fate does (R15, R39, R43, R50, R97, R98, R105,
R106). That an own frame counts in the clean-frame comparison is read from R50: log entry 15; that only that wave's own sending
conditions are looked at again: log entry 39. -/
def Obligations.BidFates : Prop :=
  (∀ (s : State) (f : InFlight) (ref : Nat) (w : Wave) (num : Byte) (pass : Addr) (off : BitVec 15) (far wd : Bool)
      (line : Followed),
      s.dev.fe.inFlight = some f → f.entry = .ready ref → f.frame.body = .ready num pass off far wd → f.deferred = none →
      f.gapError = false → s.dev.fe.station = .onLine → s.dev.fe.recCount < 128 → s.dev.idsOk → s.dev.strap.cls ≠ 0 →
      w ∈ s.dev.wu.waves → w.ref = ref → w.anonymous = false → w.id = some { pass := pass, num := num } →
      (s.dev.fe.tecCount < 128 →
        ∃ t, exec (.readyFate .accepted line) s = .next t ∧ t.pending = s.pending ∧
          t.dev = { s.dev.endedFrame .accepted line with
            fe := { (s.dev.endedFrame .accepted line).fe with txq := t.dev.fe.txq }
            wu := { s.dev.wu with waves := s.dev.wu.waves.map (fun x =>
              if x.ref = ref then
                { x with
                  own := if wd then .withdrawn (stampTick f.frame.stamp)
                    else .estimate (stampTick f.frame.stamp + BitVec.ofNat 24 off.toNat) (stampTick f.frame.stamp)
                  participants :=
                    participantsAfter f.frame.sender (stampTick f.frame.stamp) off far wd x }
              else x) } }) ∧
      (∀ fate, fate ≠ .accepted → s.dev.fe.tecCount < 120 →
        ∃ t, exec (.readyFate fate line) s = .next t ∧ t.pending = s.pending ∧
          t.dev = { s.dev.endedFrame fate line with
            fe := { (s.dev.endedFrame fate line).fe with txq := t.dev.fe.txq } } ∧
          (w.state = .opened → w.own = .absent → w.est.isSome = true → .ready ref ∈ t.dev.fe.txq))) ∧
  (∀ (s : State) (f : InFlight) (w : Wave) (num : Byte) (pass : Addr) (off : BitVec 15) (far : Bool)
      (line : Followed) (go : Tick),
      s.dev.fe.inFlight = some f → f.entry = .slip w.ref → f.frame.body = .slip num pass off far → f.deferred = none →
      f.gapError = false → s.dev.fe.station = .onLine → s.dev.fe.recCount < 128 → s.dev.idsOk → s.dev.strap.cls ≠ 0 →
      s.dev.named? pass num = some w → w.state = .goSet →
      go = laterOf (w.go.getD 0) (stampTick f.frame.stamp + BitVec.ofNat 24 off.toNat) →
      (s.dev.fe.tecCount < 128 → before (stampTick f.frame.stamp) (w.go.getD 0 - 16) = true → w.slips < 3 →
        ∃ t, exec (.slipFate .accepted line) s = .next t ∧ t.pending = s.pending ∧
          (s.dev.endedFrame .accepted line).Kept t.dev ∧
          t.dev.wu.waves.map (·.ref) = s.dev.wu.waves.map (·.ref) ∧
          (∀ x ∈ t.dev.wu.waves, ∃ y ∈ s.dev.wu.waves, x =
            if y.ref = w.ref then
              { y with go := some go, slips := y.slips + 1, far := y.far || far, est := x.est }
            else { y with est := x.est }) ∧
          t.dev.ti = s.dev.ti ∧ t.dev.iu = s.dev.iu ∧ t.dev.bp.handed = s.dev.bp.handed) ∧
      (∀ fate, fate ≠ .accepted → s.dev.fe.tecCount < 120 →
        ∃ t, exec (.slipFate fate line) s = .next t ∧ t.pending = s.pending ∧
          t.dev = { s.dev.endedFrame fate line with
            fe := { (s.dev.endedFrame fate line).fe with txq := t.dev.fe.txq } } ∧
          (s.dev.slipHolds w = true → .slip w.ref ∈ t.dev.fe.txq)))

/-- An own OFFER that finds no taker, is rejected or is broken off counts an attempt of its batch, with the last offer time
and the outcome, and clears its offer-pending marker; no lane, ticket or handed record changes. One accepted with a
taker commits: the batch leaves, a handed record takes its contributors, and BATCH_HANDED is queued (R25, R31, R145, R148,
R149). That the sender's own reply-check error counts as rejected is log entry 14, and that an own frame counts in the
clean-frame comparison is log entry 15. -/
def Obligations.OfferFates : Prop :=
  ∀ (s : State) (f : InFlight) (b : Batch) (rep : OfferReply) (line : Followed),
    s.dev.fe.inFlight = some f → f.entry = .offer b.bid → f.frame.body.kind = .offer → f.deferred = none →
    f.gapError = false → s.dev.fe.station = .onLine → s.dev.fe.recCount < 128 → s.dev.fe.tecCount < 128 → s.dev.idsOk →
    b ∈ s.dev.bp.batches → s.dev.strap.cls ≠ 0 →
    (∀ (fate : Fate) (o : OfferOutcome),
      ((fate = .accepted ∧ f.rejectReq = false ∧ rep = noTakerReply ∧ o = .noTaker) ∨
        (fate = .accepted ∧ (f.rejectReq = true ∨ replyCheckError rep = true ∨ rep.fault = true) ∧ o = .rejected) ∨
        (fate = .rejected ∧ o = .rejected) ∨ (fate = .brokenOff ∧ o = .brokenOff)) →
      ∃ t, exec (.offerFate fate rep line) s = .next t ∧ t.pending = s.pending ∧
        t.dev.lu = s.dev.lu ∧ t.dev.ti = s.dev.ti ∧ t.dev.iu = s.dev.iu ∧ t.dev.bp.handed = s.dev.bp.handed ∧
        t.dev.bp.fireQ = s.dev.bp.fireQ ∧ t.dev.sck.tick = s.dev.sck.tick ∧
        t.dev.bp.batches.map (·.bid) = s.dev.bp.batches.map (·.bid) ∧
        ∀ x ∈ t.dev.bp.batches, ∃ y ∈ s.dev.bp.batches,
          (y.bid ≠ b.bid → x = { y with late := x.late, offerPending := x.offerPending }) ∧
          (y.bid = b.bid → x = { y with
            attempts := min 2 (y.attempts + 1), lastOffer := some s.dev.sck.tick, outcome := some o,
            offerPending := false, late := x.late })) ∧
    (f.rejectReq = false → rep.taker ≠ 63 → replyCheckError rep = false → rep.fault = false → b.state = .formed ∨ b.state = .called →
      (∃ x ∈ s.dev.bp.batches, x.wave = b.wave ∧ x.bid ≠ b.bid) →
      ∃ t, exec (.offerFate .accepted rep line) s = .next t ∧ t.pending = s.pending ∧
        (s.dev.endedFrame .accepted line).Kept t.dev ∧ (∀ x ∈ t.dev.bp.batches, x.bid ≠ b.bid) ∧
        t.dev.bp.handed = s.dev.bp.handed ++
          [{ wave := b.wave, dish := b.dish, taker := rep.taker, seq := b.seq, handedAt := s.dev.sck.tick,
             contribs := b.contribs }] ∧
        ((∀ w ∈ s.dev.wu.waves, w.state = .goSet → ∀ l ∈ w.lines, l.demand = 0) →
          (∀ x ∈ s.dev.queued, s.dev.released x = false) →
          (s.dev.sp.config.batchGroup = true → s.dev.sp.notices.length < 32 →
            { tick := s.dev.sck.tick
              body := .batchHanded (s.dev.waveIdOf b.wave) b.seq b.dish b.portions rep.taker } ∈ t.dev.sp.notices) ∧
          (∀ i : Fin 8, b.state = .called → b.lane = some i →
            (t.dev.lane i).state = .idle ∧ (t.dev.lane i).current = none ∧
            (t.dev.lane i).overdue = .none)))

/-- The fate of an issue frame. Accepted, a TICKET's record becomes issued with the SHORT reading kept and noticed, a
VOID's record leaves, a PICKUP retires its wave with its issue records, and the head leaves. Failed, the head's failure
count rises and it is placed again; at the eighth failure it leaves with ISSUE_FAILED, a TICKET with its record and a
waiting VOID of its serial, a VOID or PICKUP with its pending marker cleared. A violation read in the SHORT slot makes an
accepted TICKET rejected (R25, R29, R42, R163 to R165). The frame of an abandoned wave changes no record and queues no
notice whatever its fate, and its entry leaves (R166). -/
def Obligations.IssueFates : Prop :=
  (∀ (s : State) (f : InFlight) (e : IssueEntry) (rest : List IssueEntry) (fate final : Fate) (rep : OfferReply)
    (short : Slot) (line : Followed),
    s.dev.fe.inFlight = some f → f.entry = .issue → f.frame.body.kind = e.kind.kind → f.deferred = none →
    f.gapError = false →
    final = (if fate = .accepted ∧ e.kind = .ticket ∧ short.read .shared = .violation then .rejected else fate) →
    s.dev.fe.station = .onLine → s.dev.fe.tecCount < 120 → s.dev.fe.recCount < 128 →
    s.dev.iu.queue = e :: rest → e.orphan = none →
    ∃ t, exec (fateCommand e.kind.kind fate rep short line) s = .next t ∧ t.pending = s.pending ∧
      t.dev.lu = s.dev.lu ∧ t.dev.strap = s.dev.strap ∧ t.dev.sck.tick = s.dev.sck.tick ∧
      t.dev.bp.batches = s.dev.bp.batches ∧ t.dev.ti.tickets.Sublist s.dev.ti.tickets ∧
      (t.dev.iu.queue ≠ [] → .issue ∈ t.dev.fe.txq) ∧
      (final = .accepted → e.kind = .ticket → t.dev.iu.queue = rest ∧ t.dev.wu = s.dev.wu ∧
        t.dev.ti.issues = s.dev.ti.issues.map (fun r =>
          if r.serial = e.serial then { r with issued := true, short := r.short || short.read .shared == .zero } else r) ∧
        t.dev.sp = if short.read .shared = .zero then
            s.dev.sp.queueNotice s.dev.sck.tick (.ticketShort s.dev.strap.addr e.serial e.num .shortRead false)
          else s.dev.sp) ∧
      (final = .accepted → e.kind = .void → t.dev.iu.queue = rest ∧ t.dev.wu = s.dev.wu ∧ t.dev.sp = s.dev.sp ∧
        t.dev.ti.issues = s.dev.ti.issues.filter (fun r => r.serial ≠ e.serial)) ∧
      (final = .accepted → e.kind = .pickup → t.dev.iu.queue = rest ∧ t.dev.sp = s.dev.sp ∧
        ∀ w, s.dev.named? s.dev.strap.addr e.num = some w →
          t.dev.wu.waves = s.dev.wu.waves.filter (fun x => x.ref ≠ w.ref) ∧
          t.dev.ti.issues = s.dev.ti.issues.filter (fun r => r.wave ≠ w.ref)) ∧
      (final ≠ .accepted → e.fails < 7 → t.dev.iu.queue = { e with fails := e.fails + 1 } :: rest ∧
        t.dev.wu = s.dev.wu ∧ t.dev.ti = s.dev.ti ∧ t.dev.sp = s.dev.sp) ∧
      (final ≠ .accepted → e.fails = 7 →
        t.dev.sp = s.dev.sp.queueNotice s.dev.sck.tick
          (.issueFailed e.kind e.num (if e.kind = .pickup then 0 else e.serial)) ∧
        (e.kind = .ticket → t.dev.wu = s.dev.wu ∧
          t.dev.iu.queue = rest.filter (fun x => ¬(x.kind = .void ∧ x.serial = e.serial)) ∧
          t.dev.ti.issues = s.dev.ti.issues.filter (fun r => r.serial ≠ e.serial)) ∧
        (e.kind = .void → t.dev.wu = s.dev.wu ∧ t.dev.iu.queue = rest ∧
          t.dev.ti.issues = s.dev.ti.issues.map (fun r =>
            if r.serial = e.serial then { r with voidPending := false } else r)) ∧
        (e.kind = .pickup → t.dev.iu.queue = rest ∧ t.dev.ti = s.dev.ti ∧
          ∀ w, s.dev.named? s.dev.strap.addr e.num = some w →
            t.dev.wu.waves = s.dev.wu.waves.map (fun x =>
              if x.ref = w.ref then { x with pickupPending := false } else x)))) ∧
  (∀ (s : State) (f : InFlight) (e : IssueEntry) (rest : List IssueEntry) (b : Body) (fate : Fate) (rep : OfferReply)
    (short : Slot) (line : Followed),
    s.dev.fe.inFlight = some f → f.entry = .issue → f.frame.body.kind = e.kind.kind → f.deferred = none →
    s.dev.fe.station = .onLine → s.dev.fe.tecCount < 120 → s.dev.fe.recCount < 128 →
    s.dev.iu.queue = e :: rest → e.orphan = some b →
    ∃ t, exec (fateCommand e.kind.kind fate rep short line) s = .next t ∧ t.pending = s.pending ∧
      t.dev.iu.queue = rest ∧ t.dev.wu = s.dev.wu ∧ t.dev.ti = s.dev.ti ∧ t.dev.sp = s.dev.sp ∧ t.dev.lu = s.dev.lu ∧
      t.dev.bp = s.dev.bp ∧ (rest ≠ [] → .issue ∈ t.dev.fe.txq))

/-! ### Line modes -/

/-- What each line mode receives with and drives on (R48), and the moves of the modes with no frame in hand: a wire fails in
DUAL, the return to DUAL after 64 clean frames, DOWN by a stuck line or by the second wire, and a valid frame that ends
DOWN. Each leaves the mode, the wires and the counts the rule gives and queues LINE_MODE with its cause; DOWN marks the
open waves partial. A failover in a frame makes it bad for a receiver, and is an own bit error in that slot for its
sender, whose reject break goes on the good wire alone (R42, R49 to R55). The wires after STUCK_DOMINANT, the counts a row
leaves, and that a failover under a contender is an own bit error too, are the model's: log entries 10, 17 and 51. -/
def Obligations.LineModes : Prop :=
  (LineMode.dual.path = some .differential ∧ LineMode.aOnly.path = some (.single .a) ∧
    LineMode.bOnly.path = some (.single .b) ∧ LineMode.down.path = none ∧
    LineMode.dual.wires = [.a, .b] ∧ LineMode.aOnly.wires = [.a] ∧ LineMode.bOnly.wires = [.b] ∧
    LineMode.down.wires = [] ∧
    ∀ (d : Device) (a : LineAct), (d.drive a).fe.drove = d.fe.drove ++ [⟨a, d.lif.mode.wires⟩]) ∧
  (∀ (s : State) (w : Wire) (failure : Failure), s.dev.fe.station ≠ .standby → s.dev.lif.mode = .dual →
    (∀ r, s.dev.fe.inFlight = none → s.dev.fe.rx = some r → r.taker = .notTaker →
      ∃ t, exec (.wireFailed w failure) s = .next t ∧ t.dev.lif.mode = (if w = .a then .bOnly else .aOnly) ∧
        t.dev.fe = { s.dev.fe with drove := [], rx := some { r with bad := true } }) ∧
    (∀ f, s.dev.fe.inFlight = some f → failure.inGap = true →
      ∃ t, exec (.wireFailed w failure) s = .next t ∧ t.dev.lif.mode = (if w = .a then .bOnly else .aOnly) ∧
        t.dev.fe = { s.dev.fe with inFlight := some { f with gapError := true } }) ∧
    (∀ f, s.dev.fe.inFlight = some f → failure.inGap = false → f.deferred = none → s.dev.fe.station = .onLine →
      ∃ t, exec (.wireFailed w failure) s = .next t ∧ t.dev.lif.mode = (if w = .a then .bOnly else .aOnly) ∧
        t.dev.fe.inFlight = none ∧ t.dev.fe.tecCount = s.dev.fe.tecCount + 8 ∧
        t.dev.fe.drove = [⟨.rejectBreak, if w = .a then [.b] else [.a]⟩])) ∧
  ∀ (s : State) (other : Fin 2), s.dev.fe.station ≠ .standby → s.dev.fe.inFlight = none → s.dev.fe.rx = none →
    (∀ (w : Wire) (inGap : Bool), s.dev.lif.mode = .dual →
      exec (.wireFailed w ⟨other, inGap⟩) s = .next { s with dev := { s.dev with
        lif :=
          { mode := if w = .a then .bOnly else .aOnly
            wireA := if w = .a then .failed else s.dev.lif.wireA
            wireB := if w = .b then .failed else s.dev.lif.wireB
            silenceA := if w = .a then 16 else other.val
            silenceB := if w = .b then 16 else other.val
            cleanCount := 0 }
        fe := { s.dev.fe with drove := [] }
        sp := s.dev.sp.queueNotice s.dev.sck.tick
          (.lineMode .dual (if w = .a then .bOnly else .aOnly) (if w = .a then .wireAFailed else .wireBFailed)) } }) ∧
    ((s.dev.lif.mode = .aOnly ∨ s.dev.lif.mode = .bOnly) → s.dev.sp.config.lock = .auto → s.dev.lif.cleanCount = 64 →
      exec .lineReturn s = .next { s with dev := { s.dev with
        lif := { s.dev.lif with mode := .dual, wireA := .good, wireB := .good, cleanCount := 0 }
        sp := s.dev.sp.queueNotice s.dev.sck.tick (.lineMode s.dev.lif.mode .dual .lineReturn) } }) ∧
    (∀ cause : DownCause, s.dev.lif.mode ≠ .down →
      (cause = .bothFailed → s.dev.lif.mode = .aOnly ∨ s.dev.lif.mode = .bOnly) →
      exec (.lineDown cause other) s = .next { s with dev := { s.dev with
        lif :=
          if cause = .stuckDominant then { s.dev.lif with mode := .down, silenceA := 16, silenceB := 16 }
          else
            { s.dev.lif with
              mode := .down
              wireA := .failed
              wireB := .failed
              silenceA := if s.dev.lif.mode = .aOnly then 16 else other.val
              silenceB := if s.dev.lif.mode = .bOnly then 16 else other.val }
        fe := { s.dev.fe with drove := [], idleCount := 0 }
        wu := if s.dev.fe.station = .listen then s.dev.wu
          else { s.dev.wu with waves := s.dev.wu.waves.map (fun x =>
            if x.state = .opened ∨ x.state = .settling then { x with partialMark := true } else x) }
        sp := s.dev.sp.queueNotice s.dev.sck.tick
          (.lineMode s.dev.lif.mode .down
            (if cause = .stuckDominant then .stuckDominant else .bothFailed)) } }) ∧
    (∀ (w : Wire) (beside : Fin 17), s.dev.lif.mode = .down →
      (s.dev.sp.config.lock = .auto ∨ (s.dev.sp.config.lock = .aOnly ∧ w = .a) ∨
        (s.dev.sp.config.lock = .bOnly ∧ w = .b)) →
      exec (.frameSeen ⟨w, beside⟩) s = .next { s with dev := { s.dev with
        lif := { s.dev.lif with
          mode := if w = .a then .aOnly else .bOnly
          wireA := if w = .a then .good else s.dev.lif.wireA
          wireB := if w = .b then .good else s.dev.lif.wireB
          silenceA := if w = .a then 7 else beside.val
          silenceB := if w = .b then 7 else beside.val
          cleanCount := 0 }
        fe := { s.dev.fe with idleCount := 7 }
        sp := s.dev.sp.queueNotice s.dev.sck.tick
          (.lineMode .down (if w = .a then .aOnly else .bOnly) .frameSeen) } })

/-! ### Waves by the clock -/

/-- The estimate of a wave. On each lane kind its own work is the batches its demand would need and its FORMED and CALLED
batches, each at its cook time; ahead of it lie the other waves' live batches not yet done and the demand of the waves
called earlier or already SET; the kind's lead is the rounded share of the L lanes plus the longest single cook, kept in
24 bits and at most 32,767. The estimate is now, the longest lead and the margin, absent without work and saturated where
a kind with work is (R91 to R94). An evaluation leaves each OPEN and SET record with it, and no other with any (R90). -/
def Obligations.EstimateRule : Prop :=
  (∀ (d : Device) (w : Wave) (k own ahead longest lanes : Nat) (cooks : List Nat),
    own = ((w.lines.filterMap (fun l => (d.dish? l.dish).bind (fun x =>
        if x.kind = k ∧ 0 < l.demand then some ((l.demand + x.batch - 1) / x.batch * x.cook) else none))).sum +
      ((d.bp.batches.filter (fun b => b.wave = w.ref ∧ (b.state = .formed ∨ b.state = .called) ∧
        d.kindOf b.dish = some k)).map (fun b => d.cookOf b.dish)).sum) →
    cooks = (w.lines.filterMap (fun l => (d.dish? l.dish).bind (fun x =>
        if x.kind = k ∧ 0 < l.demand then some x.cook else none))) ++
      (d.bp.batches.filter (fun b => b.wave = w.ref ∧ (b.state = .formed ∨ b.state = .called) ∧
        d.kindOf b.dish = some k)).map (fun b => d.cookOf b.dish) →
    longest ∈ cooks → (∀ c ∈ cooks, c ≤ longest) →
    ahead = ((d.bp.batches.filter (fun b => b.wave ≠ w.ref ∧ d.kindOf b.dish = some k)).map (fun b =>
        match b.state with
        | .formed => d.cookOf b.dish
        | .called => d.cookOf b.dish
        | .cooking => (b.due.getD d.sck.tick - d.sck.tick).toInt.toNat
        | .due => 0
        | .holding => 0)).sum +
      ((d.wu.waves.filter (fun x => x.ref ≠ w.ref ∧ (x.state = .goSet ∨ (x.state = .opened ∨ x.state = .settling) ∧
          ∃ c ∈ w.call, ∃ y ∈ x.call, before y c = true ∨ y = c ∧
            (x.noticeId.pass.toNat < w.noticeId.pass.toNat ∨ x.noticeId.pass = w.noticeId.pass ∧
              x.noticeId.num.toNat < w.noticeId.num.toNat)))).map (fun x =>
        (x.lines.filterMap (fun l => (d.dish? l.dish).bind (fun y =>
          if y.kind = k ∧ 0 < l.demand then some ((l.demand + y.batch - 1) / y.batch * y.cook) else none))).sum)).sum →
    lanes = ((List.finRange 8).filter (fun i => i.val < d.sp.config.laneCount ∧ d.laneKind i = k)).length → 1 ≤ lanes →
    0 < own →
    ∃ lead, d.kindLead w k = some lead ∧
      (ahead + own ≤ 16777215 →
        lead.val = min 32767 ((ahead + own - longest + lanes - 1) / lanes + longest) ∧
        (lead.sat = true ↔ 16777215 < ahead + own - longest + lanes - 1 ∨
          32767 < (ahead + own - longest + lanes - 1) / lanes + longest)) ∧
      (16777215 < ahead + own → lead.sat = true ∧ lead.val = 32767)) ∧
  (∀ (d : Device) (w : Wave) (k : Nat),
    (∀ l ∈ w.lines, ∀ x, d.dish? l.dish = some x → x.kind = k → l.demand = 0) →
    (∀ b ∈ d.bp.batches, b.wave = w.ref → d.kindOf b.dish = some k → b.state ≠ .formed ∧ b.state ≠ .called) →
    d.kindLead w k = none) ∧
  (∀ (d : Device) (w : Wave),
    (d.estimate w = none ↔ ∀ k < 4, d.kindLead w k = none) ∧
    ∀ e, d.estimate w = some e →
      (∃ k < 4, ∃ x, d.kindLead w k = some x ∧
        e.tick = d.sck.tick + BitVec.ofNat 24 x.val + BitVec.ofNat 24 d.sp.config.margin ∧
        ∀ j < 4, ∀ y, d.kindLead w j = some y → y.val ≤ x.val) ∧
      (e.saturated = true ↔ ∃ k < 4, ∃ x, d.kindLead w k = some x ∧ x.sat = true)) ∧
  (∀ d : Device, d.isPass = false → d.evaluate.wu.waves = d.wu.waves.map (fun w =>
    { w with est := if w.state = .opened ∨ w.state = .goSet then d.estimate w else none }))

/-- At its close an OPEN wave enters SETTLING, drops its estimate and its waiting READY. At close plus 4 a SETTLING wave of a
pass enters SET: its go time is the latest of the call time and the estimates of the participants whose stamp lies in
the 64 ticks before the close, its slip count is 0, its partial and far markers are set as they were found, and WAVE_SET
is queued, with WAVE_PARTIAL and its cause and WAVE_FAR. On a cooking station its demand is placed in batches of the go
time, full but for the last of each dish; a wave without work is retired there (R86, R99 to R102, R111, R114). -/
def Obligations.WaveCloseSettles : Prop :=
  ∀ (s : State) (pass : Addr) (num : Byte) (w : Wave), s.dev.idsOk → s.dev.named? pass num = some w →
    (w.state = .opened → w.close = some s.dev.sck.tick →
      ∃ t, exec (.waveClose pass num) s = .next t ∧ t.pending = s.pending ∧ s.dev.Kept t.dev ∧
        t.dev.ti = s.dev.ti ∧ t.dev.lu = s.dev.lu ∧ t.dev.iu = s.dev.iu ∧ .ready w.ref ∉ t.dev.fe.txq ∧
        t.dev.wu.waves.map (·.ref) = s.dev.wu.waves.map (·.ref) ∧
        ∀ x ∈ t.dev.wu.waves, ∃ y ∈ s.dev.wu.waves, x =
          if y.ref = w.ref then { y with state := .settling, est := none } else { y with est := x.est }) ∧
    (∀ (counted : List Participant) (go close : Tick), w.state = .settling → w.close = some close →
      close + 4 = s.dev.sck.tick →
      counted = w.participants.filter (fun p =>
        !before p.stamp (close - 64) && before p.stamp close) →
      go = counted.foldl (fun g p => if before g p.estimate then p.estimate else g) (w.call.getD 0) →
      ∃ t, exec (.waveSettle pass num) s = .next t ∧ t.pending = s.pending ∧ s.dev.Kept t.dev ∧
        (∀ x ∈ t.dev.wu.waves, x.ref = w.ref → x.state = .goSet ∧ x.go = some go ∧ x.slips = 0 ∧
          x.partialMark = (w.partialMark || before (close - 64) w.heardFrom) ∧
          x.far = (w.far || counted.any (·.far)) ∧ x.participants = w.participants) ∧
        (s.dev.sp.config.waveGroup = true → s.dev.sp.notices.length < 30 →
          { tick := s.dev.sck.tick, body := .waveSet w.noticeId go counted.length } ∈ t.dev.sp.notices ∧
          (w.partialMark = true → before (close - 64) w.heardFrom = false →
            { tick := s.dev.sck.tick, body := .wavePartial w.noticeId .link } ∈ t.dev.sp.notices) ∧
          (w.partialMark = false → before (close - 64) w.heardFrom = true →
            { tick := s.dev.sck.tick, body := .wavePartial w.noticeId .heardFrom } ∈ t.dev.sp.notices) ∧
          (w.partialMark = true → before (close - 64) w.heardFrom = true →
            { tick := s.dev.sck.tick, body := .wavePartial w.noticeId .both } ∈ t.dev.sp.notices) ∧
          (∀ p, counted.find? (·.far) = some p →
            { tick := s.dev.sck.tick, body := .waveFar w.noticeId p.addr } ∈ t.dev.sp.notices)) ∧
        (s.dev.strap.cls = 0 →
          t.dev.wu.waves.map (·.ref) = s.dev.wu.waves.map (·.ref) ∧ t.dev.ti = s.dev.ti ∧ t.dev.iu = s.dev.iu ∧
          t.dev.bp = s.dev.bp ∧ t.dev.lu = s.dev.lu ∧ t.dev.fe = s.dev.fe) ∧
        (s.dev.strap.cls ≠ 0 → (∀ b ∈ s.dev.bp.batches, b.wave ≠ w.ref) → (w.lines.map (·.dish)).Nodup →
          (∀ l ∈ w.lines, 1 ≤ s.dev.sizeOf l.dish ∧ l.demand = unbatchedOf w.ref l.dish s.dev.ti.tickets) →
          ((w.lines.map (fun l => (l.demand + s.dev.sizeOf l.dish - 1) / s.dev.sizeOf l.dish)).sum +
            s.dev.bp.batches.length + s.dev.heldBack ≤ 96) →
          (∀ l ∈ w.lines,
            ((t.dev.bp.batches.filter (fun b => b.wave = w.ref ∧ b.dish = l.dish)).map (·.portions)).sum = l.demand ∧
            (t.dev.bp.batches.filter (fun b => b.wave = w.ref ∧ b.dish = l.dish)).length =
              (l.demand + s.dev.sizeOf l.dish - 1) / s.dev.sizeOf l.dish ∧
            (0 < l.demand → unbatchedOf w.ref l.dish t.dev.ti.tickets = 0)) ∧
          (∀ b ∈ t.dev.bp.batches, b.wave = w.ref → (b.state = .formed ∨ b.state = .called) ∧
            1 ≤ b.portions ∧ b.portions ≤ s.dev.sizeOf b.dish ∧ b.portions = portionsOf b.contribs ∧
            b.ls = go - BitVec.ofNat 24 s.dev.sp.config.margin - BitVec.ofNat 24 (s.dev.cookOf b.dish) ∧
            b.rl = b.ls - BitVec.ofNat 24 (s.dev.holdOf b.dish)) ∧
          ((∀ l ∈ w.lines, l.demand = 0) → ∀ x ∈ t.dev.wu.waves, x.ref ≠ w.ref) ∧
          ((∃ l ∈ w.lines, 0 < l.demand) →
            ∃ x ∈ t.dev.wu.waves, x.ref = w.ref ∧ ∀ l ∈ x.lines, l.demand = 0)))

/-- A SET wave whose go time plus 28,800 own clock reaches is abandoned with WAVE_ABANDONED: on a cooking station as at
pickup, gone where nothing is on the heat and AWAY where something is; on a pass gone with its issue records and its
waiting issue entries, but for the one whose frame is in flight, which stays for its fate (R87, R166). -/
def Obligations.WaveAbandons : Prop :=
  ∀ (s : State) (pass : Addr) (num : Byte) (w : Wave), s.dev.idsOk → s.dev.named? pass num = some w →
    w.state = .goSet → w.go = some (s.dev.sck.tick - 28800) →
    (s.dev.strap.cls ≠ 0 →
      ∃ t, exec (.waveAbandon pass num) s = .next t ∧ t.pending = s.pending ∧ s.dev.Kept t.dev ∧
        (s.dev.sp.config.waveGroup = true → s.dev.sp.notices.length < 32 →
          { tick := s.dev.sck.tick
            body := .waveAbandoned w.noticeId (s.dev.bp.batches.filter (fun b => b.wave = w.ref)).length } ∈
            t.dev.sp.notices) ∧
        (∀ r ∈ t.dev.bp.handed, r.wave ≠ w.ref) ∧
        (∀ b ∈ t.dev.bp.batches, b.wave = w.ref → b.state = .cooking ∨ b.state = .due) ∧
        ((∀ b ∈ s.dev.bp.batches, b.wave = w.ref → b.state ≠ .cooking ∧ b.state ≠ .due) →
          t.dev.wu.waves.map (·.ref) = (s.dev.wu.waves.map (·.ref)).filter (fun r => r ≠ w.ref) ∧
          ∀ x ∈ t.dev.ti.tickets, x.wave ≠ w.ref) ∧
        ((∃ b ∈ s.dev.bp.batches, b.wave = w.ref ∧ (b.state = .cooking ∨ b.state = .due)) →
          t.dev.wu.waves.map (·.ref) = s.dev.wu.waves.map (·.ref) ∧
          ∀ x ∈ t.dev.wu.waves, x.ref = w.ref → x.state = .away)) ∧
    (s.dev.strap.cls = 0 → s.dev.fe.inFlight = none → (∀ e ∈ s.dev.iu.queue, e.orphan = none) →
      ∃ t, exec (.passWaveAbandon pass num) s = .next t ∧ t.pending = s.pending ∧ s.dev.Kept t.dev ∧
        t.dev.lu = s.dev.lu ∧ t.dev.bp.batches = s.dev.bp.batches ∧
        t.dev.wu.waves = s.dev.wu.waves.filter (fun x => x.ref ≠ w.ref) ∧
        t.dev.ti.issues = s.dev.ti.issues.filter (fun r => r.wave ≠ w.ref) ∧
        t.dev.iu.queue = s.dev.iu.queue.filter (fun e => e.num ≠ w.noticeId.num) ∧
        (t.dev.iu.queue ≠ [] → .issue ∈ t.dev.fe.txq) ∧
        t.dev.sp = s.dev.sp.queueNotice s.dev.sck.tick
          (.waveAbandoned w.noticeId (s.dev.ti.issues.filter (fun r => r.wave = w.ref)).length)) ∧
    (∀ (f : InFlight) (e : IssueEntry) (rest : List IssueEntry), s.dev.strap.cls = 0 →
      s.dev.fe.inFlight = some f → f.entry = .issue → s.dev.iu.queue = e :: rest → e.num = w.noticeId.num →
      e.orphan = none →
      ∃ t, exec (.passWaveAbandon pass num) s = .next t ∧ t.pending = s.pending ∧ s.dev.Kept t.dev ∧
        t.dev.fe.inFlight = some f ∧
        t.dev.wu.waves = s.dev.wu.waves.filter (fun x => x.ref ≠ w.ref) ∧
        t.dev.ti.issues = s.dev.ti.issues.filter (fun r => r.wave ≠ w.ref) ∧
        t.dev.iu.queue =
          { e with orphan := some f.frame.body } :: rest.filter (fun x => x.num ≠ w.noticeId.num))

/-! ### Batches -/

/-- Formation's third stage: while portions of the dish are unbatched and records are free, batches are created one at a time
at the end of the pool, each FORMED with the next formation sequence, the smaller of B and the portions left, one
contributor entry per draw, and the latest start and release of the wave's go time; the portions drawn leave the items'
unbatched counts and no other dish's. Its first stage: the batches with spares of the wave and dish, HOLDING before DUE
before COOKING, each by its done or due and then by formation, take as many unbatched portions as they have spares, one
after the other. Its second: the FORMED batches with room, the newest first, are filled up to B (R82, R109, R111 to
R115). Formed earlier is the relation of R109: log entry 32. -/
def Obligations.FormationCreates : Prop :=
  (∀ (ref : Nat) (dish : Byte) (n : Nat) (ts : List Ticket),
    portionsOf (drawTickets ref dish n ts).2 = min n (unbatchedOf ref dish ts) ∧
    unbatchedOf ref dish (drawTickets ref dish n ts).1 = unbatchedOf ref dish ts - n ∧
    (∀ r c, r ≠ ref ∨ c ≠ dish → unbatchedOf r c (drawTickets ref dish n ts).1 = unbatchedOf r c ts) ∧
    ((drawTickets ref dish n ts).2.map (·.serial)).Sublist ((ts.filter (fun t => t.wave = ref)).map (·.serial)) ∧
    (∀ c ∈ (drawTickets ref dish n ts).2, 1 ≤ c.portions)) ∧
  (∀ (d : Device) (ref : Nat) (dish : Byte) (free size : Nat) (go : Tick),
    1 ≤ size → size = d.sizeOf dish → go = d.goOf ref →
    ∃ new : List Batch,
      (d.createBatches ref dish free).bp.batches = d.bp.batches ++ new ∧
      new.length = min free ((unbatchedOf ref dish d.ti.tickets + size - 1) / size) ∧
      (new.map (·.portions)).sum = min (free * size) (unbatchedOf ref dish d.ti.tickets) ∧
      unbatchedOf ref dish (d.createBatches ref dish free).ti.tickets =
        unbatchedOf ref dish d.ti.tickets - free * size ∧
      (d.createBatches ref dish free).bp.counter = d.bp.counter + BitVec.ofNat 16 new.length ∧
      (∀ (k : Nat) (b : Batch), new[k]? = some b →
        b.bid = d.bp.nextBid + k ∧ b.seq = d.bp.counter + BitVec.ofNat 16 k ∧ b.wave = ref ∧ b.dish = dish ∧
        b.state = .formed ∧ b.staged = false ∧ b.lane = none ∧ b.refire = 0 ∧ b.attempts = 0 ∧ b.late = false ∧
        b.adopted = false ∧ b.offerPending = false ∧
        b.portions = min size (unbatchedOf ref dish d.ti.tickets - k * size) ∧ b.portions = portionsOf b.contribs ∧
        b.ls = go - BitVec.ofNat 24 d.sp.config.margin - BitVec.ofNat 24 (d.cookOf dish) ∧
        b.rl = b.ls - BitVec.ofNat 24 (d.holdOf dish))) ∧
  (∀ (d : Device) (ref : Nat) (dish : Byte), d.idsOk →
    (((d.ti.tickets.filter (fun t => t.wave = ref)).map (·.serial)).Nodup) →
    (∀ b, b ∈ d.claimable ref dish ↔ b ∈ d.bp.batches ∧ b.wave = ref ∧ b.dish = dish ∧ b.adopted = false ∧
      portionsOf b.contribs < b.portions ∧ (b.state = .holding ∨ b.state = .due ∨ b.state = .cooking)) ∧
    (∀ (k : Nat) (b c : Batch), (d.claimable ref dish)[k]? = some b → (d.claimable ref dish)[k + 1]? = some c →
      (c.state = .holding → b.state = .holding ∧ before (c.done.getD 0) (b.done.getD 0) = false ∧
        (b.done.getD 0 = c.done.getD 0 → formedEarlier c.seq b.seq = false)) ∧
      (c.state = .due → b.state ≠ .cooking) ∧
      (c.state = b.state → b.state ≠ .holding → before (c.due.getD 0) (b.due.getD 0) = false ∧
        (b.due.getD 0 = c.due.getD 0 → formedEarlier c.seq b.seq = false))) ∧
    ((∀ b ∈ d.claimable ref dish, (b.contribs.map (·.serial)).Nodup ∧
        b.contribs.length + (d.ti.tickets.filter (fun t => t.wave = ref)).length ≤ 16) →
      unbatchedOf ref dish (d.claimSpares ref dish).ti.tickets =
        unbatchedOf ref dish d.ti.tickets - ((d.claimable ref dish).map Batch.spare).sum ∧
      ∀ (k : Nat) (b : Batch), (d.claimable ref dish)[k]? = some b →
        ∃ x ∈ (d.claimSpares ref dish).bp.batches, x = { b with contribs := x.contribs } ∧
          portionsOf x.contribs = portionsOf b.contribs +
            min b.spare (unbatchedOf ref dish d.ti.tickets - (((d.claimable ref dish).take k).map Batch.spare).sum)) ∧
    (∀ b, b ∈ d.fillable ref dish ↔ b ∈ d.bp.batches ∧ b.wave = ref ∧ b.dish = dish ∧ b.state = .formed ∧
      b.adopted = false ∧ b.portions < d.sizeOf dish ∧ ∀ f, d.fe.inFlight = some f → f.entry ≠ .offer b.bid) ∧
    (∀ (k : Nat) (b c : Batch), (d.fillable ref dish)[k]? = some b → (d.fillable ref dish)[k + 1]? = some c →
      formedEarlier b.seq c.seq = false) ∧
    unbatchedOf ref dish (d.fillFormed ref dish).ti.tickets =
      unbatchedOf ref dish d.ti.tickets - ((d.fillable ref dish).map (fun b => d.sizeOf dish - b.portions)).sum ∧
    ∀ (k : Nat) (b : Batch), (d.fillable ref dish)[k]? = some b →
      ∃ x ∈ (d.fillFormed ref dish).bp.batches, x = { b with portions := x.portions, contribs := x.contribs } ∧
        x.portions = b.portions + min (d.sizeOf dish - b.portions)
          (unbatchedOf ref dish d.ti.tickets -
            (((d.fillable ref dish).take k).map (fun y => d.sizeOf dish - y.portions)).sum) ∧
        ((b.contribs.map (·.serial)).Nodup →
          portionsOf x.contribs + b.portions = portionsOf b.contribs + x.portions))

/-- When a queued batch is released and one lane of its kind is free, the batch is called there: the first released batch of
the kind in the fire queue leaves the queue, becomes CALLED with the lane, the call begins with own clock, and
BATCH_CALLED is queued (R111, R117, R127). -/
def Obligations.BatchReleasedCalled : Prop :=
  ∀ (s : State) (b : Batch) (i : Fin 8) (pre post : List Nat),
    s.dev.idsOk → b ∈ s.dev.bp.batches → s.dev.bp.fireQ = pre ++ b.bid :: post → atOrAfter s.dev.sck.tick b.rl = true →
    (∀ f, s.dev.fe.inFlight = some f → f.entry ≠ .offer b.bid) →
    (i.val < s.dev.sp.config.laneCount ∧ (s.dev.lane i).state = .idle ∧ (s.dev.lane i).reserved = false) →
    s.dev.kindOf b.dish = some (s.dev.laneKind i) →
    (∀ x ∈ s.dev.bp.batches, x.bid ∈ pre → s.dev.kindOf x.dish = s.dev.kindOf b.dish →
      atOrAfter s.dev.sck.tick x.rl = false) →
    (∀ j : Fin 8, j ≠ i → ¬(j.val < s.dev.sp.config.laneCount ∧ (s.dev.lane j).state = .idle ∧
      (s.dev.lane j).reserved = false)) →
    ∃ t, exec (.batchReleased b.seq) s = .next t ∧ t.pending = s.pending ∧ s.dev.Kept t.dev ∧
      t.dev.ti = s.dev.ti ∧ t.dev.iu = s.dev.iu ∧ t.dev.bp.handed = s.dev.bp.handed ∧
      t.dev.bp.fireQ = s.dev.bp.fireQ.filter (fun k => k ≠ b.bid) ∧
      (∃ x ∈ t.dev.bp.batches, x =
        { b with state := .called, staged := false, lane := some i, late := x.late, offerPending := x.offerPending }) ∧
      t.dev.lane i =
        { s.dev.lane i with
          state := .called, current := some b.bid, staged := none, reserved := false,
          calledSince := some s.dev.sck.tick, turnTick := none, dueTick := none, flashEnd := none, dueSince := none,
          overdue := .none, ack := false } ∧
      (∀ j : Fin 8, j ≠ i → t.dev.lane j = s.dev.lane j) ∧
      (s.dev.sp.config.batchGroup = true → s.dev.sp.notices.length < 32 →
        { tick := s.dev.sck.tick, body := .batchCalled (s.dev.waveIdOf b.wave) b.seq i b.dish } ∈ t.dev.sp.notices)

/-- An evaluation on an ON_LINE cooking station with no OFFER waiting or in flight and fewer than 16 handed records places an
OFFER for the candidate most behind: FORMED or CALLED in a SET wave, own clock past its latest start plus the threshold,
not staged, fewer than 2 attempts, not adopted, and 8 ticks past its last offer. The commands that a batch falls behind
and that its retry is due both lead to it (R104, R145, R146). -/
def Obligations.BehindOffered : Prop :=
  ∀ (s : State) (b : Batch) (cand : Batch → Prop),
    (∀ x, cand x ↔
      (x.state = .formed ∨ x.state = .called) ∧
      (∃ w, s.dev.wave? x.wave = some w ∧ w.state = .goSet) ∧
      before (x.ls + BitVec.ofNat 24 s.dev.sp.config.threshold) s.dev.sck.tick = true ∧
      x.staged = false ∧ x.attempts < 2 ∧ x.adopted = false ∧
      ∀ t, x.lastOffer = some t → before s.dev.sck.tick (t + 8) = false) →
    s.dev.idsOk → s.dev.strap.cls ≠ 0 → s.dev.fe.station = .onLine → s.dev.bp.handed.length < 16 →
    (∀ k, .offer k ∉ s.dev.fe.txq) → (∀ f, s.dev.fe.inFlight = some f → ∀ k, f.entry ≠ .offer k) →
    b ∈ s.dev.bp.batches → cand b →
    (∀ x ∈ s.dev.bp.batches, cand x → x.bid ≠ b.bid →
      (s.dev.sck.tick - x.ls).toInt < (s.dev.sck.tick - b.ls).toInt) →
    (∃ t, exec (.batchBehind b.seq) s = .next t ∧ t.pending = s.pending ∧ s.dev.Kept t.dev ∧
      t.dev.lu = s.dev.lu ∧ t.dev.ti = s.dev.ti ∧ t.dev.bp.fireQ = s.dev.bp.fireQ ∧
      .offer b.bid ∈ t.dev.fe.txq ∧ ∃ x ∈ t.dev.bp.batches, x = { b with late := x.late, offerPending := true }) ∧
    (∀ tick, b.lastOffer = some tick →
      ∃ t, exec (.offerRetryDue b.seq) s = .next t ∧ t.pending = s.pending ∧ s.dev.Kept t.dev ∧
        t.dev.lu = s.dev.lu ∧ t.dev.ti = s.dev.ti ∧ t.dev.bp.fireQ = s.dev.bp.fireQ ∧
        .offer b.bid ∈ t.dev.fe.txq ∧ ∃ x ∈ t.dev.bp.batches, x = { b with late := x.late, offerPending := true })

/-- When no SLIP can move a SET wave any more, each of its late batches whose marker is clear is marked late and queues
BATCH_LATE with how far it is behind, while the wave's estimate is later than its go time. A batch whose marker is set
queues no other (R104, R107). -/
def Obligations.SlipCutoffLate : Prop :=
  (∀ (s : State) (pass : Addr) (num : Byte) (w : Wave) (b : Batch) (go : Tick) (e : Estimate),
      s.dev.idsOk → s.dev.strap.cls ≠ 0 → s.dev.named? pass num = some w → w.state = .goSet → w.go = some go →
      before s.dev.sck.tick (go - 16) = false → s.dev.estimate w = some e → before go e.tick = true →
      b ∈ s.dev.bp.batches → b.wave = w.ref → (b.state = .formed ∨ b.state = .called) → b.late = false →
      before (b.ls + BitVec.ofNat 24 s.dev.sp.config.threshold) s.dev.sck.tick = true →
      (2 ≤ b.attempts ∨ b.outcome = some .noTaker) →
      ∃ t, exec (.slipCutoff pass num) s = .next t ∧ t.pending = s.pending ∧ s.dev.Kept t.dev ∧
        t.dev.lu = s.dev.lu ∧ t.dev.ti = s.dev.ti ∧ t.dev.bp.fireQ = s.dev.bp.fireQ ∧
        (∃ x ∈ t.dev.bp.batches, x = { b with late := true, offerPending := x.offerPending }) ∧
        (s.dev.sp.config.batchGroup = true → s.dev.sp.notices.length + s.dev.bp.batches.length ≤ 32 →
          { tick := s.dev.sck.tick
            body := .batchLate w.noticeId b.seq (min 65535 (s.dev.sck.tick - b.ls).toInt.toNat) } ∈ t.dev.sp.notices)) ∧
  (∀ (s : State) (pass : Addr) (num : Byte) (b : Batch), s.dev.idsOk → b ∈ s.dev.bp.batches → b.late = true →
    (∀ x ∈ s.dev.bp.batches, x.seq = b.seq → x = b) →
    ∃ t, exec (.slipCutoff pass num) s = .next t ∧ t.pending = s.pending ∧
      (∃ x ∈ t.dev.bp.batches, x = { b with offerPending := x.offerPending }) ∧
      ∀ n ∈ t.dev.sp.notices.drop s.dev.sp.notices.length, ∀ id lag, n.body ≠ .batchLate id b.seq lag)

/-- A HOLDING batch at the boundary done plus M plus H plus 1: with contributors and no refire yet it is refired, FORMED again
with its contributors' portions and times from the wave's go time, in the fire queue where no lane is free, and
BATCH_SPOILED is queued; refired before, it is lost, its portions come off their items, and BATCH_LOST is queued; without
contributors it leaves with neither notice (R122, R123). -/
def Obligations.HoldExpiry : Prop :=
  ∀ (s : State) (b : Batch), s.dev.idsOk → b ∈ s.dev.bp.batches → b.state = .holding →
    b.done = some (s.dev.sck.tick - BitVec.ofNat 24 (s.dev.sp.config.margin + s.dev.holdOf b.dish + 1)) →
    (∀ x ∈ s.dev.bp.batches, x.seq = b.seq → x = b) →
    ∃ t, exec (.holdExpiry b.seq) s = .next t ∧ t.pending = s.pending ∧ s.dev.Kept t.dev ∧
      (b.contribs ≠ [] → b.refire = 0 →
        t.dev.ti = s.dev.ti ∧
        (∃ x ∈ t.dev.bp.batches, x.bid = b.bid ∧ x.seq = b.seq ∧ (x.state = .formed ∨ x.state = .called) ∧
          x.portions = portionsOf b.contribs ∧ x.contribs = b.contribs ∧ x.refire = 1 ∧ x.done = none ∧
          x.start = none ∧ x.due = none ∧ x.turn = none ∧
          x.ls = s.dev.goOf b.wave - BitVec.ofNat 24 s.dev.sp.config.margin - BitVec.ofNat 24 (s.dev.cookOf b.dish) ∧
          x.rl = x.ls - BitVec.ofNat 24 (s.dev.holdOf b.dish) ∧
          ((∀ i : Fin 8, s.dev.laneFree i = false) → x.state = .formed ∧ b.bid ∈ t.dev.bp.fireQ)) ∧
        (s.dev.sp.config.batchGroup = true → s.dev.sp.notices.length < 32 →
          { tick := s.dev.sck.tick
            body := .batchSpoiled (s.dev.waveIdOf b.wave) b.seq b.dish (portionsOf b.contribs) } ∈
            t.dev.sp.notices)) ∧
      (b.contribs ≠ [] → b.refire ≠ 0 →
        (∀ x ∈ t.dev.bp.batches, x.bid ≠ b.bid) ∧
        ((∀ w ∈ s.dev.wu.waves, w.state = .goSet → ∀ l ∈ w.lines, l.demand = 0) →
          (∃ x ∈ s.dev.bp.batches, x.wave = b.wave ∧ x.bid ≠ b.bid) →
          t.dev.ti.tickets =
            (if b.adopted then s.dev.ti.tickets else takeOffAll b.wave b.dish b.contribs s.dev.ti.tickets) ∧
          (s.dev.sp.config.batchGroup = true → s.dev.sp.notices.length < 32 →
            { tick := s.dev.sck.tick
              body := .batchLost (s.dev.waveIdOf b.wave) b.seq b.dish (portionsOf b.contribs) } ∈
              t.dev.sp.notices))) ∧
      (b.contribs = [] → (∀ x ∈ t.dev.bp.batches, x.bid ≠ b.bid) ∧
        ∀ n ∈ t.dev.sp.notices.drop s.dev.sp.notices.length, ∀ id seq dish k,
          n.body ≠ .batchSpoiled id seq dish k ∧ n.body ≠ .batchLost id seq dish k)

/-! ### Lanes -/

/-- The boundaries of a lane. At its turn tick a COOKING lane's turn flash end becomes the turn tick plus 8 and the turn tick
absent, and no batch changes. At its due tick a COOKING lane and its batch become DUE, due-since is that tick, the turn
flash end is absent, and the first released batch of the lane's kind in the fire queue is staged there; where none is,
nothing is staged (R119, R120, R134). The turn flash ends at its tick (R138); a call and a due batch become overdue,
unacknowledged, at their window plus 1 (R136, R137). That a compare sent where none is due changes nothing, and that the
due tick stays in DUE, are the model's: log entries 3 and 31. -/
def Obligations.LaneBoundaries : Prop :=
  (∀ (s : State) (i : Fin 8),
    ((s.dev.lane i).state = .cooking → (s.dev.lane i).turnTick = some s.dev.sck.tick →
      exec (.turnCompare i) s = .next { s with dev := s.dev.onLane i (fun l =>
        { l with flashEnd := some (s.dev.sck.tick + 8), turnTick := none }) }) ∧
    (((s.dev.lane i).state ≠ .cooking ∨ (s.dev.lane i).turnTick ≠ some s.dev.sck.tick) →
      exec (.turnCompare i) s = .next s) ∧
    (((s.dev.lane i).state ≠ .cooking ∨ (s.dev.lane i).dueTick ≠ some s.dev.sck.tick) →
      exec (.dueCompare i) s = .next s)) ∧
  (∀ (s : State) (i : Fin 8) (b : Batch), s.dev.idsOk → b ∈ s.dev.bp.batches →
    (s.dev.lane i).state = .cooking → (s.dev.lane i).dueTick = some s.dev.sck.tick →
    (s.dev.lane i).current = some b.bid → b.state = .cooking →
    ∃ t, exec (.dueCompare i) s = .next t ∧ t.pending = s.pending ∧ s.dev.Kept t.dev ∧ t.dev.ti = s.dev.ti ∧
      (∃ x ∈ t.dev.bp.batches, x.bid = b.bid ∧ x.state = .due ∧ x.portions = b.portions ∧ x.contribs = b.contribs) ∧
      (∀ j : Fin 8, j ≠ i → t.dev.lane j = s.dev.lane j) ∧
      (s.dev.firstFor (s.dev.laneKind i) = none →
        t.dev.lane i = { s.dev.lane i with state := .due, dueSince := some s.dev.sck.tick, flashEnd := none } ∧
        t.dev.bp.fireQ = s.dev.bp.fireQ) ∧
      (∀ y, s.dev.firstFor (s.dev.laneKind i) = some y →
        t.dev.lane i =
          { s.dev.lane i with
            state := .due, dueSince := some s.dev.sck.tick, flashEnd := none, staged := some y.bid } ∧
        t.dev.bp.fireQ = s.dev.bp.fireQ.filter (fun k => k ≠ y.bid) ∧
        ∃ x ∈ t.dev.bp.batches, x.bid = y.bid ∧ x.staged = true ∧ x.lane = some i)) ∧
  (∀ (s : State) (i : Fin 8),
      ((s.dev.lane i).flashEnd = some s.dev.sck.tick →
        exec (.turnFlashEnd i) s = .next { s with dev := s.dev.onLane i (fun l => { l with flashEnd := none }) }) ∧
      (∀ since, (s.dev.lane i).state = .called → (s.dev.lane i).overdue = .none →
        (s.dev.lane i).calledSince = some since →
        s.dev.sck.tick = since + BitVec.ofNat 24 (s.dev.sp.config.callWindow + 1) →
        exec (.callOverdue i) s = .next { s with dev := s.dev.onLane i (fun l => { l with overdue := .call, ack := false }) }) ∧
      (∀ since, (s.dev.lane i).state = .due → (s.dev.lane i).overdue = .none →
        (s.dev.lane i).dueSince = some since →
        s.dev.sck.tick = since + BitVec.ofNat 24 (s.dev.sp.config.dueWindow + 1) →
        exec (.dueOverdue i) s = .next { s with dev := s.dev.onLane i (fun l => { l with overdue := .due, ack := false }) }))

/-- A start press on a CALLED lane: the batch becomes COOKING at the press tick with its due and turn ticks, the lane with it,
its call and overdue cause cleared and the press held; an own OFFER of the batch in flight takes a reject request
(R130, R131, R148). A press on the lane of the offered batch that comes in the own accept slot changes nothing then: it is
taken right after the fate of the frame, by the lane's state as it then stands (R148). How a press is known to fall there
is the model's: log entry 37. -/
def Obligations.PressStarts : Prop :=
  (∀ (s : State) (i : Fin 8) (b : Batch), s.dev.idsOk → b ∈ s.dev.bp.batches →
    i.val < s.dev.sp.config.laneCount → (s.dev.lane i).lastPress = none →
    (s.dev.lane i).state = .called → (s.dev.lane i).current = some b.bid →
    ∃ t, exec (.buttonPress i false) s = .next t ∧ t.pending = s.pending ∧ s.dev.Kept t.dev ∧ t.dev.ti = s.dev.ti ∧
      (∃ x ∈ t.dev.bp.batches, x =
        { b with
          state := .cooking
          start := some s.dev.sck.tick
          due := some (s.dev.sck.tick + BitVec.ofNat 24 (s.dev.cookOf b.dish))
          turn := if s.dev.turnOf b.dish = 0 then none
            else some (s.dev.sck.tick + BitVec.ofNat 24 (s.dev.turnOf b.dish))
          late := x.late
          offerPending := x.offerPending }) ∧
      t.dev.lane i =
        { s.dev.lane i with
          state := .cooking
          calledSince := none
          dueTick := some (s.dev.sck.tick + BitVec.ofNat 24 (s.dev.cookOf b.dish))
          turnTick := if s.dev.turnOf b.dish = 0 then none
            else some (s.dev.sck.tick + BitVec.ofNat 24 (s.dev.turnOf b.dish))
          overdue := .none
          ack := false
          lastPress := some s.dev.sck.tick } ∧
      (∀ j : Fin 8, j ≠ i → t.dev.lane j = s.dev.lane j) ∧ t.dev.bp.fireQ = s.dev.bp.fireQ ∧
      t.dev.fe.inFlight = s.dev.fe.inFlight.map (fun f =>
        if f.entry = .offer b.bid then { f with rejectReq := true } else f)) ∧
  (∀ (s : State) (i : Fin 8) (f : InFlight) (bid : Nat), s.dev.fe.inFlight = some f → f.entry = .offer bid →
    (s.dev.lane i).state = .called → (s.dev.lane i).current = some bid →
    exec (.buttonPress i true) s = .next { s with dev := { s.dev with fe := { s.dev.fe with
      inFlight := some { f with deferred := some i } } } }) ∧
  (∀ (s : State) (i : Fin 8) (f : InFlight) (fate : Fate) (rep : OfferReply) (line : Followed),
    s.dev.fe.inFlight = some f → f.frame.body.kind = .offer → f.deferred = some i →
    ∃ t u : State,
      exec (.offerFate fate rep line) { s with dev := { s.dev with fe := { s.dev.fe with
        inFlight := some { f with deferred := none } } } } = .next u ∧
      exec (.buttonPress i false) u = .next t ∧ exec (.offerFate fate rep line) s = .next t)

/-- A done press on a DUE lane, or on a COOKING one from half its cook time on: the batch of a wave not AWAY becomes HOLDING at
the press tick and leaves the lane; the staged batch is called in its place, or the lane is IDLE where nothing released
waits for its kind. The batch of an AWAY wave is freed, and with the wave's last batch the record is retired
(R85, R120, R130, R132, R133). -/
def Obligations.PressEnds : Prop :=
  ∀ (s : State) (i : Fin 8) (b : Batch), s.dev.idsOk → b ∈ s.dev.bp.batches →
    i.val < s.dev.sp.config.laneCount → (s.dev.lane i).lastPress = none → (s.dev.lane i).current = some b.bid →
    ((s.dev.lane i).state = .due ∨
      (s.dev.lane i).state = .cooking ∧
        before s.dev.sck.tick (b.start.getD 0 + BitVec.ofNat 24 (s.dev.cookOf b.dish / 2)) = false) →
    ∃ t, exec (.buttonPress i false) s = .next t ∧ t.pending = s.pending ∧ s.dev.Kept t.dev ∧
      (t.dev.lane i).lastPress = some s.dev.sck.tick ∧
      (s.dev.waveStateOf b.wave ≠ some .away →
        t.dev.ti = s.dev.ti ∧
        (∃ x ∈ t.dev.bp.batches, x.bid = b.bid ∧ x.portions = b.portions ∧ x.contribs = b.contribs ∧
          x.done = some s.dev.sck.tick) ∧
        ((s.dev.lane i).staged = none → (∀ x ∈ s.dev.queued, s.dev.released x = false) →
          (∃ x ∈ t.dev.bp.batches, x =
            { b with state := .holding, done := some s.dev.sck.tick, lane := none, late := x.late,
                     offerPending := x.offerPending }) ∧
          t.dev.lane i =
            { s.dev.lane i with
              state := .idle, current := none, staged := none, calledSince := none, turnTick := none, dueTick := none,
              flashEnd := none, dueSince := none, overdue := .none, ack := false,
              lastPress := some s.dev.sck.tick }) ∧
        (∀ y ∈ s.dev.bp.batches, (s.dev.lane i).staged = some y.bid → y.bid ≠ b.bid →
          (∃ x ∈ t.dev.bp.batches, x =
            { b with state := .holding, done := some s.dev.sck.tick, lane := none, late := x.late,
                     offerPending := x.offerPending }) ∧
          (∃ x ∈ t.dev.bp.batches, x =
            { y with state := .called, staged := false, lane := some i, late := x.late,
                     offerPending := x.offerPending }) ∧
          (t.dev.lane i).state = .called ∧ (t.dev.lane i).current = some y.bid ∧ (t.dev.lane i).staged = none ∧
          (t.dev.lane i).calledSince = some s.dev.sck.tick ∧ (t.dev.lane i).overdue = .none)) ∧
      (s.dev.waveStateOf b.wave = some .away →
        (∀ x ∈ t.dev.bp.batches, x.bid ≠ b.bid) ∧
        ((∀ x ∈ s.dev.bp.batches, x.wave = b.wave → x = b) →
          t.dev.wu.waves.map (·.ref) = (s.dev.wu.waves.map (·.ref)).filter (fun r => r ≠ b.wave)))

/-- A press on a configured lane is debounced when the lane's last press tick is present and the press tick less it is 0, 1 or
2, modulo 2^24 and read as signed: it is dropped and changes nothing. Every other press becomes the last press and acts
by the lane's state: in IDLE it does nothing more, and in COOKING before half the cook time neither. The last press is
absent after power-on, RESET and LEAVE (R129). A press on an unconfigured lane changes nothing (R126). A press in the own
accept slot is no other, but on the lane of the offered batch, where R148 defers it (the statement PressStarts). -/
def Obligations.PressDebounce : Prop :=
  ∀ (s : State) (i : Fin 8) (inAccept : Bool),
    (inAccept = true → ∀ f bid, s.dev.fe.inFlight = some f → f.entry = .offer bid →
      ¬((s.dev.lane i).state = .called ∧ (s.dev.lane i).current = some bid)) →
    (s.dev.sp.config.laneCount ≤ i.val → exec (.buttonPress i inAccept) s = .next s) ∧
    (∀ last, i.val < s.dev.sp.config.laneCount → (s.dev.lane i).lastPress = some last →
      (s.dev.sck.tick = last ∨ s.dev.sck.tick = last + 1 ∨ s.dev.sck.tick = last + 2) →
      exec (.buttonPress i inAccept) s = .next s) ∧
    (i.val < s.dev.sp.config.laneCount →
      (∀ last, (s.dev.lane i).lastPress = some last →
        ¬(s.dev.sck.tick = last ∨ s.dev.sck.tick = last + 1 ∨ s.dev.sck.tick = last + 2)) →
      exec (.buttonPress i inAccept) s = .next { s with dev :=
        (s.dev.onLane i (fun l => { l with lastPress := some s.dev.sck.tick })).pressAct i } ∧
      ((s.dev.lane i).state = .idle →
        exec (.buttonPress i inAccept) s = .next { s with dev :=
          (s.dev.onLane i (fun l => { l with lastPress := some s.dev.sck.tick })) }) ∧
      (∀ b, (s.dev.lane i).current.bind s.dev.batch? = some b → (s.dev.lane i).state = .cooking →
        before s.dev.sck.tick (b.start.getD 0 + BitVec.ofNat 24 (s.dev.cookOf b.dish / 2)) = true →
        exec (.buttonPress i inAccept) s = .next { s with dev :=
          (s.dev.onLane i (fun l => { l with lastPress := some s.dev.sck.tick })) })) ∧
    (State.reset.dev.lane i).lastPress = none ∧
    (∀ (addr : Addr) (cls : ClassNo) (t : State), exec (.reset addr cls) s = .next t → (t.dev.lane i).lastPress = none) ∧
    (∀ t : State, s.dev.fe.station ≠ .standby → exec (.leave []) s = .next t → (t.dev.lane i).lastPress = none)

/-! ### The station port -/

/-- The port's checks: the five status codes; a code that names no command is refused with BAD_VALUE; then a command in a
station state or on a class that refuses it with WRONG_STATE; then a parameter length it does not take with BAD_VALUE.
A refused command changes nothing but the held reply and carries no data, and OK carries data for the reads alone (R169).
A select without a command leaves the held reply, and a message cut short makes it BAD_VALUE; a whole message is the
command of its code with as many parameter bytes as its length says, bytes beyond it disregarded (R168). That a select's
command joins the end of the commands that wait is the model's choice: log entry 33. -/
def Obligations.PortRefusals : Prop :=
  (Status.ok.code = 0x00 ∧ Status.wrongState.code = 0x01 ∧ Status.badValue.code = 0x02 ∧ Status.full.code = 0x03 ∧
    Status.unknownRecord.code = 0x04) ∧
  (∀ (code : Byte) (p : List Byte) (s : State),
    code ∉ ([0x00, 0x10, 0x11, 0x12, 0x18, 0x19, 0x20, 0x21, 0x22, 0x23, 0x24, 0x25, 0x30, 0x31, 0x40, 0x41, 0x42,
      0x43] : List Byte) →
    exec (.unknownCommand code p) s = .next (s.replied .badValue [])) ∧
  (∀ (r : PortRow) (p : List Byte) (s : State),
    (r.taken s.dev = false → exec (r.command p) s = .next (s.replied .wrongState [])) ∧
    (r.taken s.dev = true → r.lengthOk p = false → exec (r.command p) s = .next (s.replied .badValue [])) ∧
    (∀ t, exec (r.command p) s = .next t → t.dev.sp.reply.status ≠ .ok →
      t = s.replied t.dev.sp.reply.status []) ∧
    (∀ t, exec (r.command p) s = .next t → t.dev.sp.reply.status = .ok →
      r ∉ ([.readStation, .readWave, .readTicket, .readBatch, .readLane, .readNotice] : List PortRow) →
      t.dev.sp.reply.data = [])) ∧
  (∀ (s : State) (clocked : List Byte), clocked = [] ∨ clocked.head? = some 0 →
    exec (.nullSelect clocked) s = .next s) ∧
  (∀ (s : State) (c n : Byte) (rest : List Byte), c ≠ 0 →
    exec (.messageCutShort [c]) s = .next (s.replied .badValue []) ∧
    (rest.length < n.toNat → exec (.messageCutShort (c :: n :: rest)) s = .next (s.replied .badValue []))) ∧
  (PortRow.all.map (fun r => (r.code, r)) =
    [(0x10, .configure), (0x11, .loadDish), (0x12, .clearMenu), (0x18, .join), (0x19, .leave), (0x30, .silence),
     (0x31, .ring), (0x40, .openWave), (0x41, .issueTicket), (0x42, .voidTicket), (0x43, .sendPickup),
     (0x20, .readStation), (0x21, .readWave), (0x22, .readTicket), (0x23, .readBatch), (0x24, .readLane),
     (0x25, .readNotice)]) ∧
  (∀ (clocked : List Byte) (s : State), s.select clocked = { s with pending := s.pending ++ [selectCommand clocked] }) ∧
  (∀ clocked : List Byte, clocked = [] ∨ clocked.head? = some 0 → selectCommand clocked = .nullSelect clocked) ∧
  (∀ (c n : Byte) (rest : List Byte), c ≠ 0 →
    selectCommand [c] = .messageCutShort [c] ∧
    (rest.length < n.toNat → selectCommand (c :: n :: rest) = .messageCutShort (c :: n :: rest))) ∧
  (∀ (code n : Byte) (params extra : List Byte), code ≠ 0 → params.length = n.toNat →
    (∀ r : PortRow, r.code = code → selectCommand (code :: n :: (params ++ extra)) = r.command params) ∧
    ((∀ r : PortRow, r.code ≠ code) → selectCommand (code :: n :: (params ++ extra)) = .unknownCommand code params))

/-- The setup and bell commands. CONFIGURE replaces the whole record, clamped, sets the mode from the line lock, with a notice
where it changes, and leaves the lanes it does not configure at their reset values, a lamp lit until the next boundary (log
entry 49); its count and share checks refuse the whole. LOAD_DISH puts one clamped entry in its place by
dish code, replacing one of its code. CLEAR_MENU empties the menu. SILENCE acknowledges every cause and ends the ring;
RING sets the ring marker (R53, R58 to R62, R126, R139 to R141, R170). That a pass refuses a lane count above 8 too is the
model's reading: log entry 30. -/
def Obligations.HostCommands : Prop :=
  ∀ (s : State) (p : List Byte),
    (∀ (c : Configuration) (m : LineMode), s.dev.fe.station = .standby → p.length = 18 →
      (if 8 < param8 p 0 ∨ param8 p 14 = 0 ∨ 8 < param8 p 14 ∨ param8 p 14 ≤ param8 p 15 then
        exec (.configure p) s = .next (s.replied .badValue [])
      else
        c = { laneCount := if s.dev.strap.cls = 0 then 0 else param8 p 0
              laneKinds := Vector.ofFn (fun i => min 3 (param8 p (i.val + 1)))
              margin := param8 p 9
              threshold := max 8 (param8 p 10)
              callWindow := max 8 (min 240 (param8 p 11))
              dueWindow := max 8 (min 240 (param8 p 12))
              reportStep := max 1 (min 32 (param8 p 13))
              shareCount := param8 p 14
              shareIndex := param8 p 15
              lock := if param8 p 16 = 0 then .auto else if param8 p 16 = 1 then .aOnly else .bOnly
              waveGroup := (param p 17).getLsbD 0
              batchGroup := (param p 17).getLsbD 1
              ticketGroup := (param p 17).getLsbD 2
              linkGroup := (param p 17).getLsbD 3 } →
        m = (if c.lock = .auto then .dual else if c.lock = .aOnly then .aOnly else .bOnly) →
        exec (.configure p) s = .next { s with dev := { s.dev with
          lif := { s.dev.lif with
            mode := m
            wireA := if c.lock = .bOnly then .failed else .good
            wireB := if c.lock = .aOnly then .failed else .good }
          lu := { s.dev.lu with lanes := Vector.ofFn (fun i => if i.val < c.laneCount then s.dev.lane i else
            { state := .idle, current := none, staged := none, reserved := false, calledSince := none,
              turnTick := none, dueTick := none, flashEnd := none, dueSince := none, overdue := .none, ack := false,
              lastPress := none, lamp := (s.dev.lane i).lamp }) }
          sp :=
            { (if s.dev.lif.mode = m then { s.dev.sp with config := c }
                else Sp.queueNotice s.dev.sck.tick (.lineMode s.dev.lif.mode m .configure)
                  { s.dev.sp with config := c }) with
              reply := { status := .ok, data := [] } } } })) ∧
    (∀ (x : Dish), s.dev.fe.station = .standby → p.length = 9 →
      (if param p 0 = 0 ∨ (s.dev.strap.cls ≠ 0 ∧
            ∀ i : Fin 8, i.val < s.dev.sp.config.laneCount → s.dev.laneKind i ≠ param8 p 1) then
        exec (.loadDish p) s = .next (s.replied .badValue [])
      else if 64 ≤ s.dev.sp.menu.length ∧ ∀ y ∈ s.dev.sp.menu, y.code ≠ param p 0 then
        exec (.loadDish p) s = .next (s.replied .full [])
      else
        x = { code := param p 0
              kind := min 3 (param8 p 1)
              cook := max 8 (min 19200 (param16 p 2))
              turn := if max 8 (min 19200 (param16 p 2)) ≤ param16 p 4 then max 8 (min 19200 (param16 p 2)) - 1
                else param16 p 4
              hold := max 16 (min 4800 (param16 p 6))
              batch := max 1 (min 16 (param8 p 8)) } →
        ∃ t, exec (.loadDish p) s = .next t ∧ t.pending = s.pending ∧
          t.dev = { s.dev with sp := { s.dev.sp with
            menu := t.dev.sp.menu, reply := { status := .ok, data := [] } } } ∧
          (∀ y, y ∈ t.dev.sp.menu ↔ y = x ∨ (y ∈ s.dev.sp.menu ∧ y.code ≠ x.code)) ∧
          (s.dev.sp.menu.Pairwise (fun a b => a.code.toNat < b.code.toNat) →
            t.dev.sp.menu.Pairwise (fun a b => a.code.toNat < b.code.toNat)))) ∧
    (s.dev.fe.station = .standby →
      exec (.clearMenu []) s = .next { s with dev := { s.dev with sp := { s.dev.sp with
        menu := [], reply := { status := .ok, data := [] } } } }) ∧
    (∃ t, exec (.silence []) s = .next t ∧ t.pending = s.pending ∧ t.dev.bellActive = false ∧
      t.dev = { s.dev with
        lu := { t.dev.lu with ring := false, bell := s.dev.lu.bell }
        sp := { s.dev.sp with reply := { status := .ok, data := [] } } } ∧
      ∀ i : Fin 8, t.dev.lane i =
        { s.dev.lane i with ack := (s.dev.lane i).ack || (s.dev.lane i).overdue != .none }) ∧
    (∃ t, exec (.ring []) s = .next t ∧ t.pending = s.pending ∧ t.dev.bellActive = true ∧
      t.dev = { s.dev with
        lu := { s.dev.lu with ring := true }
        sp := { s.dev.sp with reply := { status := .ok, data := [] } } })

/-- JOIN from STANDBY with an address in 1..62 and, on a cooking station, lanes for a menu that is not empty, enters LISTEN:
counts at 0, view-from absent, first step pending, the period restarted, the mode and wires from the lock; else it is
refused. LEAVE stops the Link, empties every record, frees every lane, keeps the setup, the line mode and the clock's
reading, and queues STATION_LEFT (R17, R41, R64, R65, R67). -/
def Obligations.JoinAndLeave : Prop :=
  (∀ (s : State) (m : LineMode), s.dev.fe.station = .standby → s.dev.sck.periodEndDue = false →
    m = (if s.dev.sp.config.lock = .auto then .dual else if s.dev.sp.config.lock = .aOnly then .aOnly else .bOnly) →
    (if s.dev.strap.addr ≠ 0 ∧ s.dev.strap.addr ≠ 63 ∧
        (s.dev.strap.cls = 0 ∨ (1 ≤ s.dev.sp.config.laneCount ∧ s.dev.sp.menu ≠ [] ∧
          ∀ x ∈ s.dev.sp.menu, ∃ i : Fin 8, i.val < s.dev.sp.config.laneCount ∧ s.dev.laneKind i = x.kind)) then
      exec (.join []) s = .next { s with dev := { s.dev with
        sck := { s.dev.sck with firstStep := true, periodCount := 0, samples := [] }
        lif :=
          { mode := m
            wireA := if s.dev.sp.config.lock = .bOnly then .failed else .good
            wireB := if s.dev.sp.config.lock = .aOnly then .failed else .good
            silenceA := 0
            silenceB := 0
            cleanCount := 0 }
        fe := { s.dev.fe with
          station := .listen, listenCount := 0, viewFrom := none, idleCount := 0, tecCount := 0, recCount := 0 }
        sp :=
          { (if s.dev.lif.mode = m then s.dev.sp
              else s.dev.sp.queueNotice s.dev.sck.tick (.lineMode s.dev.lif.mode m .join)) with
            reply := { status := .ok, data := [] } } } }
    else exec (.join []) s = .next (s.replied .badValue []))) ∧
  (∀ s : State, s.dev.fe.station ≠ .standby →
    ∃ t, exec (.leave []) s = .next t ∧ t.pending = s.pending ∧
      t.dev.sck = { s.dev.sck with
        samples := [], capture := none, firstStep := false, markQuiet := 0, markDue := false } ∧
      t.dev.lif.mode = s.dev.lif.mode ∧ t.dev.lif.wireA = s.dev.lif.wireA ∧ t.dev.lif.wireB = s.dev.lif.wireB ∧
      t.dev.fe.station = .standby ∧ t.dev.fe.listenCount = 0 ∧ t.dev.fe.quietCount = 0 ∧ t.dev.fe.viewFrom = none ∧
      t.dev.fe.tecCount = 0 ∧ t.dev.fe.recCount = 0 ∧ t.dev.fe.txq = [] ∧ t.dev.fe.inFlight = none ∧
      t.dev.fe.rx = none ∧ t.dev.fe.drove = [] ∧ t.dev.strap = s.dev.strap ∧
      t.dev.wu.waves = [] ∧ t.dev.ti.tickets = [] ∧ t.dev.ti.issues = [] ∧ t.dev.bp.batches = [] ∧
      t.dev.bp.fireQ = [] ∧ t.dev.bp.handed = [] ∧ t.dev.bp.counter = 0 ∧ t.dev.iu.queue = [] ∧
      (∀ i : Fin 8, t.dev.lane i =
        { state := .idle, current := none, staged := none, reserved := false, calledSince := none, turnTick := none,
          dueTick := none, flashEnd := none, dueSince := none, overdue := .none, ack := false, lastPress := none,
          lamp := (s.dev.lane i).lamp }) ∧
      t.dev.lu.ring = false ∧ t.dev.lu.bell = s.dev.lu.bell ∧
      t.dev.sp = { s.dev.sp.queueNotice s.dev.sck.tick
          (.stationLeft s.dev.fe.station s.dev.wu.waves.length s.dev.bp.batches.length
            (s.dev.ti.tickets.length + s.dev.ti.issues.length)) with
        reply := { status := .ok, data := [] } })

/-- The pass commands on a pass ON_LINE or QUIET. OPEN_WAVE creates an OPEN record at the end of the table, its close lead
shortened where the close would fall less than 64 ticks from now. ISSUE_TICKET files an issue record and queues its
TICKET. VOID_TICKET takes an unsent TICKET back with its record, or marks the record and queues a VOID. SEND_PICKUP marks
a SET wave and queues its PICKUP. The head of the issue queue stands in the transmit queue (R157 to R161, R164, R165).
Each is refused in the order of its checks: ISSUE_TICKET for a bad value, a wave that takes none, a serial already borne and
a full queue or index; VOID_TICKET for its wave, an unknown ticket, a VOID already pending and a full queue; SEND_PICKUP for its
wave and a full queue. -/
def Obligations.PassCommands : Prop :=
  ∀ (s : State) (num : Byte), s.dev.strap.cls = 0 → (s.dev.fe.station = .onLine ∨ s.dev.fe.station = .quiet) →
    (∀ (call : Tick) (lead : BitVec 16) (held : Nat),
      held = (if before (call - BitVec.ofNat 24 lead.toNat) (s.dev.sck.tick + 64) then
          (call - s.dev.sck.tick - 64).toNat else lead.toNat) →
      (if (s.dev.named? s.dev.strap.addr num).isSome then
        exec (.openWave ([num] ++ be24 call.toNat ++ be16 lead.toNat)) s = .next (s.replied .badValue [])
      else if (call - s.dev.sck.tick).toInt < 128 then
        exec (.openWave ([num] ++ be24 call.toNat ++ be16 lead.toNat)) s = .next (s.replied .badValue [])
      else if 32 ≤ s.dev.wu.waves.length then
        exec (.openWave ([num] ++ be24 call.toNat ++ be16 lead.toNat)) s = .next (s.replied .full [])
      else
        exec (.openWave ([num] ++ be24 call.toNat ++ be16 lead.toNat)) s = .next { s with dev := { s.dev with
          wu :=
            { nextRef := s.dev.wu.nextRef + 1
              waves := s.dev.wu.waves ++
                [{ ref := s.dev.wu.nextRef
                   id := some { pass := s.dev.strap.addr, num := num }
                   call := some call
                   lead := some (BitVec.ofNat 16 held)
                   close := some (call - BitVec.ofNat 24 held)
                   state := .opened
                   go := none
                   slips := 0
                   heardFrom := s.dev.sck.tick
                   partialMark := false
                   far := false
                   participants := []
                   own := .absent
                   est := none
                   lines := []
                   adoptedOnly := false
                   anonymous := false
                   pickupPending := false }] }
          sp := { s.dev.sp with reply := { status := .ok, data := [] } } } })) ∧
    (∀ (serial : Serial) (items : List Order) (w : Wave),
      serial ≠ 0 → 1 ≤ items.length → items.length ≤ 12 → (∀ o ∈ items, o.dish ≠ 0 ∧ 1 ≤ o.qty ∧ o.qty ≤ 63) →
      s.dev.named? s.dev.strap.addr num = some w → w.state ≠ .settling → w.pickupPending = false →
      (∀ r ∈ s.dev.ti.issues, r.serial ≠ serial) → s.dev.iu.queue.length < 16 → s.dev.ti.issues.length < 256 →
      ∃ t, exec (.issueTicket ([num] ++ be16 serial.toNat ++ [byteOf items.length] ++ items.flatMap orderBytes)) s =
          .next t ∧ t.pending = s.pending ∧
        t.dev = { s.dev with
          ti := { s.dev.ti with issues := s.dev.ti.issues ++
            [{ serial := serial, wave := w.ref, items := items, issued := false, short := false,
               voidPending := false }] }
          iu := { s.dev.iu with queue := s.dev.iu.queue ++
            [{ kind := .ticket, num := num, serial := serial, fails := 0, orphan := none }] }
          fe := { s.dev.fe with txq := t.dev.fe.txq }
          sp := { s.dev.sp with reply := { status := .ok, data := [] } } } ∧
        (s.dev.fe.inFlight = none → .issue ∈ t.dev.fe.txq)) ∧
    (∀ (serial : Serial) (w : Wave) (r : Issue),
      s.dev.named? s.dev.strap.addr num = some w → w.pickupPending = false →
      s.dev.ti.issues.find? (fun x => x.serial == serial && x.wave == w.ref) = some r → r.voidPending = false →
      s.dev.fe.inFlight = none →
      (r.issued = false →
        (∃ e ∈ s.dev.iu.queue, e.kind = .ticket ∧ e.serial = serial ∧ e.orphan = none) →
        ∃ t, exec (.voidTicket ([num] ++ be16 serial.toNat)) s = .next t ∧ t.pending = s.pending ∧
          t.dev = { s.dev with
            ti := { s.dev.ti with issues := s.dev.ti.issues.filter (fun x => x.serial ≠ serial) }
            iu := { s.dev.iu with queue := s.dev.iu.queue.filter (fun e =>
              ¬(e.kind = .ticket ∧ e.serial = serial ∧ e.orphan = none)) }
            fe := { s.dev.fe with txq := t.dev.fe.txq }
            sp := { s.dev.sp with reply := { status := .ok, data := [] } } } ∧
          (t.dev.iu.queue ≠ [] → .issue ∈ t.dev.fe.txq)) ∧
      (r.issued = true → s.dev.iu.queue.length < 16 →
        ∃ t, exec (.voidTicket ([num] ++ be16 serial.toNat)) s = .next t ∧ t.pending = s.pending ∧
          t.dev = { s.dev with
            ti := { s.dev.ti with issues := s.dev.ti.issues.map (fun x =>
              if x.serial = serial then { x with voidPending := true } else x) }
            iu := { s.dev.iu with queue := s.dev.iu.queue ++
              [{ kind := .void, num := num, serial := serial, fails := 0, orphan := none }] }
            fe := { s.dev.fe with txq := t.dev.fe.txq }
            sp := { s.dev.sp with reply := { status := .ok, data := [] } } } ∧
          .issue ∈ t.dev.fe.txq)) ∧
    (∀ w : Wave, s.dev.named? s.dev.strap.addr num = some w → w.state = .goSet → w.pickupPending = false →
      s.dev.iu.queue.length < 16 →
      ∃ t, exec (.sendPickup [num]) s = .next t ∧ t.pending = s.pending ∧
        t.dev = { s.dev with
          wu := { s.dev.wu with waves := s.dev.wu.waves.map (fun x =>
            if x.ref = w.ref then { x with pickupPending := true } else x) }
          iu := { s.dev.iu with queue := s.dev.iu.queue ++
            [{ kind := .pickup, num := num, serial := 0, fails := 0, orphan := none }] }
          fe := { s.dev.fe with txq := t.dev.fe.txq }
          sp := { s.dev.sp with reply := { status := .ok, data := [] } } } ∧
        (s.dev.fe.inFlight = none → .issue ∈ t.dev.fe.txq)) ∧
    (∀ (serial : Serial) (items : List Order) (msg : List Byte), items.length < 256 → (∀ o ∈ items, o.qty < 256) →
      msg = [num] ++ be16 serial.toNat ++ [byteOf items.length] ++ items.flatMap orderBytes →
      (serial = 0 ∨ items = [] ∨ 12 < items.length ∨ (∃ o ∈ items, o.dish = 0 ∨ o.qty = 0 ∨ 63 < o.qty) →
        exec (.issueTicket msg) s = .next (s.replied .badValue [])) ∧
      (serial ≠ 0 → items ≠ [] → items.length ≤ 12 → (∀ o ∈ items, o.dish ≠ 0 ∧ 1 ≤ o.qty ∧ o.qty ≤ 63) →
        ((∀ w, s.dev.named? s.dev.strap.addr num = some w → w.state = .settling ∨ w.pickupPending = true) →
          exec (.issueTicket msg) s = .next (s.replied .wrongState [])) ∧
        (∀ w, s.dev.named? s.dev.strap.addr num = some w → w.state ≠ .settling → w.pickupPending = false →
          ((∃ r ∈ s.dev.ti.issues, r.serial = serial) →
            exec (.issueTicket msg) s = .next (s.replied .badValue [])) ∧
          ((∀ r ∈ s.dev.ti.issues, r.serial ≠ serial) →
            16 ≤ s.dev.iu.queue.length ∨ 256 ≤ s.dev.ti.issues.length →
            exec (.issueTicket msg) s = .next (s.replied .full []))))) ∧
    (∀ serial : Serial,
      ((∀ w, s.dev.named? s.dev.strap.addr num = some w → w.pickupPending = true) →
        exec (.voidTicket ([num] ++ be16 serial.toNat)) s = .next (s.replied .wrongState [])) ∧
      (∀ w : Wave, s.dev.named? s.dev.strap.addr num = some w → w.pickupPending = false →
        ((∀ r ∈ s.dev.ti.issues, ¬(r.serial = serial ∧ r.wave = w.ref)) →
          exec (.voidTicket ([num] ++ be16 serial.toNat)) s = .next (s.replied .unknownRecord [])) ∧
        (∀ r : Issue, s.dev.ti.issues.find? (fun x => x.serial == serial && x.wave == w.ref) = some r →
          (r.voidPending = true →
            exec (.voidTicket ([num] ++ be16 serial.toNat)) s = .next (s.replied .wrongState [])) ∧
          (∀ (f : InFlight) (e : IssueEntry) (rest : List IssueEntry), r.voidPending = false →
            (r.issued = true ∨
              s.dev.fe.inFlight = some f ∧ f.entry = .issue ∧ s.dev.iu.queue = e :: rest ∧ e.kind = .ticket ∧
                e.serial = serial ∧ e.orphan = none) →
            (16 ≤ s.dev.iu.queue.length →
              exec (.voidTicket ([num] ++ be16 serial.toNat)) s = .next (s.replied .full [])) ∧
            (s.dev.iu.queue.length < 16 →
              ∃ t, exec (.voidTicket ([num] ++ be16 serial.toNat)) s = .next t ∧ t.pending = s.pending ∧
                t.dev = { s.dev with
                  ti := { s.dev.ti with issues := s.dev.ti.issues.map (fun x =>
                    if x.serial = serial then { x with voidPending := true } else x) }
                  iu := { s.dev.iu with queue := s.dev.iu.queue ++
                    [{ kind := .void, num := num, serial := serial, fails := 0, orphan := none }] }
                  fe := { s.dev.fe with txq := t.dev.fe.txq }
                  sp := { s.dev.sp with reply := { status := .ok, data := [] } } }))))) ∧
    ((∀ w, s.dev.named? s.dev.strap.addr num = some w → w.state ≠ .goSet ∨ w.pickupPending = true) →
      exec (.sendPickup [num]) s = .next (s.replied .wrongState [])) ∧
    (∀ w : Wave, s.dev.named? s.dev.strap.addr num = some w → w.state = .goSet → w.pickupPending = false →
      16 ≤ s.dev.iu.queue.length → exec (.sendPickup [num]) s = .next (s.replied .full []))

/-- The reads answer OK with the bytes of the rules' tables and change nothing but the held reply, whether the record is named
by its key or by its place; READ_STATION lets the crystal counts before it pass, and appends the menu entry at the place it
names. A record that is not held, or a place beyond its list, is UNKNOWN_RECORD, on a pass too, whose READ_TICKET returns its
issue records (R168, R172 to R176). Number 0 for an anonymous record, and UNKNOWN_RECORD for a READ_TICKET of an address
above 62, are read from the rules (log entry 28); the bytes of a close lead or a lane's batch that is absent are the
model's choice (log entry 46). -/
def Obligations.ReadRecords : Prop :=
  ∀ s : State,
    (∀ data : List Byte,
      data =
        [(match s.dev.fe.station with
          | .standby => 0
          | .listen => 1
          | .onLine => 2
          | .quiet => 3),
         (match s.dev.lif.mode with
          | .dual => 0
          | .aOnly => 1
          | .bOnly => 2
          | .down => 3),
         flagByte [s.dev.lif.wireA == .failed, s.dev.lif.wireB == .failed],
         byteOf s.dev.fe.tecCount, byteOf s.dev.fe.recCount] ++
        be24 s.dev.sck.tick.toNat ++
        [byteOf (min (s.dev.sck.prescaler / 16) 255), if s.dev.fe.viewFrom.isSome then 1 else 0] ++
        be24 (s.dev.fe.viewFrom.getD 0).toNat ++
        [byteOf s.dev.fe.listenCount, byteOf s.dev.fe.quietCount, byteOf s.dev.strap.addr.toNat,
         byteOf s.dev.strap.cls.toNat, byteOf s.dev.sp.config.laneCount] ++
        (List.finRange 8).map (fun i => byteOf (s.dev.laneKind i)) ++
        [byteOf s.dev.sp.config.margin, byteOf s.dev.sp.config.threshold, byteOf s.dev.sp.config.callWindow,
         byteOf s.dev.sp.config.dueWindow, byteOf s.dev.sp.config.reportStep, byteOf s.dev.sp.config.shareCount,
         byteOf s.dev.sp.config.shareIndex,
         (match s.dev.sp.config.lock with
          | .auto => 0
          | .aOnly => 1
          | .bOnly => 2),
         flagByte [s.dev.sp.config.waveGroup, s.dev.sp.config.batchGroup, s.dev.sp.config.ticketGroup,
           s.dev.sp.config.linkGroup],
         byteOf s.dev.sp.menu.length, byteOf s.dev.wu.waves.length] ++
        be16 (s.dev.ti.tickets.length + s.dev.ti.issues.length) ++
        [byteOf s.dev.bp.batches.length, byteOf s.dev.bp.handed.length, byteOf s.dev.sp.notices.length,
         byteOf s.dev.sp.lost] →
      data.length = 43 ∧ exec (.readStation 0 []) s = .next (s.replied .ok data) ∧
      ∀ place : Byte, exec (.readStation 0 [place]) s = .next (s.replied .ok (data ++
        match s.dev.sp.menu[place.toNat]? with
        | some x => [x.code, byteOf x.kind] ++ be16 x.cook ++ be16 x.turn ++ be16 x.hold ++ [byteOf x.batch]
        | none => []))) ∧
    (∀ (elapsed : Nat) (p : List Byte), elapsed ≠ 0 → s.dev.sck.atBoundary = false → s.dev.returnDue = false →
      exec (.readStation elapsed p) s = exec (.readStation 0 p) { s with dev :=
        { s.dev.passSlots (slotsBetween s.dev.sck.prescaler (s.dev.sck.advance elapsed).prescaler) with
          sck := s.dev.sck.advance elapsed } }) ∧
    (∀ (place : Byte) (a : Addr) (num : Byte),
      (s.dev.wu.waves.length ≤ place.toNat → exec (.readWave [0, place]) s = .next (s.replied .unknownRecord [])) ∧
      (a ≠ 0 → a ≠ 63 → s.dev.named? a num = none →
        exec (.readWave [byteOf a.toNat, num]) s = .next (s.replied .unknownRecord [])) ∧
      exec (.readWave [63, num]) s = .next (s.replied .badValue [])) ∧
    (∀ (place : Byte) (w : Wave) (data : List Byte), s.dev.wu.waves[place.toNat]? = some w →
      data =
        [(match w.id with
          | some x => byteOf x.pass.toNat
          | none => 0),
         (match w.id with
          | some x => x.num
          | none => 0),
         place,
         (match w.state with
          | .opened => 0
          | .settling => 1
          | .goSet => 2
          | .away => 3),
         flagByte [w.partialMark, w.far, w.adoptedOnly, w.anonymous, w.pickupPending, w.call.isSome, w.go.isSome],
         (match w.own with
          | .absent => flagByte [w.est.isSome, w.est.any (·.saturated), false, false]
          | .estimate _ _ => flagByte [w.est.isSome, w.est.any (·.saturated), true, false]
          | .withdrawn _ => flagByte [w.est.isSome, w.est.any (·.saturated), false, true])] ++
        be24 (w.call.getD 0).toNat ++ be16 (w.lead.getD 0).toNat ++ be24 (w.close.getD 0).toNat ++
        be24 (w.go.getD 0).toNat ++ [byteOf w.slips] ++ be24 w.heardFrom.toNat ++
        be24 ((w.est.map Estimate.tick).getD 0).toNat ++
        (match w.own with
          | .absent => be24 0 ++ be24 0
          | .estimate e stamp => be24 e.toNat ++ be24 stamp.toNat
          | .withdrawn stamp => be24 0 ++ be24 stamp.toNat) ++
        be16 (if s.dev.strap.cls = 0 then (s.dev.ti.issues.filter (fun r => r.wave = w.ref)).length
          else (s.dev.bp.batches.filter (fun b => b.wave = w.ref)).length) ++
        [byteOf w.participants.length] ++
        w.participants.flatMap (fun x =>
          [byteOf (x.addr.toNat + if x.far then 128 else 0)] ++ be24 x.estimate.toNat ++ be24 x.stamp.toNat) ++
        [byteOf w.lines.length] ++ w.lines.flatMap (fun l => [l.dish] ++ be24 l.demand) →
      data.length = 34 + 7 * w.participants.length + 4 * w.lines.length ∧
      exec (.readWave [0, place]) s = .next (s.replied .ok data) ∧
      ∀ (a : Addr) (num : Byte), a ≠ 0 → a ≠ 63 → w.anonymous = false → w.id = some { pass := a, num := num } →
        (∀ j y, s.dev.wu.waves[j]? = some y → y.anonymous = false → y.id = w.id → j = place.toNat) →
        exec (.readWave [byteOf a.toNat, num]) s = .next (s.replied .ok data)) ∧
    (∀ (place : Nat) (t : Ticket) (data : List Byte), s.dev.strap.cls ≠ 0 → place < 65536 →
      s.dev.ti.tickets[place]? = some t →
      data = [byteOf t.pass.toNat] ++ be16 t.serial.toNat ++
        [(s.dev.waveIdOf t.wave).num, 0, byteOf place, byteOf t.items.length] ++
        t.items.flatMap (fun it => [it.dish, byteOf it.qty, byteOf it.unb]) →
      exec (.readTicket ([0] ++ be16 place)) s = .next (s.replied .ok data) ∧
      (t.pass ≠ 0 → (∀ j y, s.dev.ti.tickets[j]? = some y → y.pass = t.pass → y.serial = t.serial → j = place) →
        exec (.readTicket ([byteOf t.pass.toNat] ++ be16 t.serial.toNat)) s = .next (s.replied .ok data))) ∧
    (∀ (place : Nat) (r : Issue) (data : List Byte), s.dev.strap.cls = 0 → place < 65536 →
      s.dev.ti.issues[place]? = some r →
      data = [byteOf s.dev.strap.addr.toNat] ++ be16 r.serial.toNat ++
        [(s.dev.waveIdOf r.wave).num, flagByte [r.issued, r.short, r.voidPending], byteOf place,
         byteOf r.items.length] ++ r.items.flatMap (fun it => [it.dish, byteOf it.qty, 0]) →
      exec (.readTicket ([0] ++ be16 place)) s = .next (s.replied .ok data) ∧
      (s.dev.strap.addr ≠ 0 → (∀ j y, s.dev.ti.issues[j]? = some y → y.serial = r.serial → j = place) →
        exec (.readTicket ([byteOf s.dev.strap.addr.toNat] ++ be16 r.serial.toNat)) s = .next (s.replied .ok data))) ∧
    (∀ (place : Nat) (a : Addr) (serial : Serial), place < 65536 → a ≠ 0 →
      ((if s.dev.strap.cls = 0 then s.dev.ti.issues.length else s.dev.ti.tickets.length) ≤ place →
        exec (.readTicket ([0] ++ be16 place)) s = .next (s.replied .unknownRecord [])) ∧
      ((if s.dev.strap.cls = 0 then a ≠ s.dev.strap.addr ∨ ∀ r ∈ s.dev.ti.issues, r.serial ≠ serial
          else ∀ t ∈ s.dev.ti.tickets, ¬(t.pass = a ∧ t.serial = serial)) →
        exec (.readTicket ([byteOf a.toNat] ++ be16 serial.toNat)) s = .next (s.replied .unknownRecord []))) ∧
    (∀ seq : Seq, (∀ b ∈ s.dev.bp.batches, b.seq ≠ seq) →
      exec (.readBatch ([0] ++ be16 seq.toNat)) s = .next (s.replied .unknownRecord [])) ∧
    (∀ (b : Batch) (pre post : List Batch), s.dev.bp.batches = pre ++ b :: post → (∀ x ∈ post, x.seq ≠ b.seq) →
      exec (.readBatch ([0] ++ be16 b.seq.toNat)) s = .next (s.replied .ok
        (be16 b.seq.toNat ++
          [byteOf (s.dev.waveIdOf b.wave).pass.toNat, (s.dev.waveIdOf b.wave).num, b.dish, byteOf b.portions,
           (match b.state with
            | .formed => 0
            | .called => 1
            | .cooking => 2
            | .due => 3
            | .holding => 4),
           flagByte [b.staged, b.late, b.adopted, b.offerPending, b.refire = 1, b.turn.isSome,
             (s.dev.wave? b.wave).any (·.anonymous)],
           (match b.lane with
            | some i => byteOf i.val
            | none => 255)] ++
          be24 b.ls.toNat ++ be24 b.rl.toNat ++ be24 (b.start.getD 0).toNat ++ be24 (b.due.getD 0).toNat ++
          be24 (b.turn.getD 0).toNat ++ be24 (b.done.getD 0).toNat ++
          [byteOf b.attempts,
           (match b.outcome with
            | none => 0
            | some .noTaker => 1
            | some .rejected => 2
            | some .brokenOff => 3)] ++
          be24 (b.lastOffer.getD 0).toNat ++ [byteOf b.contribs.length] ++
          b.contribs.flatMap (fun c => be16 c.serial.toNat ++ [byteOf c.portions])))) ∧
    (∀ selector m n : Byte, 1 < selector.toNat →
      exec (.readBatch [selector, m, n]) s = .next (s.replied .badValue [])) ∧
    (∀ place any : Byte, s.dev.bp.handed.length ≤ place.toNat →
      exec (.readBatch [1, place, any]) s = .next (s.replied .unknownRecord [])) ∧
    (∀ (place any : Byte) (r : Handed), s.dev.bp.handed[place.toNat]? = some r →
      exec (.readBatch [1, place, any]) s = .next (s.replied .ok
        ([place, byteOf (s.dev.waveIdOf r.wave).pass.toNat, (s.dev.waveIdOf r.wave).num, r.dish,
            byteOf r.taker.toNat] ++
          be16 r.seq.toNat ++ be24 r.handedAt.toNat ++ [byteOf r.contribs.length] ++
          r.contribs.flatMap (fun c => be16 c.serial.toNat ++ [byteOf c.portions])))) ∧
    (∀ (i : Fin 8) (l : Lane) (data : List Byte), l = s.dev.lane i →
      data =
        [byteOf i.val,
         flagByte [decide (i.val < s.dev.sp.config.laneCount), l.reserved, l.ack, l.lamp, s.dev.lu.ring, s.dev.lu.bell,
           l.current.isSome, l.staged.isSome],
         byteOf (s.dev.laneKind i),
         (match l.state with
          | .idle => 0
          | .called => 1
          | .cooking => 2
          | .due => 3),
         (match l.overdue with
          | .none => 0
          | .call => 1
          | .due => 2)] ++
        be16 (((l.current.bind s.dev.batch?).map (·.seq.toNat)).getD 0) ++
        be16 (((l.staged.bind s.dev.batch?).map (·.seq.toNat)).getD 0) ++
        [flagByte [l.calledSince.isSome, l.turnTick.isSome, l.dueTick.isSome, l.flashEnd.isSome, l.dueSince.isSome,
          l.lastPress.isSome]] ++
        be24 (l.calledSince.getD 0).toNat ++ be24 (l.turnTick.getD 0).toNat ++ be24 (l.dueTick.getD 0).toNat ++
        be24 (l.flashEnd.getD 0).toNat ++ be24 (l.dueSince.getD 0).toNat ++ be24 (l.lastPress.getD 0).toNat →
      data.length = 28 ∧ exec (.readLane [byteOf i.val]) s = .next (s.replied .ok data)) ∧
    (∀ n : Byte, 8 ≤ n.toNat → exec (.readLane [n]) s = .next (s.replied .badValue []))

/-- A block's notice is not placed while its group is off, is dropped and counted in the lost count, at most 255, while 32
wait, and is appended with the tick otherwise; NOTICE is low while the queue is not empty (R177). READ_NOTICE takes the
oldest and answers 12 bytes: its kind, its tick, six data bytes with unused ones 0, the lost count as it stood and the
notices left; the lost count returns to 0 (R178). -/
def Obligations.NoticeQueue : Prop :=
  (∀ (d : Device) (b : NoticeBody),
    (d.notify b).sp = (if groupOn d.sp.config b = false then d.sp
      else if 32 ≤ d.sp.notices.length then { d.sp with lost := min 255 (d.sp.lost + 1) }
      else { d.sp with notices := d.sp.notices ++ [{ tick := d.sck.tick, body := b }] }) ∧
    (d.noticeLow = true ↔ d.sp.notices ≠ [])) ∧
  (∀ b : NoticeBody, b.data.length ≤ 6) ∧
  (∀ (s : State) (n : Notice) (rest : List Notice), s.dev.sp.notices = n :: rest →
    ∃ data, exec (.readNotice []) s = .next { s with dev := { s.dev with sp := { s.dev.sp with
        notices := rest, lost := 0, reply := { status := .ok, data := data } } } } ∧
      data.length = 12 ∧ data[0]? = some n.body.code ∧ (data.drop 1).take 3 = be24 n.tick.toNat ∧
      (data.drop 4).take n.body.data.length = n.body.data ∧
      (∀ k, 4 + n.body.data.length ≤ k → k < 10 → data[k]? = some 0) ∧
      data[10]? = some (byteOf s.dev.sp.lost) ∧ data[11]? = some (byteOf rest.length)) ∧
  (∀ s : State, s.dev.sp.notices = [] →
    ∃ data, exec (.readNotice []) s = .next (s.replied .ok data) ∧ data.length = 12 ∧ data[0]? = some 0 ∧
      data[10]? = some 0 ∧ data[11]? = some 0)

/-! ### What every step keeps -/

/-- Every step keeps the Service Clock's items in their ranges: the tick between 4032 and 4160 counts, C within 512, at most
16 samples, one per sender, each within 32,767, no entry of the mean beyond 1024 while ON_LINE or QUIET. -/
def Obligations.ClockInvariant : Prop :=
  ∀ s t : State, s.dev.clockOk → step s = .next t → t.dev.clockOk

/-- Every step keeps the records apart: identities (the model's own, log entry 29) below their counters, none twice, and at
most one wave record that answers to a wave id (R70). -/
def Obligations.IdsInvariant : Prop :=
  ∀ s t : State, s.dev.idsOk → step s = .next t → t.dev.idsOk

/-- Every step keeps what the Frame Engine holds in line with the station state, both error counts below 128 while LISTEN and
ON_LINE, the idle count within 11, the silence counts within 16 and at 0 in STANDBY (R19, R48), and a station in STANDBY or
LISTEN without work. -/
def Obligations.LinkInvariant : Prop :=
  ∀ s t : State, s.dev.linkOk → s.dev.restOk → step s = .next t → t.dev.linkOk ∧ t.dev.restOk

/-- Every step keeps the notice queue and the menu within their limits, the menu in ascending order of dish code (R60, R177,
R178); and it keeps the batch pool, the handed records, the participant lists, the issue queue and the issue records within
theirs, and one entry per key in the transmit queue. -/
def Obligations.RoomInvariant : Prop :=
  (∀ s t : State, s.dev.portOk → step s = .next t → t.dev.portOk) ∧
  (∀ s t : State, s.dev.roomOk → step s = .next t → t.dev.roomOk)

/-- Every step keeps lanes and batches in agreement, and in the fire queue every FORMED batch that is not staged, each once,
and no other (R116), with a station in STANDBY or LISTEN without work (R63, R65, R67), so that CONFIGURE finds no batch on a
lane it removes (R126). -/
def Obligations.FloorInvariant : Prop :=
  ∀ s t : State, s.dev.idsOk → s.dev.linkOk → s.dev.restOk → s.dev.floorOk → step s = .next t →
    t.dev.floorOk ∧ t.dev.restOk

/-- Every step keeps the fire queue in ascending latest start, equal ones in the order of formation, and the formation
sequences in step with the identities of the model (log entries 29 and 32), while every latest start that stands or can arise lies
in one half of the clock, and no live batch is 32,768 formations old (R109, R116). -/
def Obligations.FireQueueOrder : Prop :=
  ∀ (s t : State) (base : Tick), s.dev.idsOk → s.dev.floorOk → s.dev.fireOk → step s = .next t →
    s.dev.startsIn base → t.dev.startsIn base →
    (∀ b ∈ s.dev.bp.batches, t.dev.bp.nextBid ≤ b.bid + 32767) → t.dev.bp.nextBid ≤ s.dev.bp.nextBid + 32767 →
    t.dev.fireOk

/-- Every step keeps the laws of the accounts: the demand of a dish line is the sum of the unbatched counts of its dish
(R75), and the quantity of a dish in a ticket is its unbatched portions, those its serial has in the wave's batches that
are not adopted, and those it has in the wave's handed records (R89). What the laws rest on is kept with them. -/
def Obligations.AccountsInvariant : Prop :=
  ∀ s t : State, s.dev.idsOk → s.dev.filedOk → s.dev.accountsOk → step s = .next t →
    t.dev.filedOk ∧ t.dev.accountsOk

/-- While the station holds a wave record or any lane is not IDLE, a step other than a RESET leaves the tick counter as it is
or advances it by one (R14). -/
def Obligations.ClockAdvancesOneTick : Prop :=
  ∀ s t : State, s.dev.linkOk → s.dev.restOk → step s = .next t →
    (∀ (addr : Addr) (cls : ClassNo) (rest : List Instr), s.pending ≠ .reset addr cls :: rest) →
    (s.dev.wu.waves ≠ [] ∨ ∃ i : Fin 8, (s.dev.lane i).state ≠ .idle) →
    t.dev.sck.tick = s.dev.sck.tick ∨ t.dev.sck.tick = s.dev.sck.tick + 1

/-- Only a station that is ON_LINE, in a line mode other than DOWN, drives the Link, on the wires of its mode alone: any other
keeps or clears what it has driven. A station whose LISTEN or QUIET ends, or whose mode returns to DUAL, as time passes
before the event may drive in it (R20, R47, R48, R51). -/
def Obligations.DrivesOnlyOnLine : Prop :=
  ∀ s t : State, step s = .next t → t.dev.fe.drove = s.dev.fe.drove ∨ t.dev.fe.drove = [] ∨
    ((s.dev.fe.station = .onLine ∨ s.dev.settleBoundary.fe.station = .onLine) ∧ s.dev.lif.mode ≠ .down ∧
      ∀ x ∈ t.dev.fe.drove, x ∈ s.dev.fe.drove ∨ (x.wires ≠ [] ∧
        (x.wires = s.dev.lif.mode.wires ∨ x.wires = s.dev.settleBoundary.lif.mode.wires ∨
          x.wires = t.dev.lif.mode.wires)))

/-- The go time of a record held in SET or AWAY moves only by an applied SLIP: it stays with its slip count, or the slip count
rises by one from fewer than 3 and the go time stays or moves later (R100, R106). -/
def Obligations.GoMovesOnlyBySlips : Prop :=
  ∀ (s t : State) (w x : Wave) (go : Tick), s.dev.idsOk → step s = .next t → w ∈ s.dev.wu.waves →
    (w.state = .goSet ∨ w.state = .away) → w.go = some go → x ∈ t.dev.wu.waves → x.ref = w.ref →
    (x.go = some go ∧ x.slips = w.slips) ∨
      (w.slips < 3 ∧ x.slips = w.slips + 1 ∧ ∃ go', x.go = some go' ∧ (go' = go ∨ before go go' = true))

/-- Every body within the ranges of R22 is read back from its bytes by its kind; an own frame of it, for a sender address in
1..62 and a class its kind allows, shows neither a framing error nor a CRC error as it stands on the line (R22 to R24,
R38). The slots of a frame's fields read back as its fields, and one slot without a transition, or a missing end, is found
as a coding violation; a symbol reads as its bit, two different symbols in one slot are dominant in both halves, which is 0 in
a shared slot and a violation in a sender-driven one, as a reject break is; and a reply field reads as the bits driven in it
(R18, R25, R30, R31). -/
def Obligations.BodyRoundTrip : Prop :=
  (∀ b : Body, b.wf = true →
    readBody b.kind b.bytes = some b ∧
    ∀ f : Frame, f.body = b → addrOk f.sender = true → b.kind.classOk f.cls = true →
      framed b.kind f.raw = some b ∧ crcError f.raw = false ∧
      RawFrame.ofSlots f.raw.slots = f.raw ∧ slotsBroken f.raw.slots = false) ∧
  (∀ (f : RawFrame) (more : List Slot), f.length.toNat = f.body.length →
    f.slots.length = fieldSlots f.body.length ∧
    RawFrame.ofSlots (f.slots ++ more) = f ∧ slotsBroken (f.slots ++ more) = false ∧
    ∀ i < f.slots.length, slotsBroken (f.slots.set i Slot.undriven) = true ∧ slotsBroken (f.slots.take i) = true ∧
      (9 ≤ i → slotsBroken (f.slots.set i ⟨.dominant, .dominant⟩) = true)) ∧
  (∀ (sort : SlotSort) (a b : Bool),
    (Slot.symbol a).read sort = (if a then .one else .zero) ∧
    (a ≠ b → (Slot.symbol a).wired (Slot.symbol b) = ⟨.dominant, .dominant⟩) ∧
    (Slot.mk .dominant .dominant).read .shared = .zero ∧ (Slot.mk .dominant .dominant).read .senderDriven = .violation ∧
    Slot.undriven.read sort = .violation ∧
    ∀ x ∈ LineAct.rejectBreak.slots, x.read .senderDriven = .violation ∧ x.read .shared = .zero) ∧
  (∀ (taker : Addr) (check : BitVec 2),
    (OfferReply.ofBits taker check).taker = taker ∧ (OfferReply.ofBits taker check).check = check ∧
    (OfferReply.ofBits taker check).fault = false)
end

