-- ==== Sys2Proof/Laws/State.lean ====
section
/-! SUPPORT. One lemma per field per update of the part's record, so that no proof unfolds a record update. -/

namespace Sys2Proof.Machine

@[simp] theorem Device.onSck_sck (f : Sck → Sck) (d : Device) : (d.onSck f).sck = f d.sck := rfl
@[simp] theorem Device.onSck_lif (f : Sck → Sck) (d : Device) : (d.onSck f).lif = d.lif := rfl
@[simp] theorem Device.onSck_fe (f : Sck → Sck) (d : Device) : (d.onSck f).fe = d.fe := rfl
@[simp] theorem Device.onSck_strap (f : Sck → Sck) (d : Device) : (d.onSck f).strap = d.strap := rfl
@[simp] theorem Device.onSck_wu (f : Sck → Sck) (d : Device) : (d.onSck f).wu = d.wu := rfl
@[simp] theorem Device.onSck_ti (f : Sck → Sck) (d : Device) : (d.onSck f).ti = d.ti := rfl
@[simp] theorem Device.onSck_bp (f : Sck → Sck) (d : Device) : (d.onSck f).bp = d.bp := rfl
@[simp] theorem Device.onSck_lu (f : Sck → Sck) (d : Device) : (d.onSck f).lu = d.lu := rfl
@[simp] theorem Device.onSck_iu (f : Sck → Sck) (d : Device) : (d.onSck f).iu = d.iu := rfl
@[simp] theorem Device.onSck_sp (f : Sck → Sck) (d : Device) : (d.onSck f).sp = d.sp := rfl
@[simp] theorem Device.onLif_sck (f : Lif → Lif) (d : Device) : (d.onLif f).sck = d.sck := rfl
@[simp] theorem Device.onLif_lif (f : Lif → Lif) (d : Device) : (d.onLif f).lif = f d.lif := rfl
@[simp] theorem Device.onLif_fe (f : Lif → Lif) (d : Device) : (d.onLif f).fe = d.fe := rfl
@[simp] theorem Device.onLif_strap (f : Lif → Lif) (d : Device) : (d.onLif f).strap = d.strap := rfl
@[simp] theorem Device.onLif_wu (f : Lif → Lif) (d : Device) : (d.onLif f).wu = d.wu := rfl
@[simp] theorem Device.onLif_ti (f : Lif → Lif) (d : Device) : (d.onLif f).ti = d.ti := rfl
@[simp] theorem Device.onLif_bp (f : Lif → Lif) (d : Device) : (d.onLif f).bp = d.bp := rfl
@[simp] theorem Device.onLif_lu (f : Lif → Lif) (d : Device) : (d.onLif f).lu = d.lu := rfl
@[simp] theorem Device.onLif_iu (f : Lif → Lif) (d : Device) : (d.onLif f).iu = d.iu := rfl
@[simp] theorem Device.onLif_sp (f : Lif → Lif) (d : Device) : (d.onLif f).sp = d.sp := rfl
@[simp] theorem Device.onFe_sck (f : Fe → Fe) (d : Device) : (d.onFe f).sck = d.sck := rfl
@[simp] theorem Device.onFe_lif (f : Fe → Fe) (d : Device) : (d.onFe f).lif = d.lif := rfl
@[simp] theorem Device.onFe_fe (f : Fe → Fe) (d : Device) : (d.onFe f).fe = f d.fe := rfl
@[simp] theorem Device.onFe_strap (f : Fe → Fe) (d : Device) : (d.onFe f).strap = d.strap := rfl
@[simp] theorem Device.onFe_wu (f : Fe → Fe) (d : Device) : (d.onFe f).wu = d.wu := rfl
@[simp] theorem Device.onFe_ti (f : Fe → Fe) (d : Device) : (d.onFe f).ti = d.ti := rfl
@[simp] theorem Device.onFe_bp (f : Fe → Fe) (d : Device) : (d.onFe f).bp = d.bp := rfl
@[simp] theorem Device.onFe_lu (f : Fe → Fe) (d : Device) : (d.onFe f).lu = d.lu := rfl
@[simp] theorem Device.onFe_iu (f : Fe → Fe) (d : Device) : (d.onFe f).iu = d.iu := rfl
@[simp] theorem Device.onFe_sp (f : Fe → Fe) (d : Device) : (d.onFe f).sp = d.sp := rfl
@[simp] theorem Device.onWu_sck (f : Wu → Wu) (d : Device) : (d.onWu f).sck = d.sck := rfl
@[simp] theorem Device.onWu_lif (f : Wu → Wu) (d : Device) : (d.onWu f).lif = d.lif := rfl
@[simp] theorem Device.onWu_fe (f : Wu → Wu) (d : Device) : (d.onWu f).fe = d.fe := rfl
@[simp] theorem Device.onWu_strap (f : Wu → Wu) (d : Device) : (d.onWu f).strap = d.strap := rfl
@[simp] theorem Device.onWu_wu (f : Wu → Wu) (d : Device) : (d.onWu f).wu = f d.wu := rfl
@[simp] theorem Device.onWu_ti (f : Wu → Wu) (d : Device) : (d.onWu f).ti = d.ti := rfl
@[simp] theorem Device.onWu_bp (f : Wu → Wu) (d : Device) : (d.onWu f).bp = d.bp := rfl
@[simp] theorem Device.onWu_lu (f : Wu → Wu) (d : Device) : (d.onWu f).lu = d.lu := rfl
@[simp] theorem Device.onWu_iu (f : Wu → Wu) (d : Device) : (d.onWu f).iu = d.iu := rfl
@[simp] theorem Device.onWu_sp (f : Wu → Wu) (d : Device) : (d.onWu f).sp = d.sp := rfl
@[simp] theorem Device.onTi_sck (f : Ti → Ti) (d : Device) : (d.onTi f).sck = d.sck := rfl
@[simp] theorem Device.onTi_lif (f : Ti → Ti) (d : Device) : (d.onTi f).lif = d.lif := rfl
@[simp] theorem Device.onTi_fe (f : Ti → Ti) (d : Device) : (d.onTi f).fe = d.fe := rfl
@[simp] theorem Device.onTi_strap (f : Ti → Ti) (d : Device) : (d.onTi f).strap = d.strap := rfl
@[simp] theorem Device.onTi_wu (f : Ti → Ti) (d : Device) : (d.onTi f).wu = d.wu := rfl
@[simp] theorem Device.onTi_ti (f : Ti → Ti) (d : Device) : (d.onTi f).ti = f d.ti := rfl
@[simp] theorem Device.onTi_bp (f : Ti → Ti) (d : Device) : (d.onTi f).bp = d.bp := rfl
@[simp] theorem Device.onTi_lu (f : Ti → Ti) (d : Device) : (d.onTi f).lu = d.lu := rfl
@[simp] theorem Device.onTi_iu (f : Ti → Ti) (d : Device) : (d.onTi f).iu = d.iu := rfl
@[simp] theorem Device.onTi_sp (f : Ti → Ti) (d : Device) : (d.onTi f).sp = d.sp := rfl
@[simp] theorem Device.onBp_sck (f : Bp → Bp) (d : Device) : (d.onBp f).sck = d.sck := rfl
@[simp] theorem Device.onBp_lif (f : Bp → Bp) (d : Device) : (d.onBp f).lif = d.lif := rfl
@[simp] theorem Device.onBp_fe (f : Bp → Bp) (d : Device) : (d.onBp f).fe = d.fe := rfl
@[simp] theorem Device.onBp_strap (f : Bp → Bp) (d : Device) : (d.onBp f).strap = d.strap := rfl
@[simp] theorem Device.onBp_wu (f : Bp → Bp) (d : Device) : (d.onBp f).wu = d.wu := rfl
@[simp] theorem Device.onBp_ti (f : Bp → Bp) (d : Device) : (d.onBp f).ti = d.ti := rfl
@[simp] theorem Device.onBp_bp (f : Bp → Bp) (d : Device) : (d.onBp f).bp = f d.bp := rfl
@[simp] theorem Device.onBp_lu (f : Bp → Bp) (d : Device) : (d.onBp f).lu = d.lu := rfl
@[simp] theorem Device.onBp_iu (f : Bp → Bp) (d : Device) : (d.onBp f).iu = d.iu := rfl
@[simp] theorem Device.onBp_sp (f : Bp → Bp) (d : Device) : (d.onBp f).sp = d.sp := rfl
@[simp] theorem Device.onLu_sck (f : Lu → Lu) (d : Device) : (d.onLu f).sck = d.sck := rfl
@[simp] theorem Device.onLu_lif (f : Lu → Lu) (d : Device) : (d.onLu f).lif = d.lif := rfl
@[simp] theorem Device.onLu_fe (f : Lu → Lu) (d : Device) : (d.onLu f).fe = d.fe := rfl
@[simp] theorem Device.onLu_strap (f : Lu → Lu) (d : Device) : (d.onLu f).strap = d.strap := rfl
@[simp] theorem Device.onLu_wu (f : Lu → Lu) (d : Device) : (d.onLu f).wu = d.wu := rfl
@[simp] theorem Device.onLu_ti (f : Lu → Lu) (d : Device) : (d.onLu f).ti = d.ti := rfl
@[simp] theorem Device.onLu_bp (f : Lu → Lu) (d : Device) : (d.onLu f).bp = d.bp := rfl
@[simp] theorem Device.onLu_lu (f : Lu → Lu) (d : Device) : (d.onLu f).lu = f d.lu := rfl
@[simp] theorem Device.onLu_iu (f : Lu → Lu) (d : Device) : (d.onLu f).iu = d.iu := rfl
@[simp] theorem Device.onLu_sp (f : Lu → Lu) (d : Device) : (d.onLu f).sp = d.sp := rfl
@[simp] theorem Device.onIu_sck (f : Iu → Iu) (d : Device) : (d.onIu f).sck = d.sck := rfl
@[simp] theorem Device.onIu_lif (f : Iu → Iu) (d : Device) : (d.onIu f).lif = d.lif := rfl
@[simp] theorem Device.onIu_fe (f : Iu → Iu) (d : Device) : (d.onIu f).fe = d.fe := rfl
@[simp] theorem Device.onIu_strap (f : Iu → Iu) (d : Device) : (d.onIu f).strap = d.strap := rfl
@[simp] theorem Device.onIu_wu (f : Iu → Iu) (d : Device) : (d.onIu f).wu = d.wu := rfl
@[simp] theorem Device.onIu_ti (f : Iu → Iu) (d : Device) : (d.onIu f).ti = d.ti := rfl
@[simp] theorem Device.onIu_bp (f : Iu → Iu) (d : Device) : (d.onIu f).bp = d.bp := rfl
@[simp] theorem Device.onIu_lu (f : Iu → Iu) (d : Device) : (d.onIu f).lu = d.lu := rfl
@[simp] theorem Device.onIu_iu (f : Iu → Iu) (d : Device) : (d.onIu f).iu = f d.iu := rfl
@[simp] theorem Device.onIu_sp (f : Iu → Iu) (d : Device) : (d.onIu f).sp = d.sp := rfl
@[simp] theorem Device.onSp_sck (f : Sp → Sp) (d : Device) : (d.onSp f).sck = d.sck := rfl
@[simp] theorem Device.onSp_lif (f : Sp → Sp) (d : Device) : (d.onSp f).lif = d.lif := rfl
@[simp] theorem Device.onSp_fe (f : Sp → Sp) (d : Device) : (d.onSp f).fe = d.fe := rfl
@[simp] theorem Device.onSp_strap (f : Sp → Sp) (d : Device) : (d.onSp f).strap = d.strap := rfl
@[simp] theorem Device.onSp_wu (f : Sp → Sp) (d : Device) : (d.onSp f).wu = d.wu := rfl
@[simp] theorem Device.onSp_ti (f : Sp → Sp) (d : Device) : (d.onSp f).ti = d.ti := rfl
@[simp] theorem Device.onSp_bp (f : Sp → Sp) (d : Device) : (d.onSp f).bp = d.bp := rfl
@[simp] theorem Device.onSp_lu (f : Sp → Sp) (d : Device) : (d.onSp f).lu = d.lu := rfl
@[simp] theorem Device.onSp_iu (f : Sp → Sp) (d : Device) : (d.onSp f).iu = d.iu := rfl
@[simp] theorem Device.onSp_sp (f : Sp → Sp) (d : Device) : (d.onSp f).sp = f d.sp := rfl

@[simp] theorem State.onDev_dev (f : Device → Device) (s : State) : (s.onDev f).dev = f s.dev := rfl
@[simp] theorem State.onDev_pending (f : Device → Device) (s : State) : (s.onDev f).pending = s.pending := rfl

/-! Answering, notices, the transmit queue. -/

@[simp] theorem Device.answer_sck (st : Status) (l : List Byte) (d : Device) : (d.answer st l).sck = d.sck := rfl
@[simp] theorem Device.answer_lif (st : Status) (l : List Byte) (d : Device) : (d.answer st l).lif = d.lif := rfl
@[simp] theorem Device.answer_fe (st : Status) (l : List Byte) (d : Device) : (d.answer st l).fe = d.fe := rfl
@[simp] theorem Device.answer_strap (st : Status) (l : List Byte) (d : Device) : (d.answer st l).strap = d.strap := rfl
@[simp] theorem Device.answer_wu (st : Status) (l : List Byte) (d : Device) : (d.answer st l).wu = d.wu := rfl
@[simp] theorem Device.answer_ti (st : Status) (l : List Byte) (d : Device) : (d.answer st l).ti = d.ti := rfl
@[simp] theorem Device.answer_bp (st : Status) (l : List Byte) (d : Device) : (d.answer st l).bp = d.bp := rfl
@[simp] theorem Device.answer_lu (st : Status) (l : List Byte) (d : Device) : (d.answer st l).lu = d.lu := rfl
@[simp] theorem Device.answer_iu (st : Status) (l : List Byte) (d : Device) : (d.answer st l).iu = d.iu := rfl
@[simp] theorem Device.answer_config (st : Status) (l : List Byte) (d : Device) :
    (d.answer st l).sp.config = d.sp.config := rfl
@[simp] theorem Device.answer_menu (st : Status) (l : List Byte) (d : Device) :
    (d.answer st l).sp.menu = d.sp.menu := rfl
@[simp] theorem Device.answer_notices (st : Status) (l : List Byte) (d : Device) :
    (d.answer st l).sp.notices = d.sp.notices := rfl
@[simp] theorem Device.answer_lost (st : Status) (l : List Byte) (d : Device) :
    (d.answer st l).sp.lost = d.sp.lost := rfl
@[simp] theorem Device.answer_reply (st : Status) (l : List Byte) (d : Device) :
    (d.answer st l).sp.reply = ⟨st, l⟩ := rfl
@[simp] theorem Device.notify_sck (n : NoticeBody) (d : Device) : (d.notify n).sck = d.sck := rfl
@[simp] theorem Device.notify_lif (n : NoticeBody) (d : Device) : (d.notify n).lif = d.lif := rfl
@[simp] theorem Device.notify_fe (n : NoticeBody) (d : Device) : (d.notify n).fe = d.fe := rfl
@[simp] theorem Device.notify_strap (n : NoticeBody) (d : Device) : (d.notify n).strap = d.strap := rfl
@[simp] theorem Device.notify_wu (n : NoticeBody) (d : Device) : (d.notify n).wu = d.wu := rfl
@[simp] theorem Device.notify_ti (n : NoticeBody) (d : Device) : (d.notify n).ti = d.ti := rfl
@[simp] theorem Device.notify_bp (n : NoticeBody) (d : Device) : (d.notify n).bp = d.bp := rfl
@[simp] theorem Device.notify_lu (n : NoticeBody) (d : Device) : (d.notify n).lu = d.lu := rfl
@[simp] theorem Device.notify_iu (n : NoticeBody) (d : Device) : (d.notify n).iu = d.iu := rfl
@[simp] theorem Sp.queueNotice_config (now : Tick) (n : NoticeBody) (p : Sp) :
    (p.queueNotice now n).config = p.config := by
  unfold Sp.queueNotice; split
  · rfl
  · split <;> rfl
@[simp] theorem Device.notify_config (n : NoticeBody) (d : Device) : (d.notify n).sp.config = d.sp.config :=
  Sp.queueNotice_config _ _ _
@[simp] theorem Sp.queueNotice_menu (now : Tick) (n : NoticeBody) (p : Sp) :
    (p.queueNotice now n).menu = p.menu := by
  unfold Sp.queueNotice; split
  · rfl
  · split <;> rfl
@[simp] theorem Device.notify_menu (n : NoticeBody) (d : Device) : (d.notify n).sp.menu = d.sp.menu :=
  Sp.queueNotice_menu _ _ _
@[simp] theorem Sp.queueNotice_reply (now : Tick) (n : NoticeBody) (p : Sp) :
    (p.queueNotice now n).reply = p.reply := by
  unfold Sp.queueNotice; split
  · rfl
  · split <;> rfl
@[simp] theorem Device.notify_reply (n : NoticeBody) (d : Device) : (d.notify n).sp.reply = d.sp.reply :=
  Sp.queueNotice_reply _ _ _
@[simp] theorem Device.place_sck (e : TxEntry) (d : Device) : (d.place e).sck = d.sck := rfl
@[simp] theorem Device.place_lif (e : TxEntry) (d : Device) : (d.place e).lif = d.lif := rfl
@[simp] theorem Device.place_strap (e : TxEntry) (d : Device) : (d.place e).strap = d.strap := rfl
@[simp] theorem Device.place_wu (e : TxEntry) (d : Device) : (d.place e).wu = d.wu := rfl
@[simp] theorem Device.place_ti (e : TxEntry) (d : Device) : (d.place e).ti = d.ti := rfl
@[simp] theorem Device.place_bp (e : TxEntry) (d : Device) : (d.place e).bp = d.bp := rfl
@[simp] theorem Device.place_lu (e : TxEntry) (d : Device) : (d.place e).lu = d.lu := rfl
@[simp] theorem Device.place_iu (e : TxEntry) (d : Device) : (d.place e).iu = d.iu := rfl
@[simp] theorem Device.place_sp (e : TxEntry) (d : Device) : (d.place e).sp = d.sp := rfl
@[simp] theorem Device.place_station (e : TxEntry) (d : Device) : (d.place e).fe.station = d.fe.station := rfl
@[simp] theorem Device.place_listenCount (e : TxEntry) (d : Device) : (d.place e).fe.listenCount = d.fe.listenCount := rfl
@[simp] theorem Device.place_quietCount (e : TxEntry) (d : Device) : (d.place e).fe.quietCount = d.fe.quietCount := rfl
@[simp] theorem Device.place_viewFrom (e : TxEntry) (d : Device) : (d.place e).fe.viewFrom = d.fe.viewFrom := rfl
@[simp] theorem Device.place_tecCount (e : TxEntry) (d : Device) : (d.place e).fe.tecCount = d.fe.tecCount := rfl
@[simp] theorem Device.place_recCount (e : TxEntry) (d : Device) : (d.place e).fe.recCount = d.fe.recCount := rfl
@[simp] theorem Device.place_idleCount (e : TxEntry) (d : Device) : (d.place e).fe.idleCount = d.fe.idleCount := rfl
@[simp] theorem Device.place_inFlight (e : TxEntry) (d : Device) : (d.place e).fe.inFlight = d.fe.inFlight := rfl
@[simp] theorem Device.place_rx (e : TxEntry) (d : Device) : (d.place e).fe.rx = d.fe.rx := rfl
@[simp] theorem Device.place_drove (e : TxEntry) (d : Device) : (d.place e).fe.drove = d.fe.drove := rfl
@[simp] theorem Device.place_txq (e : TxEntry) (d : Device) : (d.place e).fe.txq = placeEntry e d.fe.txq := rfl
@[simp] theorem Device.withdraw_sck (e : TxEntry) (d : Device) : (d.withdraw e).sck = d.sck := rfl
@[simp] theorem Device.withdraw_lif (e : TxEntry) (d : Device) : (d.withdraw e).lif = d.lif := rfl
@[simp] theorem Device.withdraw_strap (e : TxEntry) (d : Device) : (d.withdraw e).strap = d.strap := rfl
@[simp] theorem Device.withdraw_wu (e : TxEntry) (d : Device) : (d.withdraw e).wu = d.wu := rfl
@[simp] theorem Device.withdraw_ti (e : TxEntry) (d : Device) : (d.withdraw e).ti = d.ti := rfl
@[simp] theorem Device.withdraw_bp (e : TxEntry) (d : Device) : (d.withdraw e).bp = d.bp := rfl
@[simp] theorem Device.withdraw_lu (e : TxEntry) (d : Device) : (d.withdraw e).lu = d.lu := rfl
@[simp] theorem Device.withdraw_iu (e : TxEntry) (d : Device) : (d.withdraw e).iu = d.iu := rfl
@[simp] theorem Device.withdraw_sp (e : TxEntry) (d : Device) : (d.withdraw e).sp = d.sp := rfl
@[simp] theorem Device.withdraw_station (e : TxEntry) (d : Device) : (d.withdraw e).fe.station = d.fe.station := rfl
@[simp] theorem Device.withdraw_listenCount (e : TxEntry) (d : Device) : (d.withdraw e).fe.listenCount = d.fe.listenCount := rfl
@[simp] theorem Device.withdraw_quietCount (e : TxEntry) (d : Device) : (d.withdraw e).fe.quietCount = d.fe.quietCount := rfl
@[simp] theorem Device.withdraw_viewFrom (e : TxEntry) (d : Device) : (d.withdraw e).fe.viewFrom = d.fe.viewFrom := rfl
@[simp] theorem Device.withdraw_tecCount (e : TxEntry) (d : Device) : (d.withdraw e).fe.tecCount = d.fe.tecCount := rfl
@[simp] theorem Device.withdraw_recCount (e : TxEntry) (d : Device) : (d.withdraw e).fe.recCount = d.fe.recCount := rfl
@[simp] theorem Device.withdraw_idleCount (e : TxEntry) (d : Device) : (d.withdraw e).fe.idleCount = d.fe.idleCount := rfl
@[simp] theorem Device.withdraw_inFlight (e : TxEntry) (d : Device) : (d.withdraw e).fe.inFlight = d.fe.inFlight := rfl
@[simp] theorem Device.withdraw_rx (e : TxEntry) (d : Device) : (d.withdraw e).fe.rx = d.fe.rx := rfl
@[simp] theorem Device.withdraw_drove (e : TxEntry) (d : Device) : (d.withdraw e).fe.drove = d.fe.drove := rfl
@[simp] theorem Device.withdraw_txq (e : TxEntry) (d : Device) : (d.withdraw e).fe.txq = withdrawEntry e d.fe.txq := rfl

/-! Records. -/

@[simp] theorem Device.onWave_waves (r : Nat) (f : Wave → Wave) (d : Device) :
    (d.onWave r f).wu.waves = d.wu.waves.map (fun w => if w.ref == r then f w else w) := rfl
@[simp] theorem Device.onWave_nextRef (r : Nat) (f : Wave → Wave) (d : Device) :
    (d.onWave r f).wu.nextRef = d.wu.nextRef := rfl
@[simp] theorem Device.onBatch_batches (b : Nat) (f : Batch → Batch) (d : Device) :
    (d.onBatch b f).bp.batches = d.bp.batches.map (fun x => if x.bid == b then f x else x) := rfl
@[simp] theorem Device.onBatch_nextBid (b : Nat) (f : Batch → Batch) (d : Device) :
    (d.onBatch b f).bp.nextBid = d.bp.nextBid := rfl
@[simp] theorem Device.onBatch_handed (b : Nat) (f : Batch → Batch) (d : Device) :
    (d.onBatch b f).bp.handed = d.bp.handed := rfl
@[simp] theorem Device.onBatch_fireQ (b : Nat) (f : Batch → Batch) (d : Device) :
    (d.onBatch b f).bp.fireQ = d.bp.fireQ := rfl
@[simp] theorem Device.addWave_waves (w : Wave) (d : Device) : (d.addWave w).wu.waves = d.wu.waves ++ [w] := rfl
@[simp] theorem Device.addWave_nextRef (w : Wave) (d : Device) : (d.addWave w).wu.nextRef = d.wu.nextRef + 1 := rfl
@[simp] theorem Lu.setLane_ring (i : Fin 8) (f : Lane → Lane) (u : Lu) : (u.setLane i f).ring = u.ring := rfl
@[simp] theorem Lu.setLane_bell (i : Fin 8) (f : Lane → Lane) (u : Lu) : (u.setLane i f).bell = u.bell := rfl
@[simp] theorem Device.onWave_sck (r : Nat) (f : Wave → Wave) (d : Device) : (d.onWave r f).sck = d.sck := rfl
@[simp] theorem Device.onWave_lif (r : Nat) (f : Wave → Wave) (d : Device) : (d.onWave r f).lif = d.lif := rfl
@[simp] theorem Device.onWave_fe (r : Nat) (f : Wave → Wave) (d : Device) : (d.onWave r f).fe = d.fe := rfl
@[simp] theorem Device.onWave_strap (r : Nat) (f : Wave → Wave) (d : Device) : (d.onWave r f).strap = d.strap := rfl
@[simp] theorem Device.onWave_ti (r : Nat) (f : Wave → Wave) (d : Device) : (d.onWave r f).ti = d.ti := rfl
@[simp] theorem Device.onWave_bp (r : Nat) (f : Wave → Wave) (d : Device) : (d.onWave r f).bp = d.bp := rfl
@[simp] theorem Device.onWave_lu (r : Nat) (f : Wave → Wave) (d : Device) : (d.onWave r f).lu = d.lu := rfl
@[simp] theorem Device.onWave_iu (r : Nat) (f : Wave → Wave) (d : Device) : (d.onWave r f).iu = d.iu := rfl
@[simp] theorem Device.onWave_sp (r : Nat) (f : Wave → Wave) (d : Device) : (d.onWave r f).sp = d.sp := rfl
@[simp] theorem Device.onBatch_sck (b : Nat) (f : Batch → Batch) (d : Device) : (d.onBatch b f).sck = d.sck := rfl
@[simp] theorem Device.onBatch_lif (b : Nat) (f : Batch → Batch) (d : Device) : (d.onBatch b f).lif = d.lif := rfl
@[simp] theorem Device.onBatch_fe (b : Nat) (f : Batch → Batch) (d : Device) : (d.onBatch b f).fe = d.fe := rfl
@[simp] theorem Device.onBatch_strap (b : Nat) (f : Batch → Batch) (d : Device) : (d.onBatch b f).strap = d.strap := rfl
@[simp] theorem Device.onBatch_wu (b : Nat) (f : Batch → Batch) (d : Device) : (d.onBatch b f).wu = d.wu := rfl
@[simp] theorem Device.onBatch_ti (b : Nat) (f : Batch → Batch) (d : Device) : (d.onBatch b f).ti = d.ti := rfl
@[simp] theorem Device.onBatch_lu (b : Nat) (f : Batch → Batch) (d : Device) : (d.onBatch b f).lu = d.lu := rfl
@[simp] theorem Device.onBatch_iu (b : Nat) (f : Batch → Batch) (d : Device) : (d.onBatch b f).iu = d.iu := rfl
@[simp] theorem Device.onBatch_sp (b : Nat) (f : Batch → Batch) (d : Device) : (d.onBatch b f).sp = d.sp := rfl
@[simp] theorem Device.onLane_sck (i : Fin 8) (f : Lane → Lane) (d : Device) : (d.onLane i f).sck = d.sck := rfl
@[simp] theorem Device.onLane_lif (i : Fin 8) (f : Lane → Lane) (d : Device) : (d.onLane i f).lif = d.lif := rfl
@[simp] theorem Device.onLane_fe (i : Fin 8) (f : Lane → Lane) (d : Device) : (d.onLane i f).fe = d.fe := rfl
@[simp] theorem Device.onLane_strap (i : Fin 8) (f : Lane → Lane) (d : Device) : (d.onLane i f).strap = d.strap := rfl
@[simp] theorem Device.onLane_wu (i : Fin 8) (f : Lane → Lane) (d : Device) : (d.onLane i f).wu = d.wu := rfl
@[simp] theorem Device.onLane_ti (i : Fin 8) (f : Lane → Lane) (d : Device) : (d.onLane i f).ti = d.ti := rfl
@[simp] theorem Device.onLane_bp (i : Fin 8) (f : Lane → Lane) (d : Device) : (d.onLane i f).bp = d.bp := rfl
@[simp] theorem Device.onLane_iu (i : Fin 8) (f : Lane → Lane) (d : Device) : (d.onLane i f).iu = d.iu := rfl
@[simp] theorem Device.onLane_sp (i : Fin 8) (f : Lane → Lane) (d : Device) : (d.onLane i f).sp = d.sp := rfl
@[simp] theorem Device.addWave_sck (w : Wave) (d : Device) : (d.addWave w).sck = d.sck := rfl
@[simp] theorem Device.addWave_lif (w : Wave) (d : Device) : (d.addWave w).lif = d.lif := rfl
@[simp] theorem Device.addWave_fe (w : Wave) (d : Device) : (d.addWave w).fe = d.fe := rfl
@[simp] theorem Device.addWave_strap (w : Wave) (d : Device) : (d.addWave w).strap = d.strap := rfl
@[simp] theorem Device.addWave_ti (w : Wave) (d : Device) : (d.addWave w).ti = d.ti := rfl
@[simp] theorem Device.addWave_bp (w : Wave) (d : Device) : (d.addWave w).bp = d.bp := rfl
@[simp] theorem Device.addWave_lu (w : Wave) (d : Device) : (d.addWave w).lu = d.lu := rfl
@[simp] theorem Device.addWave_iu (w : Wave) (d : Device) : (d.addWave w).iu = d.iu := rfl
@[simp] theorem Device.addWave_sp (w : Wave) (d : Device) : (d.addWave w).sp = d.sp := rfl
@[simp] theorem Device.addBatch_sck (b : Batch) (d : Device) : (d.addBatch b).sck = d.sck := rfl
@[simp] theorem Device.addBatch_lif (b : Batch) (d : Device) : (d.addBatch b).lif = d.lif := rfl
@[simp] theorem Device.addBatch_fe (b : Batch) (d : Device) : (d.addBatch b).fe = d.fe := rfl
@[simp] theorem Device.addBatch_strap (b : Batch) (d : Device) : (d.addBatch b).strap = d.strap := rfl
@[simp] theorem Device.addBatch_wu (b : Batch) (d : Device) : (d.addBatch b).wu = d.wu := rfl
@[simp] theorem Device.addBatch_ti (b : Batch) (d : Device) : (d.addBatch b).ti = d.ti := rfl
@[simp] theorem Device.addBatch_lu (b : Batch) (d : Device) : (d.addBatch b).lu = d.lu := rfl
@[simp] theorem Device.addBatch_iu (b : Batch) (d : Device) : (d.addBatch b).iu = d.iu := rfl
@[simp] theorem Device.addBatch_sp (b : Batch) (d : Device) : (d.addBatch b).sp = d.sp := rfl
@[simp] theorem Device.leaveFire_sck (b : Nat) (d : Device) : (d.leaveFire b).sck = d.sck := rfl
@[simp] theorem Device.leaveFire_lif (b : Nat) (d : Device) : (d.leaveFire b).lif = d.lif := rfl
@[simp] theorem Device.leaveFire_fe (b : Nat) (d : Device) : (d.leaveFire b).fe = d.fe := rfl
@[simp] theorem Device.leaveFire_strap (b : Nat) (d : Device) : (d.leaveFire b).strap = d.strap := rfl
@[simp] theorem Device.leaveFire_wu (b : Nat) (d : Device) : (d.leaveFire b).wu = d.wu := rfl
@[simp] theorem Device.leaveFire_ti (b : Nat) (d : Device) : (d.leaveFire b).ti = d.ti := rfl
@[simp] theorem Device.leaveFire_lu (b : Nat) (d : Device) : (d.leaveFire b).lu = d.lu := rfl
@[simp] theorem Device.leaveFire_iu (b : Nat) (d : Device) : (d.leaveFire b).iu = d.iu := rfl
@[simp] theorem Device.leaveFire_sp (b : Nat) (d : Device) : (d.leaveFire b).sp = d.sp := rfl
@[simp] theorem Device.reorderFire_sck (d : Device) : (d.reorderFire).sck = d.sck := rfl
@[simp] theorem Device.reorderFire_lif (d : Device) : (d.reorderFire).lif = d.lif := rfl
@[simp] theorem Device.reorderFire_fe (d : Device) : (d.reorderFire).fe = d.fe := rfl
@[simp] theorem Device.reorderFire_strap (d : Device) : (d.reorderFire).strap = d.strap := rfl
@[simp] theorem Device.reorderFire_wu (d : Device) : (d.reorderFire).wu = d.wu := rfl
@[simp] theorem Device.reorderFire_ti (d : Device) : (d.reorderFire).ti = d.ti := rfl
@[simp] theorem Device.reorderFire_lu (d : Device) : (d.reorderFire).lu = d.lu := rfl
@[simp] theorem Device.reorderFire_iu (d : Device) : (d.reorderFire).iu = d.iu := rfl
@[simp] theorem Device.reorderFire_sp (d : Device) : (d.reorderFire).sp = d.sp := rfl

/-! The line modes, and what the passing of time leaves. -/

@[simp] theorem LineMode.wires_isEmpty (m : LineMode) : m.wires.isEmpty = (m == .down) := by cases m <;> rfl
@[simp] theorem LineMode.path_isSome (m : LineMode) : m.path.isSome = (m != .down) := by cases m <;> rfl
@[simp] theorem Lif.passSlots_mode (n : Nat) (l : Lif) : (l.passSlots n).mode = l.mode := rfl
@[simp] theorem Lif.passSlots_wireA (n : Nat) (l : Lif) : (l.passSlots n).wireA = l.wireA := rfl
@[simp] theorem Lif.passSlots_wireB (n : Nat) (l : Lif) : (l.passSlots n).wireB = l.wireB := rfl
@[simp] theorem Lif.passSlots_cleanCount (n : Nat) (l : Lif) : (l.passSlots n).cleanCount = l.cleanCount := rfl
@[simp] theorem Lif.hear_mode (q : Silences) (l : Lif) : (l.hear q).mode = l.mode := rfl
@[simp] theorem Lif.hear_wireA (q : Silences) (l : Lif) : (l.hear q).wireA = l.wireA := rfl
@[simp] theorem Lif.hear_wireB (q : Silences) (l : Lif) : (l.hear q).wireB = l.wireB := rfl
@[simp] theorem Lif.hear_cleanCount (q : Silences) (l : Lif) : (l.hear q).cleanCount = l.cleanCount := rfl
@[simp] theorem Lif.hear_silenceA (q : Silences) (l : Lif) : (l.hear q).silenceA = q.silentA.val := rfl
@[simp] theorem Lif.hear_silenceB (q : Silences) (l : Lif) : (l.hear q).silenceB = q.silentB.val := rfl
@[simp] theorem Device.pass_zero (d : Device) : d.pass 0 = d := rfl
@[simp] theorem Device.drive_drove (a : LineAct) (d : Device) : (d.drive a).fe.drove = d.fe.drove ++ [d.driven a] := rfl
@[simp] theorem Device.drive_lif (a : LineAct) (d : Device) : (d.drive a).lif = d.lif := rfl
@[simp] theorem Device.drive_rx (a : LineAct) (d : Device) : (d.drive a).fe.rx = d.fe.rx := rfl
@[simp] theorem Device.drive_inFlight (a : LineAct) (d : Device) : (d.drive a).fe.inFlight = d.fe.inFlight := rfl
@[simp] theorem Device.edge_lif (d : Device) : d.edge.lif = d.lif := rfl
@[simp] theorem Device.edge_fe (d : Device) : d.edge.fe = { d.fe with idleCount := 0 } := rfl

/-- Where time passes: nothing where no count does, else what was to be taken at this instant, and the prescaler rises. -/
theorem Device.pass_cases (n : Nat) (d : Device) :
    (n = 0 ∧ d.pass n = d) ∨ (n ≠ 0 ∧ d.pass n = (d.settleBoundary).onSck (Sck.advance n)) := by
  unfold Device.pass
  by_cases h : n = 0 <;> simp [h]

/-- Time passing with nothing to be taken moves the prescaler alone. -/
theorem Device.pass_of_settled (n : Nat) (d : Device) (hr : d.returnDue = false) (hb : d.sck.atBoundary = false) :
    d.pass n = if n = 0 then d else d.onSck (Sck.advance n) := by
  simp [Device.pass, Device.settleBoundary, Device.lineReturn, hr, hb]

/-- Reading a lane after a lane was changed. -/
@[simp] theorem Device.onLane_lane (i j : Fin 8) (f : Lane → Lane) (d : Device) :
    (d.onLane i f).lane j = if i = j then f (d.lane i) else d.lane j := by
  have h : (d.onLane i f).lane j = (d.lu.lanes.set i (f d.lu.lanes[i]))[j] := rfl
  rw [h]
  by_cases e : i = j
  · subst e; simp [Device.lane]
  · have e' : i.val ≠ j.val := fun x => e (Fin.ext x)
    simp [Device.lane, e, e']

end Sys2Proof.Machine
end

