-- ==== Sys2Proof/Laws/Kept.lean ====
section
/-! SUPPORT. What the shared operations of the waves, batches and lanes leave alone (`Device.Kept`): one lemma for each
operation, which a proof cites instead of unfolding it. -/

set_option linter.unusedTactic false
set_option linter.unnecessarySeqFocus false
set_option linter.unreachableTactic false
set_option linter.unusedSimpArgs false

namespace Sys2Proof.Machine

@[simp] theorem Device.Kept.refl (d : Device) : d.Kept d :=
  ⟨rfl, rfl, rfl, rfl, rfl, rfl, rfl, rfl, rfl, rfl, rfl, rfl, rfl, rfl, rfl, rfl⟩

theorem Device.Kept.trans {a b c : Device} (h : a.Kept b) (k : b.Kept c) : a.Kept c :=
  ⟨k.sck.trans h.sck, k.lif.trans h.lif, k.strap.trans h.strap, k.config.trans h.config, k.menu.trans h.menu,
   k.reply.trans h.reply, k.station.trans h.station, k.listenCount.trans h.listenCount,
   k.quietCount.trans h.quietCount, k.viewFrom.trans h.viewFrom, k.tecCount.trans h.tecCount,
   k.recCount.trans h.recCount, k.idleCount.trans h.idleCount, k.drove.trans h.drove, k.rx.trans h.rx, k.flight.trans h.flight⟩

theorem Device.Kept.symm {a b : Device} (h : a.Kept b) : b.Kept a :=
  ⟨h.sck.symm, h.lif.symm, h.strap.symm, h.config.symm, h.menu.symm, h.reply.symm, h.station.symm,
   h.listenCount.symm, h.quietCount.symm, h.viewFrom.symm, h.tecCount.symm, h.recCount.symm, h.idleCount.symm,
   h.drove.symm, h.rx.symm, h.flight.symm⟩

/-- An operation that keeps `e` may be dropped from the right of `Kept`. -/
theorem Device.Kept.drop {e e' : Device} (h : e.Kept e') (d : Device) : d.Kept e' ↔ d.Kept e :=
  ⟨fun k => k.trans h.symm, fun k => k.trans h⟩

@[simp] theorem Device.kept_foldl {α : Type} (f : Device → α → Device) (h : ∀ (x : Device) (a : α), x.Kept (f x a)) (l : List α)
    (d e : Device) : d.Kept (l.foldl f e) ↔ d.Kept e := by
  induction l generalizing e with
  | nil => rfl
  | cons a l ih => rw [List.foldl_cons, ih, (h e a).drop d]

@[simp] theorem Device.kept_ite (c : Prop) [Decidable c] (d a b : Device) (ha : d.Kept a) (hb : d.Kept b) :
    d.Kept (if c then a else b) := by
  by_cases h : c <;> simp [h, ha, hb]

/-- A change of the frame in flight alone. -/
@[simp] theorem Device.kept_inFlight (g : InFlight → InFlight) (d e : Device) :
    d.Kept (e.onFe (fun f => { f with inFlight := f.inFlight.map g })) ↔ d.Kept e :=
  (show e.Kept (e.onFe (fun f => { f with inFlight := f.inFlight.map g })) from
    ⟨rfl, rfl, rfl, rfl, rfl, rfl, rfl, rfl, rfl, rfl, rfl, rfl, rfl, rfl, rfl, by simp⟩).drop d

theorem Device.onWu_kept (f : Wu → Wu) (d : Device) : d.Kept (d.onWu f) := ⟨rfl, rfl, rfl, rfl, rfl, rfl, rfl, rfl, rfl, rfl, rfl, rfl, rfl, rfl, rfl, rfl⟩
@[simp] theorem Device.kept_onWu (f : Wu → Wu) (d e : Device) : d.Kept (e.onWu f) ↔ d.Kept e :=
  (Device.onWu_kept f e).drop d

theorem Device.onTi_kept (f : Ti → Ti) (d : Device) : d.Kept (d.onTi f) := ⟨rfl, rfl, rfl, rfl, rfl, rfl, rfl, rfl, rfl, rfl, rfl, rfl, rfl, rfl, rfl, rfl⟩
@[simp] theorem Device.kept_onTi (f : Ti → Ti) (d e : Device) : d.Kept (e.onTi f) ↔ d.Kept e :=
  (Device.onTi_kept f e).drop d

theorem Device.onBp_kept (f : Bp → Bp) (d : Device) : d.Kept (d.onBp f) := ⟨rfl, rfl, rfl, rfl, rfl, rfl, rfl, rfl, rfl, rfl, rfl, rfl, rfl, rfl, rfl, rfl⟩
@[simp] theorem Device.kept_onBp (f : Bp → Bp) (d e : Device) : d.Kept (e.onBp f) ↔ d.Kept e :=
  (Device.onBp_kept f e).drop d

theorem Device.onLu_kept (f : Lu → Lu) (d : Device) : d.Kept (d.onLu f) := ⟨rfl, rfl, rfl, rfl, rfl, rfl, rfl, rfl, rfl, rfl, rfl, rfl, rfl, rfl, rfl, rfl⟩
@[simp] theorem Device.kept_onLu (f : Lu → Lu) (d e : Device) : d.Kept (e.onLu f) ↔ d.Kept e :=
  (Device.onLu_kept f e).drop d

theorem Device.onIu_kept (f : Iu → Iu) (d : Device) : d.Kept (d.onIu f) := ⟨rfl, rfl, rfl, rfl, rfl, rfl, rfl, rfl, rfl, rfl, rfl, rfl, rfl, rfl, rfl, rfl⟩
@[simp] theorem Device.kept_onIu (f : Iu → Iu) (d e : Device) : d.Kept (e.onIu f) ↔ d.Kept e :=
  (Device.onIu_kept f e).drop d

theorem Device.notify_kept (n : NoticeBody) (d : Device) : d.Kept (d.notify n) :=
  ⟨rfl, rfl, rfl, by simp, by simp, by simp, rfl, rfl, rfl, rfl, rfl, rfl, rfl, rfl, rfl, rfl⟩
@[simp] theorem Device.kept_notify (n : NoticeBody) (d e : Device) : d.Kept (e.notify n) ↔ d.Kept e :=
  (Device.notify_kept n e).drop d

theorem Device.place_kept (x : TxEntry) (d : Device) : d.Kept (d.place x) := ⟨rfl, rfl, rfl, rfl, rfl, rfl, rfl, rfl, rfl, rfl, rfl, rfl, rfl, rfl, rfl, rfl⟩
@[simp] theorem Device.kept_place (x : TxEntry) (d e : Device) : d.Kept (e.place x) ↔ d.Kept e :=
  (Device.place_kept x e).drop d

theorem Device.withdraw_kept (x : TxEntry) (d : Device) : d.Kept (d.withdraw x) := ⟨rfl, rfl, rfl, rfl, rfl, rfl, rfl, rfl, rfl, rfl, rfl, rfl, rfl, rfl, rfl, rfl⟩
@[simp] theorem Device.kept_withdraw (x : TxEntry) (d e : Device) : d.Kept (e.withdraw x) ↔ d.Kept e :=
  (Device.withdraw_kept x e).drop d

theorem Device.onWave_kept (r : Nat) (f : Wave → Wave) (d : Device) : d.Kept (d.onWave r f) := ⟨rfl, rfl, rfl, rfl, rfl, rfl, rfl, rfl, rfl, rfl, rfl, rfl, rfl, rfl, rfl, rfl⟩
@[simp] theorem Device.kept_onWave (r : Nat) (f : Wave → Wave) (d e : Device) : d.Kept (e.onWave r f) ↔ d.Kept e :=
  (Device.onWave_kept r f e).drop d

theorem Device.onBatch_kept (b : Nat) (f : Batch → Batch) (d : Device) : d.Kept (d.onBatch b f) := ⟨rfl, rfl, rfl, rfl, rfl, rfl, rfl, rfl, rfl, rfl, rfl, rfl, rfl, rfl, rfl, rfl⟩
@[simp] theorem Device.kept_onBatch (b : Nat) (f : Batch → Batch) (d e : Device) : d.Kept (e.onBatch b f) ↔ d.Kept e :=
  (Device.onBatch_kept b f e).drop d

theorem Device.onLane_kept (i : Fin 8) (f : Lane → Lane) (d : Device) : d.Kept (d.onLane i f) := ⟨rfl, rfl, rfl, rfl, rfl, rfl, rfl, rfl, rfl, rfl, rfl, rfl, rfl, rfl, rfl, rfl⟩
@[simp] theorem Device.kept_onLane (i : Fin 8) (f : Lane → Lane) (d e : Device) : d.Kept (e.onLane i f) ↔ d.Kept e :=
  (Device.onLane_kept i f e).drop d

theorem Device.lowerDemand_kept (r : Nat) (c : Byte) (n : Nat) (d : Device) : d.Kept (d.lowerDemand r c n) := by
  unfold Device.lowerDemand
  try dsimp only
  (repeat' split) <;> simp
@[simp] theorem Device.kept_lowerDemand (r : Nat) (c : Byte) (n : Nat) (d e : Device) : d.Kept (e.lowerDemand r c n) ↔ d.Kept e :=
  (Device.lowerDemand_kept r c n e).drop d

theorem Device.reorderFire_kept (d : Device) : d.Kept (d.reorderFire) := by
  unfold Device.reorderFire
  try dsimp only
  (repeat' split) <;> simp
@[simp] theorem Device.kept_reorderFire (d e : Device) : d.Kept (e.reorderFire) ↔ d.Kept e :=
  (Device.reorderFire_kept e).drop d

theorem Device.joinFire_kept (b : Nat) (d : Device) : d.Kept (d.joinFire b) := by
  unfold Device.joinFire
  try dsimp only
  (repeat' split) <;> simp
@[simp] theorem Device.kept_joinFire (b : Nat) (d e : Device) : d.Kept (e.joinFire b) ↔ d.Kept e :=
  (Device.joinFire_kept b e).drop d

theorem Device.leaveFire_kept (b : Nat) (d : Device) : d.Kept (d.leaveFire b) := by
  unfold Device.leaveFire
  try dsimp only
  (repeat' split) <;> simp
@[simp] theorem Device.kept_leaveFire (b : Nat) (d e : Device) : d.Kept (e.leaveFire b) ↔ d.Kept e :=
  (Device.leaveFire_kept b e).drop d

theorem Device.takeOff_kept (b : Batch) (d : Device) : d.Kept (d.takeOff b) := by
  unfold Device.takeOff
  split <;> simp
@[simp] theorem Device.kept_takeOff (b : Batch) (d e : Device) : d.Kept (e.takeOff b) ↔ d.Kept e :=
  (Device.takeOff_kept b e).drop d

theorem Device.withdrawWave_kept (r : Nat) (d : Device) : d.Kept (d.withdrawWave r) := by
  unfold Device.withdrawWave
  try dsimp only
  (repeat' split) <;> simp
@[simp] theorem Device.kept_withdrawWave (r : Nat) (d e : Device) : d.Kept (e.withdrawWave r) ↔ d.Kept e :=
  (Device.withdrawWave_kept r e).drop d

theorem Device.dropFiled_kept (r : Nat) (d : Device) : d.Kept (d.dropFiled r) := by
  unfold Device.dropFiled
  try dsimp only
  (repeat' split) <;> simp
@[simp] theorem Device.kept_dropFiled (r : Nat) (d e : Device) : d.Kept (e.dropFiled r) ↔ d.Kept e :=
  (Device.dropFiled_kept r e).drop d

theorem Device.retire_kept (r : Nat) (d : Device) : d.Kept (d.retire r) := by
  unfold Device.retire
  try dsimp only
  (repeat' split) <;> simp
@[simp] theorem Device.kept_retire (r : Nat) (d e : Device) : d.Kept (e.retire r) ↔ d.Kept e :=
  (Device.retire_kept r e).drop d

theorem Device.makeAnonymous_kept (r : Nat) (d : Device) : d.Kept (d.makeAnonymous r) := by
  unfold Device.makeAnonymous
  try dsimp only
  (repeat' split) <;> simp
@[simp] theorem Device.kept_makeAnonymous (r : Nat) (d e : Device) : d.Kept (e.makeAnonymous r) ↔ d.Kept e :=
  (Device.makeAnonymous_kept r e).drop d

theorem Device.testNoWork_kept (r : Nat) (d : Device) : d.Kept (d.testNoWork r) := by
  unfold Device.testNoWork
  try dsimp only
  (repeat' split) <;> simp
@[simp] theorem Device.kept_testNoWork (r : Nat) (d e : Device) : d.Kept (e.testNoWork r) ↔ d.Kept e :=
  (Device.testNoWork_kept r e).drop d

theorem Device.recompute_kept (d : Device) : d.Kept (d.recompute) := by
  unfold Device.recompute
  try dsimp only
  (repeat' split) <;> simp
@[simp] theorem Device.kept_recompute (d e : Device) : d.Kept (e.recompute) ↔ d.Kept e :=
  (Device.recompute_kept e).drop d

theorem Device.announce_kept (r : Nat) (d : Device) : d.Kept (d.announce r) := by
  unfold Device.announce
  try dsimp only
  (repeat' split) <;> simp
@[simp] theorem Device.kept_announce (r : Nat) (d e : Device) : d.Kept (e.announce r) ↔ d.Kept e :=
  (Device.announce_kept r e).drop d

theorem Device.slipEval_kept (r : Nat) (d : Device) : d.Kept (d.slipEval r) := by
  unfold Device.slipEval
  try dsimp only
  (repeat' split) <;> simp
@[simp] theorem Device.kept_slipEval (r : Nat) (d e : Device) : d.Kept (e.slipEval r) ↔ d.Kept e :=
  (Device.slipEval_kept r e).drop d

theorem Device.markLate_kept (b : Nat) (d : Device) : d.Kept (d.markLate b) := by
  unfold Device.markLate
  try dsimp only
  (repeat' split) <;> simp
@[simp] theorem Device.kept_markLate (b : Nat) (d e : Device) : d.Kept (e.markLate b) ↔ d.Kept e :=
  (Device.markLate_kept b e).drop d

theorem Device.offerEval_kept (d : Device) : d.Kept (d.offerEval) := by
  unfold Device.offerEval
  try dsimp only
  (repeat' split) <;> simp
@[simp] theorem Device.kept_offerEval (d e : Device) : d.Kept (e.offerEval) ↔ d.Kept e :=
  (Device.offerEval_kept e).drop d

theorem Device.evaluate_kept (d : Device) : d.Kept (d.evaluate) := by
  unfold Device.evaluate
  try dsimp only
  (repeat' split) <;> simp
@[simp] theorem Device.kept_evaluate (d e : Device) : d.Kept (e.evaluate) ↔ d.Kept e :=
  (Device.evaluate_kept e).drop d

theorem Device.evaluateSince_kept (b d : Device) : d.Kept (d.evaluateSince b) := by
  unfold Device.evaluateSince
  split
  · exact .refl d
  · exact d.evaluate_kept
@[simp] theorem Device.kept_evaluateSince (b d e : Device) : d.Kept (e.evaluateSince b) ↔ d.Kept e :=
  (Device.evaluateSince_kept b e).drop d

theorem Device.beginCall_kept (i : Fin 8) (b : Nat) (d : Device) : d.Kept (d.beginCall i b) := by
  unfold Device.beginCall
  try dsimp only
  (repeat' split) <;> simp
@[simp] theorem Device.kept_beginCall (i : Fin 8) (b : Nat) (d e : Device) : d.Kept (e.beginCall i b) ↔ d.Kept e :=
  (Device.beginCall_kept i b e).drop d

theorem Device.callBatch_kept (i : Fin 8) (b : Batch) (d : Device) : d.Kept (d.callBatch i b) := by
  unfold Device.callBatch
  try dsimp only
  (repeat' split) <;> simp
@[simp] theorem Device.kept_callBatch (i : Fin 8) (b : Batch) (d e : Device) : d.Kept (e.callBatch i b) ↔ d.Kept e :=
  (Device.callBatch_kept i b e).drop d

theorem Device.dispatchLane_kept (i : Fin 8) (d : Device) : d.Kept (d.dispatchLane i) := by
  unfold Device.dispatchLane
  try dsimp only
  (repeat' split) <;> simp
@[simp] theorem Device.kept_dispatchLane (i : Fin 8) (d e : Device) : d.Kept (e.dispatchLane i) ↔ d.Kept e :=
  (Device.dispatchLane_kept i e).drop d

theorem Device.dispatch_kept (d : Device) : d.Kept (d.dispatch) := by
  unfold Device.dispatch
  try dsimp only
  (repeat' split) <;> simp
@[simp] theorem Device.kept_dispatch (d e : Device) : d.Kept (e.dispatch) ↔ d.Kept e :=
  (Device.dispatch_kept e).drop d

theorem Device.stage_kept (i : Fin 8) (d : Device) : d.Kept (d.stage i) := by
  unfold Device.stage
  try dsimp only
  (repeat' split) <;> simp
@[simp] theorem Device.kept_stage (i : Fin 8) (d e : Device) : d.Kept (e.stage i) ↔ d.Kept e :=
  (Device.stage_kept i e).drop d

theorem Device.claimSpares_kept (r : Nat) (c : Byte) (d : Device) : d.Kept (d.claimSpares r c) := by
  unfold Device.claimSpares
  try dsimp only
  (repeat' split) <;> simp
@[simp] theorem Device.kept_claimSpares (r : Nat) (c : Byte) (d e : Device) : d.Kept (e.claimSpares r c) ↔ d.Kept e :=
  (Device.claimSpares_kept r c e).drop d

theorem Device.fillBatch_kept (r : Nat) (c : Byte) (b : Batch) (d : Device) : d.Kept (d.fillBatch r c b) := by
  unfold Device.fillBatch
  try dsimp only
  (repeat' split) <;> simp
@[simp] theorem Device.kept_fillBatch (r : Nat) (c : Byte) (b : Batch) (d e : Device) : d.Kept (e.fillBatch r c b) ↔ d.Kept e :=
  (Device.fillBatch_kept r c b e).drop d

theorem Device.fillFormed_kept (r : Nat) (c : Byte) (d : Device) : d.Kept (d.fillFormed r c) := by
  unfold Device.fillFormed
  try dsimp only
  (repeat' split) <;> simp
@[simp] theorem Device.kept_fillFormed (r : Nat) (c : Byte) (d e : Device) : d.Kept (e.fillFormed r c) ↔ d.Kept e :=
  (Device.fillFormed_kept r c e).drop d

theorem Device.addBatch_kept (b : Batch) (d : Device) : d.Kept (d.addBatch b) := by
  unfold Device.addBatch
  try dsimp only
  (repeat' split) <;> simp
@[simp] theorem Device.kept_addBatch (b : Batch) (d e : Device) : d.Kept (e.addBatch b) ↔ d.Kept e :=
  (Device.addBatch_kept b e).drop d

theorem Device.createBatches_kept (r : Nat) (c : Byte) (n : Nat) (d : Device) : d.Kept (d.createBatches r c n) := by
  induction n generalizing d with
  | zero => exact .refl d
  | succ n ih =>
    simp only [Device.createBatches]
    split
    · exact .refl d
    · exact .trans (by simp) (ih _)
@[simp] theorem Device.kept_createBatches (r : Nat) (c : Byte) (n : Nat) (d e : Device) : d.Kept (e.createBatches r c n) ↔ d.Kept e :=
  (Device.createBatches_kept r c n e).drop d

theorem Device.formDish_kept (r : Nat) (c : Byte) (d : Device) : d.Kept (d.formDish r c) := by
  unfold Device.formDish
  try dsimp only
  (repeat' split) <;> simp
@[simp] theorem Device.kept_formDish (r : Nat) (c : Byte) (d e : Device) : d.Kept (e.formDish r c) ↔ d.Kept e :=
  (Device.formDish_kept r c e).drop d

theorem Device.formLines_kept (w : Wave) (d : Device) : d.Kept (d.formLines w) := by
  unfold Device.formLines
  simp
@[simp] theorem Device.kept_formLines (w : Wave) (d e : Device) : d.Kept (e.formLines w) ↔ d.Kept e :=
  (Device.formLines_kept w e).drop d

theorem Device.formationPass_kept (r : Nat) (d : Device) : d.Kept (d.formationPass r) := by
  unfold Device.formationPass
  try dsimp only
  (repeat' split) <;> simp
@[simp] theorem Device.kept_formationPass (r : Nat) (d e : Device) : d.Kept (e.formationPass r) ↔ d.Kept e :=
  (Device.formationPass_kept r e).drop d

theorem Device.formOthers_kept (o : Option Nat) (d : Device) : d.Kept (d.formOthers o) := by
  unfold Device.formOthers
  try dsimp only
  (repeat' split) <;> simp
@[simp] theorem Device.kept_formOthers (o : Option Nat) (d e : Device) : d.Kept (e.formOthers o) ↔ d.Kept e :=
  (Device.formOthers_kept o e).drop d

theorem Device.formUndispatched_kept (o : Option Nat) (d : Device) : d.Kept (d.formUndispatched o) := by
  unfold Device.formUndispatched
  refine (Device.kept_foldl _ (fun x r => ?_) _ d d).2 (Device.Kept.refl d)
  (repeat' split) <;> simp
@[simp] theorem Device.kept_formUndispatched (o : Option Nat) (d e : Device) :
    d.Kept (e.formUndispatched o) ↔ d.Kept e := (Device.formUndispatched_kept o e).drop d

theorem Device.formWaiting_kept (d : Device) : d.Kept (d.formWaiting) := by
  unfold Device.formWaiting
  try dsimp only
  (repeat' split) <;> simp
@[simp] theorem Device.kept_formWaiting (d e : Device) : d.Kept (e.formWaiting) ↔ d.Kept e :=
  (Device.formWaiting_kept e).drop d

theorem Device.removeBatch_kept (b : Batch) (d : Device) : d.Kept (d.removeBatch b) := by
  unfold Device.removeBatch
  try dsimp only
  (repeat' split) <;> simp
@[simp] theorem Device.kept_removeBatch (b : Batch) (d e : Device) : d.Kept (e.removeBatch b) ↔ d.Kept e :=
  (Device.removeBatch_kept b e).drop d

theorem Device.afterFree_kept (o : Option Nat) (i : Bool) (d : Device) : d.Kept (d.afterFree o i) := by
  unfold Device.afterFree
  try dsimp only
  (repeat' split) <;> simp
@[simp] theorem Device.kept_afterFree (o : Option Nat) (i : Bool) (d e : Device) : d.Kept (e.afterFree o i) ↔ d.Kept e :=
  (Device.afterFree_kept o i e).drop d

theorem Device.freeBatch_kept (b : Batch) (d : Device) : d.Kept (d.freeBatch b) := by
  unfold Device.freeBatch
  try dsimp only
  (repeat' split) <;> simp
@[simp] theorem Device.kept_freeBatch (b : Batch) (d e : Device) : d.Kept (e.freeBatch b) ↔ d.Kept e :=
  (Device.freeBatch_kept b e).drop d

theorem Device.endBatch_kept (r b : Nat) (d : Device) : d.Kept (d.endBatch r b) := by
  unfold Device.endBatch
  try dsimp only
  (repeat' split) <;> simp
@[simp] theorem Device.kept_endBatch (r b : Nat) (d e : Device) : d.Kept (e.endBatch r b) ↔ d.Kept e :=
  (Device.endBatch_kept r b e).drop d

theorem Device.endThose_kept (r : Nat) (st : BatchState) (d : Device) : d.Kept (d.endThose r st) :=
  (Device.kept_foldl _ (fun x b => Device.endBatch_kept r b x) _ d d).2 (Device.Kept.refl d)
@[simp] theorem Device.kept_endThose (r : Nat) (st : BatchState) (d e : Device) : d.Kept (e.endThose r st) ↔ d.Kept e :=
  (Device.endThose_kept r st e).drop d

theorem Device.dropHanded_kept (r : Nat) (d : Device) : d.Kept (d.dropHanded r) := by
  unfold Device.dropHanded
  try dsimp only
  (repeat' split) <;> simp
@[simp] theorem Device.kept_dropHanded (r : Nat) (d e : Device) : d.Kept (e.dropHanded r) ↔ d.Kept e :=
  (Device.dropHanded_kept r e).drop d

theorem Device.dropUnbatched_kept (r : Nat) (d : Device) : d.Kept (d.dropUnbatched r) := by
  unfold Device.dropUnbatched
  try dsimp only
  (repeat' split) <;> simp
@[simp] theorem Device.kept_dropUnbatched (r : Nat) (d e : Device) : d.Kept (e.dropUnbatched r) ↔ d.Kept e :=
  (Device.dropUnbatched_kept r e).drop d

theorem Device.enterAway_kept (w : Wave) (d : Device) : d.Kept (d.enterAway w) := by
  unfold Device.enterAway
  try dsimp only
  (repeat' split) <;> simp
@[simp] theorem Device.kept_enterAway (w : Wave) (d e : Device) : d.Kept (e.enterAway w) ↔ d.Kept e :=
  (Device.enterAway_kept w e).drop d

theorem Device.endSet_kept (w : Wave) (d : Device) : d.Kept (d.endSet w) := by
  unfold Device.endSet
  extract_lets e1 e2 e3 e4
  have h4 : d.Kept e4 := by simp only [e4]; split <;> simp [e3, e2, e1]
  split <;> simp [h4]
@[simp] theorem Device.kept_endSet (w : Wave) (d e : Device) : d.Kept (e.endSet w) ↔ d.Kept e :=
  (Device.endSet_kept w e).drop d

theorem Device.endWave_kept (r : Nat) (d : Device) : d.Kept (d.endWave r) := by
  unfold Device.endWave
  try dsimp only
  (repeat' split) <;> simp
@[simp] theorem Device.kept_endWave (r : Nat) (d e : Device) : d.Kept (e.endWave r) ↔ d.Kept e :=
  (Device.endWave_kept r e).drop d

theorem Device.abandonWave_kept (r : Nat) (d : Device) : d.Kept (d.abandonWave r) := by
  unfold Device.abandonWave
  try dsimp only
  (repeat' split) <;> simp
@[simp] theorem Device.kept_abandonWave (r : Nat) (d e : Device) : d.Kept (e.abandonWave r) ↔ d.Kept e :=
  (Device.abandonWave_kept r e).drop d

theorem Device.startPress_kept (i : Fin 8) (b : Batch) (d : Device) : d.Kept (d.startPress i b) := by
  unfold Device.startPress
  try dsimp only
  (repeat' split) <;> simp
@[simp] theorem Device.kept_startPress (i : Fin 8) (b : Batch) (d e : Device) : d.Kept (e.startPress i b) ↔ d.Kept e :=
  (Device.startPress_kept i b e).drop d

theorem Device.retireIfRunOut_kept (r : Nat) (d : Device) : d.Kept (d.retireIfRunOut r) := by
  unfold Device.retireIfRunOut
  try dsimp only
  (repeat' split) <;> simp
@[simp] theorem Device.kept_retireIfRunOut (r : Nat) (d e : Device) : d.Kept (e.retireIfRunOut r) ↔ d.Kept e :=
  (Device.retireIfRunOut_kept r e).drop d

theorem Device.laneDone_kept (i : Fin 8) (d : Device) : d.Kept (d.laneDone i) := by
  unfold Device.laneDone
  try dsimp only
  (repeat' split) <;> simp
@[simp] theorem Device.kept_laneDone (i : Fin 8) (d e : Device) : d.Kept (e.laneDone i) ↔ d.Kept e :=
  (Device.laneDone_kept i e).drop d

theorem Device.donePress_kept (i : Fin 8) (b : Batch) (d : Device) : d.Kept (d.donePress i b) := by
  unfold Device.donePress
  try dsimp only
  (repeat' split) <;> simp
@[simp] theorem Device.kept_donePress (i : Fin 8) (b : Batch) (d e : Device) : d.Kept (e.donePress i b) ↔ d.Kept e :=
  (Device.donePress_kept i b e).drop d

theorem Device.pressAct_kept (i : Fin 8) (d : Device) : d.Kept (d.pressAct i) := by
  unfold Device.pressAct
  try dsimp only
  (repeat' split) <;> simp
@[simp] theorem Device.kept_pressAct (i : Fin 8) (d e : Device) : d.Kept (e.pressAct i) ↔ d.Kept e :=
  (Device.pressAct_kept i e).drop d

theorem Device.press_kept (i : Fin 8) (d : Device) : d.Kept (d.press i) := by
  unfold Device.press
  try dsimp only
  (repeat' split) <;> simp
@[simp] theorem Device.kept_press (i : Fin 8) (d e : Device) : d.Kept (e.press i) ↔ d.Kept e :=
  (Device.press_kept i e).drop d

theorem Device.turnCompare_kept (i : Fin 8) (d : Device) : d.Kept (d.turnCompare i) := by
  unfold Device.turnCompare
  try dsimp only
  (repeat' split) <;> simp
@[simp] theorem Device.kept_turnCompare (i : Fin 8) (d e : Device) : d.Kept (e.turnCompare i) ↔ d.Kept e :=
  (Device.turnCompare_kept i e).drop d

theorem Device.flashEnd_kept (i : Fin 8) (d : Device) : d.Kept (d.flashEnd i) := by
  unfold Device.flashEnd
  try dsimp only
  (repeat' split) <;> simp
@[simp] theorem Device.kept_flashEnd (i : Fin 8) (d e : Device) : d.Kept (e.flashEnd i) ↔ d.Kept e :=
  (Device.flashEnd_kept i e).drop d

theorem Device.dueCompare_kept (i : Fin 8) (d : Device) : d.Kept (d.dueCompare i) := by
  unfold Device.dueCompare
  try dsimp only
  (repeat' split) <;> simp
@[simp] theorem Device.kept_dueCompare (i : Fin 8) (d e : Device) : d.Kept (e.dueCompare i) ↔ d.Kept e :=
  (Device.dueCompare_kept i e).drop d

theorem Device.callOverdue_kept (i : Fin 8) (d : Device) : d.Kept (d.callOverdue i) := by
  unfold Device.callOverdue
  try dsimp only
  (repeat' split) <;> simp
@[simp] theorem Device.kept_callOverdue (i : Fin 8) (d e : Device) : d.Kept (e.callOverdue i) ↔ d.Kept e :=
  (Device.callOverdue_kept i e).drop d

theorem Device.dueOverdue_kept (i : Fin 8) (d : Device) : d.Kept (d.dueOverdue i) := by
  unfold Device.dueOverdue
  try dsimp only
  (repeat' split) <;> simp
@[simp] theorem Device.kept_dueOverdue (i : Fin 8) (d e : Device) : d.Kept (e.dueOverdue i) ↔ d.Kept e :=
  (Device.dueOverdue_kept i e).drop d

theorem Device.applyReady_kept (a : Addr) (st : Tick) (n : Byte) (p : Addr) (off : BitVec 15) (far wd : Bool) (d : Device) : d.Kept (d.applyReady a st n p off far wd) := by
  unfold Device.applyReady
  try dsimp only
  (repeat' split) <;> simp
@[simp] theorem Device.kept_applyReady (a : Addr) (st : Tick) (n : Byte) (p : Addr) (off : BitVec 15) (far wd : Bool) (d e : Device) : d.Kept (e.applyReady a st n p off far wd) ↔ d.Kept e :=
  (Device.applyReady_kept a st n p off far wd e).drop d

theorem Device.enterSettling_kept (r : Nat) (d : Device) : d.Kept (d.enterSettling r) := by
  unfold Device.enterSettling
  try dsimp only
  (repeat' split) <;> simp
@[simp] theorem Device.kept_enterSettling (r : Nat) (d e : Device) : d.Kept (e.enterSettling r) ↔ d.Kept e :=
  (Device.enterSettling_kept r e).drop d

theorem Device.enterSet_kept (w : Wave) (d : Device) : d.Kept (d.enterSet w) := by
  unfold Device.enterSet
  try dsimp only
  (repeat' split) <;> simp
@[simp] theorem Device.kept_enterSet (w : Wave) (d e : Device) : d.Kept (e.enterSet w) ↔ d.Kept e :=
  (Device.enterSet_kept w e).drop d

theorem Device.afterSet_kept (r : Nat) (d : Device) : d.Kept (d.afterSet r) := by
  unfold Device.afterSet
  try dsimp only
  (repeat' split) <;> simp
@[simp] theorem Device.kept_afterSet (r : Nat) (d e : Device) : d.Kept (e.afterSet r) ↔ d.Kept e :=
  (Device.afterSet_kept r e).drop d

theorem Device.waveClose_kept (r : Nat) (d : Device) : d.Kept (d.waveClose r) := by
  unfold Device.waveClose
  try dsimp only
  (repeat' split) <;> simp
@[simp] theorem Device.kept_waveClose (r : Nat) (d e : Device) : d.Kept (e.waveClose r) ↔ d.Kept e :=
  (Device.waveClose_kept r e).drop d

theorem Device.waveSettle_kept (r : Nat) (d : Device) : d.Kept (d.waveSettle r) := by
  unfold Device.waveSettle
  try dsimp only
  (repeat' split) <;> simp
@[simp] theorem Device.kept_waveSettle (r : Nat) (d e : Device) : d.Kept (e.waveSettle r) ↔ d.Kept e :=
  (Device.waveSettle_kept r e).drop d

theorem Device.waveAbandon_kept (r : Nat) (d : Device) : d.Kept (d.waveAbandon r) := by
  unfold Device.waveAbandon
  try dsimp only
  (repeat' split) <;> simp
@[simp] theorem Device.kept_waveAbandon (r : Nat) (d e : Device) : d.Kept (e.waveAbandon r) ↔ d.Kept e :=
  (Device.waveAbandon_kept r e).drop d

theorem Device.retime_kept (r : Nat) (d : Device) : d.Kept (d.retime r) := by
  unfold Device.retime
  try dsimp only
  (repeat' split) <;> simp
@[simp] theorem Device.kept_retime (r : Nat) (d e : Device) : d.Kept (e.retime r) ↔ d.Kept e :=
  (Device.retime_kept r e).drop d

theorem Device.slipNotices_kept (w : Wave) (a : Addr) (t : Tick) (far : Bool) (d : Device) : d.Kept (d.slipNotices w a t far) := by
  unfold Device.slipNotices
  try dsimp only
  (repeat' split) <;> simp
@[simp] theorem Device.kept_slipNotices (w : Wave) (a : Addr) (t : Tick) (far : Bool) (d e : Device) : d.Kept (e.slipNotices w a t far) ↔ d.Kept e :=
  (Device.slipNotices_kept w a t far e).drop d

theorem Device.applySlip_kept (a : Addr) (st : Tick) (n : Byte) (p : Addr) (off : BitVec 15) (far : Bool) (d : Device) : d.Kept (d.applySlip a st n p off far) := by
  unfold Device.applySlip
  try dsimp only
  (repeat' split) <;> simp
@[simp] theorem Device.kept_applySlip (a : Addr) (st : Tick) (n : Byte) (p : Addr) (off : BitVec 15) (far : Bool) (d e : Device) : d.Kept (e.applySlip a st n p off far) ↔ d.Kept e :=
  (Device.applySlip_kept a st n p off far e).drop d

theorem Device.addWave_kept (w : Wave) (d : Device) : d.Kept (d.addWave w) := by
  unfold Device.addWave
  try dsimp only
  (repeat' split) <;> simp
@[simp] theorem Device.kept_addWave (w : Wave) (d e : Device) : d.Kept (e.addWave w) ↔ d.Kept e :=
  (Device.addWave_kept w e).drop d

theorem Device.catchUp_kept (r : Nat) (d : Device) : d.Kept (d.catchUp r) := by
  unfold Device.catchUp
  try dsimp only
  (repeat' split) <;> simp
@[simp] theorem Device.kept_catchUp (r : Nat) (d e : Device) : d.Kept (e.catchUp r) ↔ d.Kept e :=
  (Device.catchUp_kept r e).drop d

theorem Device.createFromTicket_kept (a : Addr) (st : Tick) (n : Byte) (c : Tick) (l : BitVec 16) (gp : Bool) (g : Tick) (d : Device) : d.Kept (d.createFromTicket a st n c l gp g) := by
  unfold Device.createFromTicket
  try dsimp only
  (repeat' split) <;> simp
@[simp] theorem Device.kept_createFromTicket (a : Addr) (st : Tick) (n : Byte) (c : Tick) (l : BitVec 16) (gp : Bool) (g : Tick) (d e : Device) : d.Kept (e.createFromTicket a st n c l gp g) ↔ d.Kept e :=
  (Device.createFromTicket_kept a st n c l gp g e).drop d

theorem Device.displace_kept (r : Nat) (d : Device) : d.Kept (d.displace r) := by
  unfold Device.displace
  try dsimp only
  (repeat' split) <;> simp
@[simp] theorem Device.kept_displace (r : Nat) (d e : Device) : d.Kept (e.displace r) ↔ d.Kept e :=
  (Device.displace_kept r e).drop d

theorem Device.fileTicket_kept (a : Addr) (s : Serial) (r : Nat) (k : List Order) (d : Device) : d.Kept (d.fileTicket a s r k) := by
  unfold Device.fileTicket
  try dsimp only
  (repeat' split) <;> simp
@[simp] theorem Device.kept_fileTicket (a : Addr) (s : Serial) (r : Nat) (k : List Order) (d e : Device) : d.Kept (e.fileTicket a s r k) ↔ d.Kept e :=
  (Device.fileTicket_kept a s r k e).drop d

theorem Device.afterFiling_kept (r : Nat) (n : Bool) (d : Device) : d.Kept (d.afterFiling r n) := by
  unfold Device.afterFiling
  try dsimp only
  (repeat' split) <;> simp
@[simp] theorem Device.kept_afterFiling (r : Nat) (n : Bool) (d e : Device) : d.Kept (e.afterFiling r n) ↔ d.Kept e :=
  (Device.afterFiling_kept r n e).drop d

theorem Device.findWave_kept (a : Addr) (st : Tick) (n : Byte) (c : Tick) (l : BitVec 16) (gp : Bool) (g : Tick) (d : Device) :
    d.Kept (d.findWave a st n c l gp g).1 := by
  unfold Device.findWave
  try dsimp only
  (repeat' split) <;> simp
@[simp] theorem Device.kept_findWave (a : Addr) (st : Tick) (n : Byte) (c : Tick) (l : BitVec 16) (gp : Bool) (g : Tick) (d e : Device) :
    d.Kept (e.findWave a st n c l gp g).1 ↔ d.Kept e :=
  (Device.findWave_kept a st n c l gp g e).drop d

theorem Device.takeTicket_kept (a : Addr) (st : Tick) (n : Byte) (s : Serial) (c : Tick) (l : BitVec 16) (gp : Bool) (g : Tick) (k : List Order) (d : Device) : d.Kept (d.takeTicket a st n s c l gp g k) := by
  unfold Device.takeTicket
  simp
@[simp] theorem Device.kept_takeTicket (a : Addr) (st : Tick) (n : Byte) (s : Serial) (c : Tick) (l : BitVec 16) (gp : Bool) (g : Tick) (k : List Order) (d e : Device) : d.Kept (e.takeTicket a st n s c l gp g k) ↔ d.Kept e :=
  (Device.takeTicket_kept a st n s c l gp g k e).drop d

theorem Device.voidBatch_kept (s : Serial) (b : Nat) (d : Device) : d.Kept (d.voidBatch s b) := by
  unfold Device.voidBatch
  (repeat' split) <;> simp
@[simp] theorem Device.kept_voidBatch (s : Serial) (b : Nat) (d e : Device) : d.Kept (e.voidBatch s b) ↔ d.Kept e :=
  (Device.voidBatch_kept s b e).drop d

theorem Device.dropTicket_kept (t : Ticket) (d : Device) : d.Kept (d.dropTicket t) := by
  unfold Device.dropTicket
  simp
@[simp] theorem Device.kept_dropTicket (t : Ticket) (d e : Device) : d.Kept (e.dropTicket t) ↔ d.Kept e :=
  (Device.dropTicket_kept t e).drop d

theorem Device.applyVoid_kept (a : Addr) (n : Byte) (s : Serial) (d : Device) : d.Kept (d.applyVoid a n s) := by
  unfold Device.applyVoid
  try dsimp only
  (repeat' split) <;> simp
@[simp] theorem Device.kept_applyVoid (a : Addr) (n : Byte) (s : Serial) (d e : Device) : d.Kept (e.applyVoid a n s) ↔ d.Kept e :=
  (Device.applyVoid_kept a n s e).drop d

theorem Device.applyPickup_kept (a : Addr) (n : Byte) (d : Device) : d.Kept (d.applyPickup a n) := by
  unfold Device.applyPickup
  try dsimp only
  (repeat' split) <;> simp
@[simp] theorem Device.kept_applyPickup (a : Addr) (n : Byte) (d e : Device) : d.Kept (e.applyPickup a n) ↔ d.Kept e :=
  (Device.applyPickup_kept a n e).drop d

theorem Device.unreserve_kept (l : Option (Fin 8)) (d : Device) : d.Kept (d.unreserve l) := by
  unfold Device.unreserve
  try dsimp only
  (repeat' split) <;> simp
@[simp] theorem Device.kept_unreserve (l : Option (Fin 8)) (d e : Device) : d.Kept (e.unreserve l) ↔ d.Kept e :=
  (Device.unreserve_kept l e).drop d

theorem Device.releaseTaker_kept (l : Option (Fin 8)) (d : Device) : d.Kept (d.releaseTaker l) := by
  unfold Device.releaseTaker
  try dsimp only
  (repeat' split) <;> simp
@[simp] theorem Device.kept_releaseTaker (l : Option (Fin 8)) (d e : Device) : d.Kept (e.releaseTaker l) ↔ d.Kept e :=
  (Device.releaseTaker_kept l e).drop d

theorem Device.takerCommit_kept (l : Option (Fin 8)) (a : Addr) (st : Tick) (n : Byte) (p : Addr) (g : Tick) (k : Nat) (c : Byte) (m : Nat) (cs : List Contrib) (d : Device) : d.Kept (d.takerCommit l a st n p g k c m cs) := by
  unfold Device.takerCommit
  try dsimp only
  (repeat' split) <;> simp
@[simp] theorem Device.kept_takerCommit (l : Option (Fin 8)) (a : Addr) (st : Tick) (n : Byte) (p : Addr) (g : Tick) (k : Nat) (c : Byte) (m : Nat) (cs : List Contrib) (d e : Device) : d.Kept (e.takerCommit l a st n p g k c m cs) ↔ d.Kept e :=
  (Device.takerCommit_kept l a st n p g k c m cs e).drop d

theorem Device.offererCommit_kept (a : Addr) (b : Batch) (d : Device) : d.Kept (d.offererCommit a b) := by
  unfold Device.offererCommit
  try dsimp only
  (repeat' split) <;> simp
@[simp] theorem Device.kept_offererCommit (a : Addr) (b : Batch) (d e : Device) : d.Kept (e.offererCommit a b) ↔ d.Kept e :=
  (Device.offererCommit_kept a b e).drop d

theorem Device.refire_kept (b : Batch) (d : Device) : d.Kept (d.refire b) := by
  unfold Device.refire
  try dsimp only
  (repeat' split) <;> simp
@[simp] theorem Device.kept_refire (b : Batch) (d e : Device) : d.Kept (e.refire b) ↔ d.Kept e :=
  (Device.refire_kept b e).drop d

theorem Device.loseBatch_kept (b : Batch) (d : Device) : d.Kept (d.loseBatch b) := by
  unfold Device.loseBatch
  try dsimp only
  (repeat' split) <;> simp
@[simp] theorem Device.kept_loseBatch (b : Batch) (d e : Device) : d.Kept (e.loseBatch b) ↔ d.Kept e :=
  (Device.loseBatch_kept b e).drop d

theorem Device.holdExpiry_kept (b : Nat) (d : Device) : d.Kept (d.holdExpiry b) := by
  unfold Device.holdExpiry
  try dsimp only
  (repeat' split) <;> simp
@[simp] theorem Device.kept_holdExpiry (b : Nat) (d e : Device) : d.Kept (e.holdExpiry b) ↔ d.Kept e :=
  (Device.holdExpiry_kept b e).drop d

theorem Device.markPartial_kept (d : Device) : d.Kept (d.markPartial) := by
  unfold Device.markPartial
  try dsimp only
  (repeat' split) <;> simp
@[simp] theorem Device.kept_markPartial (d e : Device) : d.Kept (e.markPartial) ↔ d.Kept e :=
  (Device.markPartial_kept e).drop d

theorem Device.withdrawOffer_kept (d : Device) : d.Kept (d.withdrawOffer) := by
  unfold Device.withdrawOffer
  rw [Device.kept_withdraw, Device.kept_foldl _ (fun x e => by split <;> simp)]
  exact .refl d
@[simp] theorem Device.kept_withdrawOffer (d e : Device) : d.Kept (e.withdrawOffer) ↔ d.Kept e :=
  (Device.withdrawOffer_kept e).drop d

theorem Device.placeHead_kept (d : Device) : d.Kept (d.placeHead) := by
  unfold Device.placeHead
  try dsimp only
  (repeat' split) <;> simp
@[simp] theorem Device.kept_placeHead (d e : Device) : d.Kept (e.placeHead) ↔ d.Kept e :=
  (Device.placeHead_kept e).drop d

theorem Device.dropHead_kept (d : Device) : d.Kept (d.dropHead) := by
  unfold Device.dropHead
  try dsimp only
  (repeat' split) <;> simp
@[simp] theorem Device.kept_dropHead (d e : Device) : d.Kept (e.dropHead) ↔ d.Kept e :=
  (Device.dropHead_kept e).drop d

theorem Device.dropIssue_kept (s : Serial) (d : Device) : d.Kept (d.dropIssue s) := by
  unfold Device.dropIssue
  try dsimp only
  (repeat' split) <;> simp
@[simp] theorem Device.kept_dropIssue (s : Serial) (d e : Device) : d.Kept (e.dropIssue s) ↔ d.Kept e :=
  (Device.dropIssue_kept s e).drop d

theorem Device.onIssue_kept (s : Serial) (f : Issue → Issue) (d : Device) : d.Kept (d.onIssue s f) := by
  unfold Device.onIssue
  try dsimp only
  (repeat' split) <;> simp
@[simp] theorem Device.kept_onIssue (s : Serial) (f : Issue → Issue) (d e : Device) : d.Kept (e.onIssue s f) ↔ d.Kept e :=
  (Device.onIssue_kept s f e).drop d

theorem Device.issueAccepted_kept (e : IssueEntry) (b : Bool) (d : Device) : d.Kept (d.issueAccepted e b) := by
  unfold Device.issueAccepted
  try dsimp only
  (repeat' split) <;> simp
@[simp] theorem Device.kept_issueAccepted (e : IssueEntry) (b : Bool) (d d' : Device) :
    d.Kept (d'.issueAccepted e b) ↔ d.Kept d' :=
  (Device.issueAccepted_kept e b d').drop d

theorem Device.issueFails_kept (e : IssueEntry) (d : Device) : d.Kept (d.issueFails e) := by
  unfold Device.issueFails
  try dsimp only
  (repeat' split) <;> simp
@[simp] theorem Device.kept_issueFails (e : IssueEntry) (d d' : Device) :
    d.Kept (d'.issueFails e) ↔ d.Kept d' :=
  (Device.issueFails_kept e d').drop d

theorem Device.issueFate_kept (f : Fate) (b s : Bool) (d : Device) : d.Kept (d.issueFate f b s) := by
  unfold Device.issueFate
  try dsimp only
  (repeat' split) <;> simp
@[simp] theorem Device.kept_issueFate (f : Fate) (b s : Bool) (d e : Device) : d.Kept (e.issueFate f b s) ↔ d.Kept e :=
  (Device.issueFate_kept f b s e).drop d

theorem Device.readyFate_kept (r : Nat) (f : Frame) (n : Byte) (p : Addr) (off : BitVec 15) (far wd : Bool) (x : Fate) (d : Device) : d.Kept (d.readyFate r f n p off far wd x) := by
  unfold Device.readyFate
  try dsimp only
  (repeat' split) <;> simp
@[simp] theorem Device.kept_readyFate (r : Nat) (f : Frame) (n : Byte) (p : Addr) (off : BitVec 15) (far wd : Bool) (x : Fate) (d e : Device) : d.Kept (e.readyFate r f n p off far wd x) ↔ d.Kept e :=
  (Device.readyFate_kept r f n p off far wd x e).drop d

theorem Device.slipFate_kept (r : Nat) (f : Frame) (n : Byte) (p : Addr) (off : BitVec 15) (far : Bool) (x : Fate) (d : Device) : d.Kept (d.slipFate r f n p off far x) := by
  unfold Device.slipFate
  try dsimp only
  (repeat' split) <;> simp
@[simp] theorem Device.kept_slipFate (r : Nat) (f : Frame) (n : Byte) (p : Addr) (off : BitVec 15) (far : Bool) (x : Fate) (d e : Device) : d.Kept (e.slipFate r f n p off far x) ↔ d.Kept e :=
  (Device.slipFate_kept r f n p off far x e).drop d

theorem Device.offerFate_kept (b : Nat) (x : Fate) (a : Addr) (d : Device) : d.Kept (d.offerFate b x a) := by
  unfold Device.offerFate
  try dsimp only
  (repeat' split) <;> simp
@[simp] theorem Device.kept_offerFate (b : Nat) (x : Fate) (a : Addr) (d e : Device) : d.Kept (e.offerFate b x a) ↔ d.Kept e :=
  (Device.offerFate_kept b x a e).drop d

theorem Device.placerFate_kept (f : InFlight) (x : Fate) (b s : Bool) (a : Addr) (d : Device) : d.Kept (d.placerFate f x b s a) := by
  unfold Device.placerFate
  try dsimp only
  (repeat' split) <;> simp
@[simp] theorem Device.kept_placerFate (f : InFlight) (x : Fate) (b s : Bool) (a : Addr) (d e : Device) : d.Kept (e.placerFate f x b s a) ↔ d.Kept e :=
  (Device.placerFate_kept f x b s a e).drop d

theorem Device.takeDeferred_kept (p : Option (Fin 8)) (d : Device) : d.Kept (d.takeDeferred p) := by
  unfold Device.takeDeferred
  try dsimp only
  (repeat' split) <;> simp
@[simp] theorem Device.kept_takeDeferred (p : Option (Fin 8)) (d e : Device) : d.Kept (e.takeDeferred p) ↔ d.Kept e :=
  (Device.takeDeferred_kept p e).drop d

theorem Device.laneBoundary_kept (i : Fin 8) (d : Device) : d.Kept (d.laneBoundary i) := by
  unfold Device.laneBoundary
  try dsimp only
  (repeat' split) <;> simp
@[simp] theorem Device.kept_laneBoundary (i : Fin 8) (d e : Device) : d.Kept (e.laneBoundary i) ↔ d.Kept e :=
  (Device.laneBoundary_kept i e).drop d

theorem Device.passAbandon_kept (r : Nat) (d : Device) : d.Kept (d.passAbandon r) := by
  unfold Device.passAbandon
  try dsimp only
  (repeat' split) <;> simp
@[simp] theorem Device.kept_passAbandon (r : Nat) (d e : Device) : d.Kept (e.passAbandon r) ↔ d.Kept e :=
  (Device.passAbandon_kept r e).drop d

theorem Device.waveBoundary_kept (r : Nat) (d : Device) : d.Kept (d.waveBoundary r) := by
  unfold Device.waveBoundary
  try dsimp only
  (repeat' split) <;> simp
@[simp] theorem Device.kept_waveBoundary (r : Nat) (d e : Device) : d.Kept (e.waveBoundary r) ↔ d.Kept e :=
  (Device.waveBoundary_kept r e).drop d

/-- What `receive` and the fates do to a part before its blocks act is not kept; what the blocks do is. An accepted frame
delivered to its blocks keeps the clock, the line, the setup and the counts (R33). -/
theorem Device.deliver_kept (raw : RawFrame) (r : Rx) (b : Body) (d : Device) : d.Kept (d.deliver raw r b) := by
  unfold Device.deliver Device.shortNotice
  try dsimp only
  (repeat' split) <;> simp

end Sys2Proof.Machine
end

