-- ==== Sys2Proof/Laws/Slots.lean ====
section
/-! SUPPORT. Small lemmas about levels, slots and the bits they carry. -/

namespace Sys2Proof

@[simp] theorem Level.flip_flip (x : Level) : x.flip.flip = x := by cases x <;> rfl

@[simp] theorem Level.wired_recessive (x : Level) : x.wired .recessive = x := by cases x <;> rfl

@[simp] theorem Level.recessive_wired (x : Level) : Level.recessive.wired x = x := by cases x <;> rfl

/-- Two stations share a slot in either order (R18). -/
theorem Level.wired_comm (x y : Level) : x.wired y = y.wired x := by cases x <;> cases y <;> rfl

/-- A station that drives nothing leaves a slot as it stands (R18). -/
@[simp] theorem Slot.wired_undriven (x : Slot) : x.wired Slot.undriven = x := by
  cases x; simp [Slot.wired, Slot.undriven]

theorem Slot.wired_comm (x y : Slot) : x.wired y = y.wired x := by
  simp [Slot.wired, Level.wired_comm]

@[simp] theorem Slot.value_symbol (b : Bool) : (Slot.symbol b).value = b := by cases b <;> rfl

@[simp] theorem Slot.faulty_symbol (sort : SlotSort) (b : Bool) : (Slot.symbol b).faulty sort = false := by
  cases sort <;> cases b <;> rfl

@[simp] theorem Machine.bitsOf_length (n v : Nat) : (Machine.bitsOf n v).length = n := by
  induction n with
  | zero => rfl
  | succ n ih => simp [Machine.bitsOf, ih]

/-- The bits of a number spell it modulo their number. -/
theorem Machine.natOf_bitsOf (n v : Nat) : Machine.natOf (Machine.bitsOf n v) = v % 2 ^ n := by
  have key : ∀ m a, (Machine.bitsOf m v).foldl (fun k b => 2 * k + b.toNat) a = a * 2 ^ m + v % 2 ^ m := by
    intro m
    induction m with
    | zero => intro a; simp [Machine.bitsOf, Nat.mod_one]
    | succ m ih =>
      intro a
      rw [Machine.bitsOf, List.foldl_cons, ih, Nat.mod_pow_succ, Nat.toNat_testBit]
      ring
  simpa [Machine.natOf] using key n 0

end Sys2Proof
end

