-- ==== Sys2Proof/Tests/Slice0.lean ====
section
/-! SUPPORT. The model's own tests: ill-formed commands refused, the spec's worked examples one step at a time, and for
every statement with hypotheses a state and operands that meet them. Expected results are the spec's own figures. -/

namespace Sys2Proof.Tests

open Sys2Proof Sys2Proof.Machine

-- One theorem after the other: no thread waits for the kernel to reach its own.
set_option Elab.async false

/-! ### Small states -/

/-- A machine with nothing waiting. -/
def run (d : Device) : State := { dev := d, pending := [] }

/-- A machine of one device taken by one command; the device after it. -/
def after (c : Instr) (d : Device) : Device :=
  match exec c (run d) with
  | .next t => t.dev
  | .fault _ => d
  | .refused _ => d

/-- Grill station 21 of class 2 ON_LINE at a tick, with the lanes and menu of the worked case of chapter 6. -/
def grill (t : Tick) : Device :=
  { Device.reset 21 2 with
    sck := { Sck.reset with tick := t }
    fe := { Fe.reset with station := .onLine, viewFrom := some 0 }
    sp := { Sp.reset with
      config := { Configuration.defaults with laneCount := 5, laneKinds := #v[0, 0, 0, 1, 1, 0, 0, 0] }
      menu := [⟨31, 0, 3840, 1920, 480, 6⟩, ⟨33, 0, 2880, 2879, 480, 8⟩, ⟨52, 1, 960, 0, 240, 12⟩] } }

/-- Pass 8 ON_LINE at a tick. -/
def pass (t : Tick) : Device :=
  { Device.reset 8 0 with
    sck := { Sck.reset with tick := t }
    fe := { Fe.reset with station := .onLine, viewFrom := some 0 } }

/-- Wave 40 of pass 8 in a state. -/
def wave (ref : Nat) (st : WaveState) (go : Option Tick) : Wave :=
  { ref := ref, id := some { pass := 8, num := 40 }, call := some 110400, lead := some 6400, close := some 104000,
    state := st, go := go, slips := 0, heardFrom := 100000, partialMark := false, far := false, participants := [],
    own := .absent, est := none, lines := [], adoptedOnly := false, anonymous := false, pickupPending := false }

/-- A sirloin batch of six for ticket 2002, against go 111,016. -/
def sirloin (bid ref : Nat) (st : BatchState) : Batch :=
  { bid := bid, seq := 100 + BitVec.ofNat 16 bid, wave := ref, dish := 31, portions := 6, contribs := [⟨2002, 6⟩],
    state := st, staged := false, ls := 107160, rl := 106680, lane := none, start := none, due := none, turn := none,
    done := none, refire := 0, late := false, attempts := 0, lastOffer := none, outcome := none, offerPending := false,
    adopted := false }

/-- The grill station holding records. -/
def holding (t : Tick) (ws : List Wave) (bs : List Batch) (fireQ : List Nat) : Device :=
  { grill t with
    wu := { waves := ws, nextRef := 9 }
    bp := { (grill t).bp with batches := bs, fireQ := fireQ, nextBid := 9 } }

/-- The same with one lane record changed. -/
def withLane (i : Fin 8) (l : Lane) (d : Device) : Device := d.onLane i (fun _ => l)

/-- Both wires have just shown an edge. -/
def alike : Silences := ⟨0, 0⟩

/-- A whole frame on both wires alike. -/
def onBoth : Followed := { toSilences := alike, agree := true }

/-- An own start slot after 11 slot times. -/
def ownStart (slots : Nat) : OwnStart := { elapsed := 0, slots := slots, toSilences := alike }

/-- The fields of a frame heard whole, both wires agreeing, every slot after them a recessive symbol. -/
def hearFields (r : RawFrame) : Heard :=
  { elapsed := 0, slots := 11, toFollowed := onBoth, lasted := 0, upTo := .accept, fields := r.slots,
    gap := Vector.replicate 4 (Slot.symbol true), short := Slot.symbol true, final := Slot.symbol true }

/-- The fields of a frame of another station. -/
def rawOf (sender : Addr) (cls : ClassNo) (stamp : Stamp) (b : Body) : RawFrame :=
  ({ sender := sender, cls := cls, stamp := stamp, body := b } : Frame).raw

/-- A frame of another station heard whole and accepted. -/
def hear (sender : Addr) (cls : ClassNo) (stamp : Stamp) (b : Body) : Heard := hearFields (rawOf sender cls stamp b)

/-- The TICKET of section 12.2 with sirloin and chop. -/
def ticketBody : Body := .ticket 40 2002 110400 6400 false 0 [⟨31, 6⟩, ⟨33, 8⟩]

/-- A stamp of a tick with fraction 0. -/
def stampOf (t : Tick) : Stamp := t ++ (0 : Byte)

/-- A frame of the station's own in flight. -/
def flying (e : TxEntry) (b : Body) (t : Tick) : InFlight :=
  { entry := e, frame := { sender := 21, cls := 2, stamp := stampOf t, body := b }, gapError := false,
    rejectReq := false, deferred := none }

/-- A device with a frame in flight. -/
def sending (f : InFlight) (d : Device) : Device := d.onFe (fun x => { x with inFlight := some f })

/-! ### Ill-formed commands, one for each check of WellFormed -/

theorem test_wf_counts :
    (Instr.contend { ownStart 0 with elapsed := 4160 }).wf = false ∧
      (Instr.contend { ownStart 65535 with elapsed := 4159 }).wf = true := by
  decide

theorem test_wf_wires :
    (Instr.markFate .accepted ⟨⟨1, 0⟩, true⟩).wf = false ∧ (Instr.markFate .accepted ⟨⟨1, 0⟩, false⟩).wf = true ∧
      (Instr.frameCodingViolation ⟨0, 0⟩ ⟨⟨1, 0⟩, true⟩).wf = false ∧
      (Instr.markFrame { hear 21 2 0 .mark with silentB := 16 }).wf = false := by
  decide +kernel

theorem test_wf_kind : (Instr.readyFrame (hear 21 2 0 .mark)).wf = false := by decide

theorem test_wf_length :
    (Instr.markFrame { hear 21 2 0 .mark with fields := (hear 21 2 0 .mark).fields.drop 1 }).wf = false ∧
      (Instr.markFrame { hear 21 2 0 .mark with fields := (hear 21 2 0 .mark).fields ++ [Slot.undriven] }).wf = false ∧
      (Instr.markFrame { hear 21 2 0 .mark with fields := (hear 21 2 0 .mark).fields.set 20 Slot.undriven }).wf = false := by
  decide +kernel

theorem test_wf_elapsed :
    (Instr.markFrame { hear 21 2 0 .mark with elapsed := 4160 }).wf = false ∧
      (Instr.markFrame { hear 21 2 0 .mark with lasted := 4160 }).wf = false := by
  decide +kernel

theorem test_wf_good : (Instr.markFrame (hear 21 2 0 .mark)).wf = true := by decide +kernel

theorem test_wf_pass : (Instr.waveClose 0 40).wf = false ∧ (Instr.waveClose 63 40).wf = false := by decide

theorem test_wf_params :
    (Instr.ring (List.replicate 256 0)).wf = false ∧ (Instr.ring (List.replicate 255 0)).wf = true := by decide +kernel

theorem test_wf_code : (Instr.unknownCommand 0x10 []).wf = false ∧ (Instr.unknownCommand 0x13 []).wf = true := by decide

theorem test_wf_null : (Instr.nullSelect [0x10]).wf = false ∧ (Instr.nullSelect []).wf = true := by decide

theorem test_wf_cut : (Instr.messageCutShort [0x10, 0]).wf = false ∧ (Instr.messageCutShort [0x10, 1]).wf = true := by
  decide

/-- The table gives no bits, so no word spells a command. -/
theorem test_decode_none : decodeTableWord 16 0xFFFF = none := by decide

/-! ### The spec's worked figures -/

/-- Section 1.9: five peers, one an outlier; the mean is 135 and C becomes 67, of which the first tick takes 4. -/
theorem test_correction_period :
    let k := { Sck.reset with
      periodEndDue := true
      samples := [⟨12, 300, false⟩, ⟨17, 180, false⟩, ⟨23, -40, false⟩, ⟨31, 90, false⟩, ⟨40, 1500, true⟩] }
    k.mean = some 135 ∧ k.median = some 180 ∧ k.correct.corr = 67 ∧
      (after .periodEnd { holding 0 [wave 0 .goSet (some 0)] [] [] with sck := k }).sck =
        { Sck.reset with terminal := 4031, corr := 63 } := by
  decide

/-- Section 1.9: the 17th tick is 4,048 counts long and the remainder is spent. -/
theorem test_last_slewed_tick :
    (Sck.slew { Sck.reset with corr := 3 }).terminal = 4047 ∧ (Sck.slew { Sck.reset with corr := 3 }).corr = 0 := by
  decide

/-- R24's code (x^16 + x^12 + x^5 + 1, preset ones, not inverted) over the digits 1 to 9: the value published for it. -/
theorem test_check_code :
    crc (([0x31, 0x32, 0x33, 0x34, 0x35, 0x36, 0x37, 0x38, 0x39] : List Nat).flatMap (bitsOf 8)) = 0x29B1 := by
  decide +kernel

/-- R31: the winner at address 22 (binary 010110) drives check bits 01. -/
theorem test_check_bits :
    replyCheckError (.ofBits 22 1) = false ∧ replyCheckError (.ofBits 22 2) = true ∧
      replyCheckError (.ofBits 63 3) = false ∧ replyCheckError (.ofBits 63 1) = true ∧
      replyCheckError (.ofBits 0 3) = true := by
  decide

/-- R30: 21 is 010101 and 12 is 001100, so station 21 loses to 12 in the second taker slot and drives nothing after it. -/
theorem test_losing_qualifier : takerDriven 21 12 = [false, true] ∧ takerDriven 21 21 = bitsOf 6 21 := by decide

/-- R168, R170, R171: a whole message, one with bytes beyond it, a code that names no command, and one cut short. -/
theorem test_selects :
    selectCommand [0x31, 0] = .ring [] ∧ selectCommand [0x43, 1, 40, 9, 9] = .sendPickup [40] ∧
      selectCommand [0x13, 1, 7] = .unknownCommand 0x13 [7] ∧ selectCommand [0x43, 2, 40] = .messageCutShort [0x43, 2, 40] ∧
      selectCommand [0, 5] = .nullSelect [0, 5] := by
  decide

/-- R2, R14: a mean step is taken at its own boundary: one count later the clock stands 13 fraction units of 16 counts, and
that count, beyond it; 13 units back it is in the tick before. -/
theorem test_step_at_own_boundary : ∀ m ∈ [((13 : Int), (64 : Tick), 209), (-13, 63, 3889)],
    let d : Device := { grill 64 with
      sck := { Sck.reset with tick := 64, periodEndDue := true, atBoundary := true, samples := [⟨12, m.1, false⟩] }
      fe := { (grill 64).fe with station := .listen } }
    (match step (run d) with
      | .next t => (t.dev.sck.tick, t.dev.sck.prescaler)
      | .fault _ => (0, 0)
      | .refused _ => (0, 0)) = m.2 := by
  decide +kernel

/-- R19, R26: an entry queued 10 slot times into the idle waits; one slot later its frame begins. -/
theorem test_idle_count :
    let d := (grill 5).onFe (fun f => { f with txq := [.mark] })
    (after (.contend (ownStart 10)) d).fe.inFlight = none ∧
      (after (.contend (ownStart 11)) d).fe.inFlight.isSome = true ∧
      (after (.markFrame { hear 12 2 (stampOf 5) .mark with slots := 10 }) (grill 5)).sck.samples = [] ∧
      (after (.markFrame (hear 12 2 (stampOf 5) .mark)) (grill 5)).sck.samples = [⟨12, 0, false⟩] := by
  decide +kernel

/-- R18, R48: 7,812 slot times end in a tick of 4,096 counts, 13 of them in its first 7; each receiver keeps the count it
shows, a FAILED one and those of DOWN too, and in STANDBY they are held at 0. -/
theorem test_silence_counts :
    let failed := (grill 5).onLif (fun l => { l with mode := .aOnly, wireB := .failed, silenceB := 16 })
    let down := failed.onLif (fun l => { l with mode := .down, wireA := .failed })
    let line : Heard := { hear 12 2 (stampOf 5) .mark with silentB := 3, agree := false }
    slotsBetween 0 4096 = 7812 ∧ slotsBetween 0 7 = 13 ∧
      (after .tickBoundary (grill 5)).lif.silenceA = 16 ∧
      (after (.markFrame line) failed).lif.silenceB = 3 ∧ (after (.markFrame line) failed).lif.cleanCount = 0 ∧
      (after (.markFrame line) down).lif.silenceA = 0 ∧ (after (.markFrame line) down).lif.silenceB = 3 ∧
      (after (.markFrame line) ((grill 5).onFe (fun f => { f with station := .standby }))).lif.silenceB = 0 := by
  decide +kernel

/-- R84, R89: two items of one dish, the later unbatched; a HOLDING batch of the earlier's six takes the later first, and the
shortfall of step 5 comes off the earlier. -/
theorem test_drop_shortfall :
    dropItems (takeOffItems 31 6 [⟨31, 6, 0⟩, ⟨31, 4, 4⟩]).1 = [⟨31, 0, 0⟩, ⟨31, 0, 0⟩] := by decide

/-- Section 6.2: station 21's estimate of wave 40 at 100,000 is 111,016, unsaturated. -/
theorem test_worked_estimate :
    let w := { wave 0 .opened none with lines := [⟨31, 23⟩, ⟨33, 10⟩, ⟨52, 40⟩] }
    let cooking : Nat → Batch := fun n => { sirloin n 1 .cooking with due := some 101400, lane := some 0 }
    (holding 100000 [w, wave 1 .goSet (some 101400)] [cooking 0, cooking 1, cooking 2] []).estimate w =
      some ⟨111016, false⟩ := by
  decide

/-- Section 6.2: its kind leads, 11,000 on the grill and 2,400 on the fryer; the two braises that saturate. -/
theorem test_witness_EstimateRule :
    let w := { wave 0 .opened none with lines := [⟨31, 23⟩, ⟨33, 10⟩, ⟨52, 40⟩] }
    let cooking : Nat → Batch := fun n => { sirloin n 1 .cooking with due := some 101400, lane := some 0 }
    let d := holding 100000 [w, wave 1 .goSet (some 101400)] [cooking 0, cooking 1, cooking 2] []
    let braise : Nat → Option Sat := fun n =>
      ((grill 5).onSp (fun p => { p with menu := [⟨9, 1, 19200, 0, 16, 1⟩], config := { p.config with laneCount := 4 } })
        |>.kindLead { wave 0 .opened none with lines := [⟨9, n⟩] } 1)
    (w.lines.filterMap (fun l => (d.dish? l.dish).bind (fun x =>
        if x.kind = 0 ∧ 0 < l.demand then some ((l.demand + x.batch - 1) / x.batch * x.cook) else none))).sum = 21120 ∧
      ((List.finRange 8).filter (fun i => i.val < d.sp.config.laneCount ∧ d.laneKind i = 0)).length = 3 ∧
      d.kindLead w 0 = some ⟨11000, false⟩ ∧ d.kindLead w 1 = some ⟨2400, false⟩ ∧ d.kindLead w 2 = none ∧
      braise 5 = some ⟨32767, true⟩ ∧ braise 1000 = some ⟨32767, true⟩ ∧ d.isPass = false := by
  decide

/-- Section 2.7: that estimate at a start slot stamped 100,003 is sent as offset 11,013 with FAR clear. -/
theorem test_worked_offset : offsetFor ⟨111016, false⟩ 100003 = (11013, false) := by decide

/-- R111: with go 111,016 a sirloin batch has latest start 107,160 and release 106,680, a fritter 110,040 and 109,800. -/
theorem test_worked_times :
    (grill 0).latestStart 111016 31 = 107160 ∧ (grill 0).releaseOf 111016 31 = 106680 ∧
      (grill 0).latestStart 111016 52 = 110040 ∧ (grill 0).releaseOf 111016 52 = 109800 := by
  decide

/-- R114: 23 sirloin with B 6 form batches of 6, 6, 6 and 5. -/
theorem test_worked_formation :
    ((holding 104004 [{ wave 0 .goSet (some 111016) with lines := [⟨31, 23⟩] }] [] []).onTi
      (fun _ => { tickets := [⟨8, 2001, 0, [⟨31, 14, 14⟩]⟩, ⟨8, 2002, 0, [⟨31, 9, 9⟩]⟩], issues := [] })
      |>.formationPass 0).bp.batches.map (fun b => (b.portions, b.contribs)) =
      [(6, [⟨2001, 6⟩]), (6, [⟨2001, 6⟩]), (6, [⟨2001, 2⟩, ⟨2002, 4⟩]), (5, [⟨2002, 5⟩])] := by
  decide

/-- Section 12.3: the latest of the call time 210,000 and the estimates counted is the go time, 211,200. -/
theorem test_worked_go :
    let w := { wave 0 .settling none with
      call := some 210000, close := some 204000, heardFrom := 200400,
      participants := [⟨21, 211200, 203990, false⟩, ⟨22, 208814, 203998, false⟩, ⟨5, 205453, 203997, false⟩] }
    let d := after (.waveSettle 8 40) { pass 204004 with wu := { waves := [w], nextRef := 1 } }
    (d.named? 8 40).bind (·.go) = some 211200 ∧
      d.sp.notices = [⟨204004, .waveSet ⟨8, 40⟩ 211200 3⟩] := by
  decide

/-- Section 12.2: wave 60 opened at 200,000 for 210,000 with lead 6,000 closes at 204,000. -/
theorem test_worked_open :
    ((after (.openWave ([60] ++ be24 210000 ++ be16 6000)) (pass 200000)).named? 8 60).bind (·.close) = some 204000 := by
  decide

/-- Section 12.5: at 206,945 the call of 206,864 with window 80 becomes overdue; a tick earlier it does not. -/
theorem test_worked_overdue :
    let d : Tick → Device := fun t =>
      withLane 0 { Lane.reset with state := .called, current := some 0, calledSince := some 206864 } (grill t)
    ((after (.callOverdue 0) (d 206945)).lane 0).overdue = .call ∧
      ((after (.callOverdue 0) (d 206944)).lane 0).overdue = .none := by
  decide

/-- Section 12.6: the SLIP stamped 208,330 with offset 2,896 moves go 211,200 to 211,226 with slip count 1. -/
theorem test_worked_slip :
    let d := after (.slipFrame (hear 21 2 (stampOf 208330) (.slip 40 8 2896 false)))
      { pass 208330 with wu := { waves := [wave 0 .goSet (some 211200)], nextRef := 1 } }
    (d.named? 8 40).map (fun w => (w.go, w.slips)) = some (some 211226, 1) := by
  decide +kernel

/-- R178: the layout of READ_NOTICE for WAVE_SET. -/
theorem test_read_notice :
    (after (.readNotice []) ((grill 0).onSp (fun p =>
      { p with notices := [⟨0x010203, .waveSet ⟨8, 40⟩ 0x0A0B0C 3⟩], lost := 7 }))).sp.reply =
      ⟨.ok, [0x01, 1, 2, 3, 8, 40, 0x0A, 0x0B, 0x0C, 3, 7, 0]⟩ := by
  decide

/-- R61, R170: LOAD_DISH clamps T 5 to 8, a turn time not below T to T less 1, H 5 to 16, B 0 to 1. -/
theorem test_load_clamps :
    (after (.loadDish [31, 0, 0, 5, 0, 9, 0, 5, 0])
      ((grill 0).onFe (fun f => { f with station := .standby }) |>.onSp (fun p => { p with menu := [] }))).sp.menu =
      [⟨31, 0, 8, 7, 16, 1⟩] := by
  decide +kernel

/-! ### Witnesses: a state and operands that meet the hypotheses of each statement -/

/-- A queue of one; an empty queue with the prescaler below and at the terminal count; a boundary no count has followed. -/
theorem test_witness_StepTakesFront :
    (State.mk (grill 0) [.ring []]).pending = .ring [] :: [] ∧ (run (grill 0)).pending = [] ∧
      (grill 0).settleBoundary.sck.prescaler < (grill 0).settleBoundary.sck.terminal ∧
      (let d := (grill 0).onSck (fun k => { k with prescaler := 4095 });
        d.settleBoundary.sck.terminal ≤ d.settleBoundary.sck.prescaler) ∧
      ((grill 0).onSck (fun k => { k with atBoundary := true })).sck.atBoundary = true ∧
      (grill 0).sck.atBoundary = false ∧ (grill 0).returnDue = false := by
  decide

theorem test_witness_ResetHoldsInvariants :
    exec (.reset 21 2) State.reset = .next (run (Device.reset 21 2)) := by
  rfl

/-- The last boundary that ends no period and the one that ends it, with C on each side of 0 and at it; a quiet count of 31 in
each state, with counts since the last boundary. -/
theorem test_witness_TickBoundaryAdvances :
    (∀ c ∈ ([1, -1, 0] : List Int), ∀ n ∈ [62, 63],
      let d := { grill 5 with sck := { Sck.reset with periodCount := n, corr := c } }
      d.sck.periodEndDue = false ∧ d.sck.periodCount = n ∧
        ¬(d.sck.atBoundary = true ∧ d.fe.station = .listen ∧ d.fe.listenCount = 128)) ∧
    ∀ st ∈ [StationState.standby, .listen, .onLine, .quiet],
      let d := { grill 5 with sck := { Sck.reset with markQuiet := 31 } }.onFe (fun f => { f with station := st })
      d.sck.periodEndDue = false ∧ d.sck.atBoundary = false ∧ d.fe.station = st ∧ 31 ≤ d.sck.markQuiet := by
  decide

/-- R8, R15, R47, R66: at the 64th boundary of a period the period end is due; a quiet count of 31 leaves a MARK due, and the
length counts of LISTEN and QUIET rise. -/
theorem test_boundary_counts :
    let d := { grill 5 with sck := { Sck.reset with periodCount := 63, markQuiet := 31 } }
    (after .tickBoundary d).sck.periodEndDue = true ∧ (after .tickBoundary d).sck.periodCount = 0 ∧
      (after .tickBoundary d).sck.markDue = true ∧
      (after .tickBoundary (d.onFe (fun f => { f with station := .listen }))).fe.listenCount = 1 ∧
      (after .tickBoundary (d.onFe (fun f => { f with station := .quiet }))).fe.quietCount = 1 := by
  decide

theorem test_witness_PeriodEndCorrects_mean :
    let three : List Int := [1, 2, 3]
    let four : List Int := [300, 180, -40, 90]
    1 ≤ three.length ∧ three.length ≤ 3 ∧ (300 : Int) ∈ four ∧ (-40 : Int) ∈ four ∧
      (∀ x ∈ four, -40 ≤ x ∧ x ≤ 300) ∧ 4 ≤ four.length := by
  decide

/-- A station at a period end, in a state, with samples. -/
def ending (st : StationState) (xs : List Sample) (first : Bool) : Device :=
  { grill 63 with
    sck := { Sck.reset with periodEndDue := true, samples := xs, firstStep := first }
    fe := { (grill 63).fe with station := st } }

/-- Each station state that does not step; ON_LINE with a median of exactly 1,024. -/
theorem test_witness_PeriodEndCorrects :
    (ending .standby [] false).sck.periodEndDue = true ∧ (ending .standby [] false).fe.station = .standby ∧
      (ending .listen [] true).fe.station = .listen ∧ (ending .listen [] true).sck.firstStep = true ∧
      (ending .quiet [⟨12, 300, false⟩] false).fe.station = .quiet ∧
      (ending .onLine [⟨12, 1024, false⟩] false).fe.station = .onLine ∧
      (ending .onLine [⟨12, 1024, false⟩] false).idleStation = true ∧
      (ending .onLine [⟨12, 1024, false⟩] false).sck.median = some 1024 := by
  decide

/-- LISTEN with the smallest mean behind and ahead, with mean 0 and with none; ON_LINE with a median of 1,025. -/
theorem test_witness_PeriodEndSteps :
    (∀ m ∈ ([-1, 1] : List Int), let d := ending .listen [⟨12, m, false⟩] false
      d.sck.periodEndDue = true ∧ d.fe.station = .listen ∧ d.sck.firstStep = false ∧ d.sck.mean = some m ∧ m ≠ 0 ∧
        d.sck.corr = 0) ∧
    (let d := ending .onLine [⟨12, 1025, true⟩] false;
      d.sck.periodEndDue = true ∧ d.fe.station = .onLine ∧ d.wu.waves = [] ∧
        (∀ i : Fin 8, (d.lane i).state = .idle) ∧ d.sck.median = some 1025 ∧ (1024 : Int) < 1025) ∧
    (ending .listen [⟨12, 0, false⟩] false).sck.mean = some 0 ∧ (ending .listen [] false).sck.mean = none := by
  decide

theorem test_witness_StationCounts :
    (let d := { grill 5 with sck := { Sck.reset with markDue := true, markQuiet := 32 } };
      d.sck.markDue = true ∧ d.fe.station = .onLine ∧ d.sck.markQuiet = 32 ∧ ∀ e ∈ d.fe.txq, e ≠ .mark) ∧
    (let d := { ending .listen [] false with sck := Sck.reset }.onFe (fun f => { f with listenCount := 128 });
      d.fe.station = .listen ∧ d.fe.listenCount = 128 ∧ d.sck.periodEndDue = false) ∧
    (let d := (ending .quiet [] false).onFe (fun f => { f with quietCount := 128 });
      d.fe.station = .quiet ∧ d.fe.quietCount = 128) := by
  decide

/-- A SLIP that is withdrawn, a READY that is filled and a MARK not asked, in the order of choice. -/
def bidding : Device :=
  (holding 103999 [{ wave 0 .opened none with lines := [⟨31, 6⟩], est := some ⟨111016, false⟩ }] [] []).onFe
    (fun f => { f with txq := [.mark, .ready 0, .slip 0] })

theorem test_witness_ContendBeginsFrame :
    let d : Device := { bidding with lif := bidding.lif.passSlots 11, fe := { bidding.fe with idleCount := 11 } }
    let r := d.sck.reading
    (bidding.fe.station = .onLine ∧ bidding.lif.mode ≠ .down ∧ bidding.fe.inFlight = none ∧ bidding.fe.rx = none ∧
      bidding.returnDue = false ∧ 11 ≤ bidding.fe.idleCount + 11 ∧
      bidding.fe.txq.Pairwise (fun a b => a.sameKey b = false)) ∧
    (.ready 0 ∈ bidding.fe.txq ∧ d.fillEntry (stampTick r) (.ready 0) = .fill (.ready 40 8 7017 false false) ∧
      d.fillEntry (stampTick r) (.slip 0) = .withdraw) ∧
    (∀ x ∈ bidding.fe.txq, ∀ y ∈ bidding.fe.txq, x ≠ y → (d.chosenBefore x y = true ↔ d.chosenBefore y x = false)) ∧
    (∀ x ∈ bidding.fe.txq, ∀ y ∈ bidding.fe.txq, ∀ z ∈ bidding.fe.txq,
      d.chosenBefore x y = true → d.chosenBefore y z = true → d.chosenBefore x z = true) ∧
    (∀ x ∈ bidding.fe.txq, x ≠ .ready 0 → d.chosenBefore x (.ready 0) = true →
      d.fillEntry (stampTick r) x = .withdraw ∨ d.fillEntry (stampTick r) x = .hold) ∧
    ((bidding.onFe (fun f => { f with txq := [.slip 0] })).fe.txq ≠ [] ∧ d.wave? 0 ≠ none) := by
  decide

/-- That choice taken: the READY is sent, the SLIP is gone, the MARK waits. -/
theorem test_choice :
    (after (.contend (ownStart 11)) bidding).fe.inFlight.map (·.entry) = some (.ready 0) ∧
      (after (.contend (ownStart 11)) bidding).fe.txq = [.mark] := by
  decide

/-- R18: the table; slot 20 without a transition; the fields cut at slot 100; a Sender slot in which two stations drive against
one another; a slot of the Stamp driven so by a reject break. -/
theorem test_slot_table :
    let h := hear 12 2 (stampOf 5) .mark
    let both : Slot := (Slot.symbol true).wired (Slot.symbol false)
    (Slot.mk .dominant .recessive).read .shared = .zero ∧ (Slot.mk .recessive .dominant).read .senderDriven = .one ∧
      both = ⟨.dominant, .dominant⟩ ∧ both.read .shared = .zero ∧ both.read .senderDriven = .violation ∧
      { h with fields := h.fields.set 20 Slot.undriven }.broken = true ∧ { h with fields := h.fields.take 60 }.broken = true ∧
      { h with fields := h.fields.set 7 both }.broken = false ∧ { h with fields := h.fields.set 20 both }.broken = true ∧
      h.broken = false ∧ h.frame = rawOf 12 2 (stampOf 5) .mark := by
  decide +kernel

/-- R18, R25, R40: a MARK whose slot 20 has no transition, heard ON_LINE: the reject break, and REC 1. -/
theorem test_broken_frame :
    let d := after (.markFrame { hear 12 2 (stampOf 5) .mark with
      fields := (hear 12 2 (stampOf 5) .mark).fields.set 20 Slot.undriven }) (grill 5)
    d.fe.drove = [⟨.rejectBreak, [.a, .b]⟩] ∧ d.fe.recCount = 1 ∧ d.fe.rx = none ∧ d.sck.samples = [] := by
  decide

/-- R84: at a pickup with a batch on the heat, the lane of a CALLED batch calls the next one after WAVE_AWAY. -/
theorem test_away_before_dispatch :
    let d := withLane 0 { Lane.reset with state := .called, current := some 0, calledSince := some 106000 }
      ((holding 106680 [wave 0 .goSet (some 111016), { wave 1 .goSet (some 111016) with id := some ⟨8, 41⟩ }]
        [{ sirloin 0 0 .called with lane := some 0 }, { sirloin 1 0 .due with lane := some 1 }, sirloin 2 1 .formed] [2]).onSp
          (fun p => { p with config := { p.config with laneCount := 1 } }))
    (after (.pickupFrame (hear 8 0 (stampOf 106680) (.pickup 40))) d).sp.notices.map (·.body) =
      [.waveAway ⟨8, 40⟩ 1, .batchCalled ⟨8, 41⟩ 102 0 31] := by
  decide +kernel

/-- Ten slot times after the count stood at 0; a station in DOWN. -/
theorem test_witness_IdleCountGates :
    (∀ m ∈ [LineMode.dual, .down], let d := (grill 5).onLif (fun l => { l with mode := m })
      d.fe.idleCount + { hear 12 2 (stampOf 5) .mark with slots := 10 }.slots < 11 ∧ d.fe.station ≠ .standby ∧
        d.fe.inFlight = none ∧ d.fe.rx = none ∧ d.returnDue = false ∧ d.sck.atBoundary = false) ∧
    (∀ d : Device, d.lif.mode = .down → (d.lif.mode ≠ .down → d.fe.idleCount < 11)) := by
  exact ⟨by decide, fun d h n => absurd h n⟩

/-- Differences of −1, 0, 32,767 and 32,768, a saturated estimate, and a READY and a SLIP the Wave Unit fills. -/
theorem test_witness_OffsetRule :
    ((99 : Tick) - 100).toInt = -1 ∧ ((100 : Tick) - 100).toInt = 0 ∧ ((32867 : Tick) - 100).toInt = 32767 ∧
      ((32868 : Tick) - 100).toInt = 32768 ∧ (Estimate.mk 100 true).saturated = true ∧
      (holding 103999 [{ wave 0 .opened none with lines := [⟨31, 6⟩], est := some ⟨111016, false⟩ }] [] []).fillReady 0
        103999 = .fill (.ready 40 8 7017 false false) ∧
      (holding 103999 [{ wave 0 .opened none with own := .estimate 111016 103000 }] [] []).fillReady 0 103999 =
        .fill (.ready 40 8 0 false true) ∧
      (holding 107185 [{ wave 0 .goSet (some 111016) with est := some ⟨111041, false⟩ }]
        [{ sirloin 0 0 .formed with attempts := 2 }] [0]).fillSlip 0 107185 = .fill (.slip 40 8 3856 false) := by
  decide

/-- A MARK that loses. -/
theorem test_witness_ArbitrationLostReturns :
    let d := sending (flying .mark .mark 5) (grill 5)
    d.fe.inFlight = some (flying .mark .mark 5) ∧ (flying .mark .mark 5).entry ≠ .issue ∧
      ∀ e ∈ d.fe.txq, e.sameKey TxEntry.mark = false := by
  decide

/-- R36, R166: the PICKUP of a wave since abandoned loses arbitration; its entry returns and is sent again. -/
theorem test_orphan_returns :
    let d := sending (flying .issue (.pickup 40) 5) ((pass 5).onIu (fun u =>
      { u with queue := [{ kind := .pickup, num := 40, serial := 0, fails := 0, orphan := some (.pickup 40) }] }))
    let e := (after .arbitrationLost d).onFe (fun f => { f with rx := none })
    e.fe.txq = [.issue] ∧ e.iu = d.iu ∧
      (after (.contend (ownStart 11)) e).fe.inFlight.map (·.frame.body) = some (.pickup 40) := by
  decide

/-- TEC at 119 and at 120, on either side of QUIET; an own bit error already found in the gap. -/
theorem test_witness_OwnBitErrorBreaks : ∀ n ∈ [119, 120],
    let d := (sending (flying .mark .mark 5) (grill 5)).onFe (fun f => { f with tecCount := n })
    d.fe.inFlight = some (flying .mark .mark 5) ∧ (flying .mark .mark 5).deferred = none ∧ d.fe.station = .onLine ∧
      d.lif.mode ≠ .down ∧ d.fe.recCount < 128 ∧ { flying .mark .mark 5 with gapError := true }.gapError = true := by
  decide

/-- R42: an own bit error in the gap drives nothing until the accept slot, whatever that slot then reads. -/
theorem test_gap_error :
    let d := after (.ownBitError true onBoth) (sending (flying .mark .mark 5) (grill 5))
    d.fe.drove = [] ∧ (after (.markFate .accepted onBoth) d).fe.drove = [⟨.acceptDominant, [.a, .b]⟩] ∧
      (after (.markFate .accepted onBoth) d).fe.tecCount = 8 := by
  decide

/-- A MARK; an OFFER with a reject request; a TICKET whose SHORT slot reads a violation. -/
theorem test_witness_FatesCount :
    (let d := sending (flying .mark .mark 5) (grill 5);
      d.fe.inFlight = some (flying .mark .mark 5) ∧ (flying .mark .mark 5).frame.body.kind = .mark ∧
        d.fe.station = .onLine ∧ (flying .mark .mark 5).gapError = false) ∧
    (flying (.offer 0) (.offer 40 8 0 0 31 6 []) 5).frame.body.kind = .offer ∧
    { flying (.offer 0) (.offer 40 8 0 0 31 6 []) 5 with rejectReq := true }.rejectReq = true ∧
    (flying .issue (.ticket 40 1 0 0 false 0 []) 5).frame.body.kind = .ticket ∧
    { flying .mark .mark 5 with gapError := true }.gapError = true := by
  decide

/-- A frame being received. -/
def receiving (st : StationState) (stage : RxStage) : Rx :=
  { startState := st, frame := none, stage := stage, bad := false, ticket := .disregard, taker := .notTaker }

/-- ON_LINE with REC at 126 and 127, QUIET with TEC at 128, and LISTEN; a frame that ends too soon. -/
theorem test_witness_CodingViolationCounted :
    (∀ n ∈ [126, 127],
      let d := (grill 5).onFe (fun f => { f with rx := some (receiving .onLine .start), recCount := n })
      d.fe.rx = some (receiving .onLine .start) ∧ (receiving .onLine .start).taker = .notTaker ∧
        (receiving .onLine .start).startState = d.fe.station ∧ d.fe.tecCount < 128 ∧ d.fe.recCount < 128 ∧
        d.lif.mode ≠ .down) ∧
    (∀ st ∈ [StationState.quiet, .listen],
      let d := (grill 5).onFe (fun f =>
        { f with rx := some (receiving st .bodyEnd), station := st, tecCount := if st = .quiet then 128 else 0 })
      d.fe.rx = some (receiving st .bodyEnd) ∧ (receiving st .bodyEnd).startState = d.fe.station ∧ d.fe.station = st) ∧
    (let h := hear 12 2 (stampOf 5) .mark;
      h.lasted = 0 ∧ { h with fields := h.fields.take 60 }.broken = true ∧ (grill 5).fe.station = .onLine) := by
  decide

/-- The station follows the Link with no frame in hand. -/
theorem test_grill_hears : (grill 5).hears (hear 12 2 (stampOf 9) .mark) := by unfold Device.hears; decide +kernel

/-- The pass likewise. -/
theorem test_pass_hears : (pass 5).hears (hear 12 2 (stampOf 9) .mark) := by unfold Device.hears; decide +kernel

/-- A frame of the wrong length, a check bit wrong, a violation in the reply gap, in the reply field and in the accept slot, a
wrong reply check; REC at 126. -/
theorem test_witness_BadFrameRejected :
    let h := hear 12 2 (stampOf 5) .mark
    let d := (grill 5).onFe (fun f => { f with recCount := 126 })
    d.fe.station = .onLine ∧ d.fe.tecCount < 128 ∧ d.fe.recCount < 127 ∧ h.upTo = .accept ∧
      framed .mark (hearFields { rawOf 12 2 (stampOf 5) .mark with length := 1, body := [0] }).frame = none ∧
      crcError (hearFields { rawOf 12 2 (stampOf 5) .mark with check := 0 }).frame = true ∧
      { h with gap := #v[Slot.symbol true, Slot.symbol true, Slot.symbol true, Slot.undriven] }.gapFault = true ∧
      { hear 8 0 (stampOf 5) ticketBody with short := Slot.undriven }.lateFault = true ∧
      replyCheckError (.ofBits 12 0) = true ∧
      framed .mark h.frame = some .mark ∧ crcError h.frame = false ∧ h.gapFault = false ∧ h.lateFault = false ∧
      { h with final := Slot.undriven }.accept = .violation := by
  decide +kernel

/-- R18, R25, R44: a violation in the accept slot raises REC, though nothing is driven. -/
theorem test_violation_in_accept :
    let d := after (.markFrame { hear 12 2 (stampOf 5) .mark with final := Slot.undriven }) (grill 5)
    d.fe.recCount = 1 ∧ d.fe.drove = [] ∧ d.sck.samples = [] := by
  decide +kernel

theorem test_witness_BadFrameRejected_hears : ((grill 5).onFe (fun f => { f with recCount := 126 })).hears (hear 12 2 (stampOf 5) .mark) := by
  unfold Device.hears; decide +kernel

/-- REC at 127; QUIET and LISTEN stations. -/
theorem test_witness_BadFrameRejected_states :
    (let d := (grill 5).onFe (fun f => { f with recCount := 127 });
      d.hears (hear 12 2 (stampOf 5) .mark) ∧ d.fe.station = .onLine ∧ d.fe.recCount = 127 ∧ Kind.mark ≠ .offer) ∧
    ∀ st ∈ [StationState.quiet, .listen], ((grill 5).onFe (fun f => { f with station := st })).hears
      (hear 12 2 (stampOf 5) .mark) := by
  unfold Device.hears; decide +kernel

/-- A QUIET station whose TEC reached 128 hears a frame as every statement about a heard frame asks. -/
theorem test_witness_quiet_hears :
    let d := (grill 5).onFe (fun f => { f with station := .quiet, tecCount := 128 })
    d.hears (hear 12 2 (stampOf 9) .mark) ∧ (d.fe.station = .onLine → d.fe.tecCount < 128 ∧ d.fe.recCount < 128) ∧ d.idsOk := by
  unfold Device.hears Device.idsOk; decide +kernel

/-- A MARK heard with offset 1,025: an outlier. -/
theorem test_witness_MarkFrameSamples :
    heardGood (hear 12 2 (stampOf 9 + 1) .mark) .mark noTakerReply .mark ∧
      ¬((grill 5).fe.station = .listen ∧ (grill 5).sck.firstStep = true) ∧
      (grill 5).fe.tecCount < 128 ∧ (grill 5).fe.recCount < 128 ∧
      max (-32767) (min 32767 (stampOf 9 + 1 - ((grill 5).sck.advance 0).reading).toInt) = 1025 := by
  unfold heardGood; decide +kernel

theorem test_witness_FirstStepFromAnyFrame :
    let d := (grill 5).onFe (fun f => { f with station := .listen }) |>.onSck (fun k => { k with firstStep := true })
    d.hears (hear 8 0 (stampOf 90000) (.pickup 3)) ∧ d.fe.station = .listen ∧ d.sck.firstStep = true ∧
      heardGood (hear 8 0 (stampOf 90000) (.pickup 3)) .pickup noTakerReply (.pickup 3) := by
  unfold Device.hears heardGood; decide +kernel

/-- A READY stamped one tick before the close. -/
theorem test_witness_ReadyFrameApplied :
    let d := holding 103999 [wave 0 .opened none] [] []
    d.hears (hear 12 2 (stampOf 103999) (.ready 40 8 7017 false false)) ∧ d.fe.station = .onLine ∧ d.fe.tecCount < 128 ∧ d.fe.recCount < 128 ∧ d.idsOk ∧
      heardGood (hear 12 2 (stampOf 103999) (.ready 40 8 7017 false false)) .ready noTakerReply
        (.ready 40 8 7017 false false) ∧
      d.named? 8 40 = some (wave 0 .opened none) := by
  unfold Device.hears heardGood Device.idsOk; decide +kernel

/-- A SLIP stamped 17 ticks before go, and one stamped 16 ticks before it. -/
theorem test_witness_SlipFrameApplied :
    let d := holding 110999 [wave 0 .goSet (some 111016)] [sirloin 0 0 .formed] [0]
    d.hears (hear 12 2 (stampOf 110999) (.slip 40 8 50 true)) ∧ d.fe.station = .onLine ∧ d.fe.tecCount < 128 ∧ d.fe.recCount < 128 ∧ d.idsOk ∧
      heardGood (hear 12 2 (stampOf 110999) (.slip 40 8 50 true)) .slip noTakerReply (.slip 40 8 50 true) ∧
      heardGood (hear 12 2 (stampOf 111000) (.slip 40 8 50 true)) .slip noTakerReply (.slip 40 8 50 true) ∧
      d.named? 8 40 = some (wave 0 .goSet (some 111016)) ∧ (wave 0 .goSet (some 111016)).state = .goSet ∧
      before 110999 ((wave 0 .goSet (some 111016)).go.getD 0 - 16) = true ∧ (wave 0 .goSet (some 111016)).slips < 3 ∧
      before 111000 ((wave 0 .goSet (some 111016)).go.getD 0 - 16) = false := by
  unfold Device.hears heardGood Device.idsOk; decide +kernel

/-- The items of that TICKET, all in the menu of `grill`. -/
def ordered : List Order := [⟨31, 6⟩, ⟨33, 8⟩]

/-- A station that finds that TICKET its own. -/
theorem test_witness_ownsTicket :
    ∀ d ∈ [grill 103999, grill 104003, grill 104004, holding 104010 [wave 0 .goSet (some 111016)] [] [],
        holding 104010 [{ wave 0 .goSet (some 111016) with call := none, adoptedOnly := true }] [] [],
        holding 103999 [{ wave 0 .away (some 90000) with call := some 90000 }] [sirloin 0 0 .due] [],
        holding 103999 [{ wave 0 .goSet (some 90000) with call := some 90000 }] [sirloin 0 0 .due] [],
        holding 103999 [{ wave 0 .opened none with call := some 90000 }] [] []],
      d.ownsTicket (hear 8 0 (stampOf 103999) ticketBody) 2002 ordered ordered := by
  unfold Device.ownsTicket Device.hears Device.idsOk; decide +kernel

/-- The first ticket of a wave, stamped and taken one tick before its close, and one for a record held OPEN. -/
theorem test_witness_TicketFrameFiled :
    (let d := grill 103999;
      heardGood (hear 8 0 (stampOf 103999) ticketBody) .ticket noTakerReply ticketBody ∧ d.named? 8 40 = none ∧
        d.wu.waves.length < 32 ∧ before (stampTick (stampOf 103999)) (110400 - BitVec.ofNat 24 6400) = true ∧
        before d.sck.tick (110400 - BitVec.ofNat 24 6400) = true) ∧
    (let d := holding 103999 [{ wave 0 .opened none with lines := (List.range 14).map (fun n => ⟨BitVec.ofNat 8 (100 + n), 1⟩) }] [] [];
      d.idsOk ∧ (∃ w, d.named? 8 40 = some w ∧ (w.state = .opened ∨ w.state = .settling) ∧ w.call = some 110400 ∧
        w.lines.length + 2 ≤ 16 ∧ 0 = w.ref)) := by
  refine ⟨by unfold heardGood; decide +kernel, by unfold Device.idsOk; decide +kernel,
    { wave 0 .opened none with lines := (List.range 14).map (fun n => ⟨BitVec.ofNat 8 (100 + n), 1⟩) }, ?_⟩
  decide

/-- Filed to a SET record and to an adopted-only one, all demand placed and the pool with room. -/
theorem test_witness_TicketFrameFiled_set : ∀ w ∈ [wave 0 .goSet (some 111016),
      { wave 0 .goSet (some 111016) with call := none, adoptedOnly := true }],
    let d := holding 104010 [w] [] []
    d.named? 8 40 = some w ∧ w.state = .goSet ∧ (w.call = some 110400 ∨ w.adoptedOnly = true) ∧
      w.lines.length + ordered.length ≤ 16 ∧ (∀ y ∈ d.sp.menu, 1 ≤ y.batch) ∧ (∀ l ∈ w.lines, l.demand = 0) ∧
      d.ti.tickets = [] ∧ d.bp.batches.length + (ordered.map (·.qty)).sum ≤ 96 := by
  decide

/-- Created SET with go present, SETTLING up to three ticks past the close and SET from the fourth; in place of an AWAY
record, of a SET one with a batch on the heat, and of an OPEN one. -/
theorem test_witness_TicketFrameFiled_created :
    (Body.ticket 40 2002 110400 6400 true 111016 ordered).wf = true ∧ (110400 : Tick) - BitVec.ofNat 24 6400 = 104000 ∧
      before (103999 : Tick) 104000 = true ∧ before (104003 : Tick) 104000 = false ∧
      before (104003 : Tick) (104000 + 4) = true ∧ before (104004 : Tick) (104000 + 4) = false ∧
    (∀ w ∈ [{ wave 0 .away (some 90000) with call := some 90000 },
        { wave 0 .goSet (some 90000) with call := some 90000 }, { wave 0 .opened none with call := some 90000 }],
      (holding 103999 [w] [sirloin 0 0 .due] []).named? 8 40 = some w ∧ w.call ≠ some 110400 ∧ w.adoptedOnly = false) ∧
    (∃ b ∈ [sirloin 0 0 .due], b.wave = 0 ∧ (b.state = .cooking ∨ b.state = .due)) := by
  decide

/-- A ticket of another station's share; one whose wave is AWAY; one that finds the index full. -/
theorem test_witness_TicketTurnedAway :
    (let d := (grill 103999).onSp (fun p => { p with config := { p.config with shareCount := 2, shareIndex := 1 } });
      d.hears (hear 8 0 (stampOf 103999) ticketBody) ∧ d.fe.station = .onLine ∧ d.fe.tecCount < 128 ∧ d.fe.recCount < 128 ∧
        heardGood (hear 8 0 (stampOf 103999) ticketBody) .ticket noTakerReply ticketBody ∧
        (2002 : Serial).toNat % d.sp.config.shareCount ≠ d.sp.config.shareIndex) ∧
    (let d := holding 103999 [wave 0 .away (some 111016)] [] [];
      d.hears (hear 8 0 (stampOf 103999) ticketBody) ∧ d.named? 8 40 = some (wave 0 .away (some 111016)) ∧ (wave 0 .away (some 111016)).call = some 110400) ∧
    (let d := (holding 103999 [wave 0 .opened none] [] []).onTi
        (fun t => { t with tickets := List.replicate 256 ⟨9, 1, 0, []⟩ });
      d.hears (hear 8 0 (stampOf 103999) ticketBody) ∧ d.named? 8 40 = some (wave 0 .opened none) ∧ (wave 0 .opened none).lines.length + 2 ≤ 16 ∧
        256 ≤ d.ti.tickets.length ∧ ∀ x ∈ d.ti.tickets, ¬(x.pass = 8 ∧ x.serial = 2002)) := by
  unfold Device.hears heardGood; decide +kernel

/-- A ticket of the wave of `wave`, with six sirloin. -/
def filed (ref unb : Nat) : Ticket := { pass := 8, serial := 2002, wave := ref, items := [⟨31, 6, unb⟩] }

/-- A VOID of a ticket whose portions wait. -/
theorem test_witness_VoidFrameApplied :
    let d := (holding 103999 [{ wave 0 .opened none with lines := [⟨31, 6⟩] }] [] []).onTi
      (fun t => { t with tickets := [filed 0 6] })
    (d.hears (hear 8 0 (stampOf 103999) (.void 40 2002)) ∧ d.fe.station = .onLine ∧ d.fe.tecCount < 128 ∧ d.fe.recCount < 128 ∧ d.idsOk ∧ d.strap.cls ≠ 0) ∧
      heardGood (hear 8 0 (stampOf 103999) (.void 40 2002)) .void noTakerReply (.void 40 2002) ∧
      (d.named? 8 40 = some { wave 0 .opened none with lines := [⟨31, 6⟩] } ∧ filed 0 6 ∈ d.ti.tickets ∧
        (filed 0 6).pass = 8 ∧ (filed 0 6).serial = 2002 ∧ (filed 0 6).wave = 0 ∧
        (∀ x ∈ d.ti.tickets, x.pass = 8 → x.serial = 2002 → x = filed 0 6)) ∧
      ∀ b ∈ d.bp.batches, b.wave = 0 → ∀ c ∈ b.contribs, c.serial ≠ 2002 := by
  unfold Device.hears heardGood Device.idsOk; decide +kernel

/-- A VOID of a ticket whose portions are the whole of a FORMED batch. -/
theorem test_witness_VoidFrameApplied_batch :
    let d := (holding 105000 [wave 0 .goSet (some 111016)] [sirloin 0 0 .formed] [0]).onTi
      (fun t => { t with tickets := [filed 0 0] })
    (d.hears (hear 8 0 (stampOf 103999) (.void 40 2002)) ∧ d.fe.station = .onLine ∧ d.fe.tecCount < 128 ∧ d.fe.recCount < 128 ∧ d.idsOk ∧ d.strap.cls ≠ 0) ∧
      (d.named? 8 40 = some (wave 0 .goSet (some 111016)) ∧ filed 0 0 ∈ d.ti.tickets ∧
        (∀ x ∈ d.ti.tickets, x.pass = 8 → x.serial = 2002 → x = filed 0 0)) ∧
      (sirloin 0 0 .formed ∈ d.bp.batches ∧ (sirloin 0 0 .formed).wave = 0 ∧
        (∃ c ∈ (sirloin 0 0 .formed).contribs, c.serial = 2002)) ∧
      ∀ x ∈ d.bp.batches, x.wave = 0 → (∃ c ∈ x.contribs, c.serial = 2002) → x = sirloin 0 0 .formed := by
  unfold Device.hears Device.idsOk; decide +kernel

/-- A VOID of the last work of a SET wave; of a serial that two batches list; of one that only an adopted batch lists; one
that names nothing the station holds. -/
theorem test_witness_VoidFrameApplied_more :
    let set := wave 0 .goSet (some 111016)
    let two := [sirloin 0 0 .called, { sirloin 1 0 .formed with contribs := [⟨2001, 2⟩, ⟨2002, 4⟩] }]
    (let d := (holding 105000 [{ set with lines := [⟨31, 6⟩] }] [] []).onTi (fun t => { t with tickets := [filed 0 6] });
      d.named? 8 40 = some { set with lines := [⟨31, 6⟩] } ∧ (∀ b ∈ d.bp.batches, b.wave ≠ 0) ∧
        ∀ l ∈ [DishLine.mk 31 6],
          l.demand ≤ (((filed 0 6).items.filter (fun it => it.dish = l.dish)).map (·.unb)).sum) ∧
    (let d := (holding 105000 [set] two [1]).onTi (fun t => { t with tickets := [filed 0 0] });
      (∃ x ∈ d.ti.tickets, x.pass = 8 ∧ x.serial = 2002 ∧ x.wave = 0) ∧
        (∀ x ∈ d.wu.waves, x.state = .goSet → ∀ l ∈ x.lines, l.demand = 0) ∧
        ∀ b ∈ d.bp.batches, ∃ c ∈ b.contribs, c.serial = 2002) ∧
    (let d := holding 105000 [set] [{ sirloin 0 0 .called with adopted := true }, sirloin 1 0 .formed] [1];
      d.hears (hear 8 0 (stampOf 105000) (.void 40 2002)) ∧ d.idsOk ∧ d.named? 8 40 = some set ∧
        heardGood (hear 8 0 (stampOf 105000) (.void 40 2002)) .void noTakerReply (.void 40 2002) ∧
        ¬∃ x ∈ d.ti.tickets, x.pass = 8 ∧ x.serial = 2002 ∧ x.wave = 0) ∧
    (∀ b ∈ [sirloin 1 0 .formed], b.wave = 0 → b.adopted = true → ∀ c ∈ b.contribs, c.serial ≠ 2002) ∧
      (grill 5).named? 8 40 = none ∧ (pass 5).strap.cls = 0 := by
  unfold Device.hears heardGood Device.idsOk; decide +kernel

/-- A PICKUP on a pass, of an OPEN wave, and of a SET wave with a batch on the heat and with none. -/
theorem test_witness_PickupFrameApplied :
    (pass 5).strap.cls = 0 ∧ heardGood (hear 8 0 (stampOf 5) (.pickup 40)) .pickup noTakerReply (.pickup 40) ∧
    (let d := holding 5 [wave 0 .opened none] [] [];
      d.hears (hear 8 0 (stampOf 5) (.pickup 40)) ∧ d.fe.station = .onLine ∧ d.fe.tecCount < 128 ∧ d.fe.recCount < 128 ∧ d.idsOk ∧ d.strap.cls ≠ 0 ∧
        d.named? 8 40 = some (wave 0 .opened none)) ∧
    (let d := holding 5 [wave 0 .goSet (some 111016)] [sirloin 0 0 .cooking] [];
      d.hears (hear 8 0 (stampOf 5) (.pickup 40)) ∧ d.idsOk ∧ d.named? 8 40 = some (wave 0 .goSet (some 111016)) ∧
        ∃ b ∈ d.bp.batches, b.wave = 0 ∧ (b.state = .cooking ∨ b.state = .due)) := by
  unfold Device.hears heardGood Device.idsOk; decide +kernel

theorem test_witness_PickupFrameApplied_cold :
    let d := holding 5 [wave 0 .goSet (some 111016)] [sirloin 0 0 .formed] [0]
    d.named? 8 40 = some (wave 0 .goSet (some 111016)) ∧
      ∀ b ∈ d.bp.batches, b.wave = 0 → b.state ≠ .cooking ∧ b.state ≠ .due := by
  decide

/-- An OFFER of a sirloin batch of wave 40 from station 12. -/
def offerBody : Body := .offer 40 8 111016 0 31 6 [⟨2002, 6⟩]

/-- The OFFER heard from a station of a class. -/
def offerHeard (cls : ClassNo) : Heard := hear 12 cls (stampOf 106000) offerBody

/-- Not a taker: another class; more portions than B; one tick too late to finish by go plus 8. -/
theorem test_witness_OfferFrameThirdParty :
    let d := holding 107169 [wave 0 .goSet (some 111016)] [] []
    d.hears (offerHeard 3) ∧ d.fe.station = .onLine ∧ d.fe.tecCount < 128 ∧ d.fe.recCount < 128 ∧
      heardGood (offerHeard 3) .offer noTakerReply offerBody ∧ heardGood (offerHeard 2) .offer noTakerReply offerBody ∧
      (offerHeard 3).frame.cls ≠ d.strap.cls ∧ d.dish? 31 = some ⟨31, 0, 3840, 1920, 480, 6⟩ ∧ 6 < 7 ∧
      before (111016 + 8) (d.sck.tick + BitVec.ofNat 24 3840 + BitVec.ofNat 24 d.sp.config.margin) = true := by
  unfold Device.hears heardGood; decide +kernel

/-- The last tick at which a taker still qualifies, with the wave held SET. -/
theorem test_witness_OfferFrameAdopted :
    let d := holding 107168 [wave 0 .goSet (some 111016)] [] []
    (d.hears (offerHeard 2) ∧ d.fe.station = .onLine ∧ d.fe.tecCount < 128 ∧ d.fe.recCount < 128 ∧ d.idsOk) ∧
      heardGood (offerHeard 2) .offer (.ofBits 21 (~~~((21 : Addr).extractLsb' 0 2))) offerBody ∧
      (d.strap.addr = 21 ∧ (offerHeard 2).frame.cls = d.strap.cls ∧ d.strap.cls ≠ 0 ∧
        d.dish? 31 = some ⟨31, 0, 3840, 1920, 480, 6⟩) ∧
      ((0 : Fin 8).val < d.sp.config.laneCount ∧ (d.lane 0).state = .idle ∧ (d.lane 0).reserved = false ∧
        d.laneKind 0 = 0) ∧
      (∀ b ∈ d.queued, d.kindOf b.dish = some 0 → d.released b = false) ∧
      before (111016 + 8) (d.sck.tick + BitVec.ofNat 24 3840 + BitVec.ofNat 24 d.sp.config.margin) = false ∧
      d.bp.batches.length < 96 ∧ d.named? 8 40 = some (wave 0 .goSet (some 111016)) := by
  unfold Device.hears heardGood Device.idsOk; decide +kernel

/-- The same with the wave not held, and a reply in which station 12 wins. -/
theorem test_witness_OfferFrameAdopted_new :
    let d := grill 107168
    d.hears (offerHeard 2) ∧ d.idsOk ∧ d.named? 8 40 = none ∧ d.wu.waves.length < 32 ∧
      heardGood (offerHeard 2) .offer (.ofBits 12 3) offerBody ∧ (12 : Addr) ≠ d.strap.addr ∧
      ∀ w ∈ d.wu.waves, w.state = .goSet → ∀ l ∈ w.lines, l.demand = 0 := by
  unfold Device.hears heardGood Device.idsOk; decide +kernel

/-- An own READY accepted and one rejected with TEC at 119. -/
theorem test_witness_BidFates :
    let f := flying (.ready 0) (.ready 40 8 7017 false false) 103999
    let d := sending f (holding 103999 [{ wave 0 .opened none with est := some ⟨111016, false⟩ }] [] []) |>.onFe
      (fun x => { x with tecCount := 119 })
    d.fe.inFlight = some f ∧ f.entry = .ready 0 ∧ f.frame.body = .ready 40 8 7017 false false ∧ f.deferred = none ∧
      f.gapError = false ∧ d.fe.station = .onLine ∧ d.fe.recCount < 128 ∧ d.idsOk ∧ d.strap.cls ≠ 0 ∧
      { wave 0 .opened none with est := some ⟨111016, false⟩ } ∈ d.wu.waves ∧ d.fe.tecCount < 120 ∧
      (wave 0 .opened none).anonymous = false ∧ (wave 0 .opened none).id = some { pass := 8, num := 40 } := by
  unfold Device.idsOk; decide

/-- An own SLIP stamped one tick before go less 16. -/
theorem test_witness_BidFates_slip :
    let f := flying (.slip 0) (.slip 40 8 50 false) 110999
    let d := sending f (holding 110999 [wave 0 .goSet (some 111016)] [] []) |>.onFe (fun x => { x with tecCount := 119 })
    d.fe.inFlight = some f ∧ f.entry = .slip 0 ∧ f.frame.body = .slip 40 8 50 false ∧ f.deferred = none ∧
      f.gapError = false ∧ d.fe.station = .onLine ∧ d.fe.recCount < 128 ∧ d.idsOk ∧ d.strap.cls ≠ 0 ∧
      d.named? 8 40 = some (wave 0 .goSet (some 111016)) ∧ d.fe.tecCount < 120 ∧
      before (stampTick f.frame.stamp) ((wave 0 .goSet (some 111016)).go.getD 0 - 16) = true := by
  unfold Device.idsOk; decide

/-- An own OFFER of one of two batches of a wave, with no taker, with a reply-check error, and with taker 12. -/
theorem test_witness_OfferFates :
    let f := flying (.offer 0) offerBody 106000
    let d := sending f (holding 106000 [wave 0 .goSet (some 111016)] [sirloin 0 0 .formed, sirloin 1 0 .formed] [0, 1])
    d.fe.inFlight = some f ∧ f.entry = .offer (sirloin 0 0 .formed).bid ∧ f.frame.body.kind = .offer ∧
      f.deferred = none ∧ f.gapError = false ∧ d.fe.station = .onLine ∧ d.fe.recCount < 128 ∧ d.fe.tecCount < 128 ∧
      d.idsOk ∧
      sirloin 0 0 .formed ∈ d.bp.batches ∧ d.strap.cls ≠ 0 ∧ f.rejectReq = false ∧
      replyCheckError (.ofBits 12 0) = true ∧ replyCheckError (.ofBits 12 3) = false ∧
      (∃ x ∈ d.bp.batches, x.wave = (sirloin 0 0 .formed).wave ∧ x.bid ≠ (sirloin 0 0 .formed).bid) ∧
      (∀ w ∈ d.wu.waves, w.state = .goSet → ∀ l ∈ w.lines, l.demand = 0) ∧
      ∀ x ∈ d.queued, d.released x = false := by
  unfold Device.idsOk; decide

/-- The head of the issue queue in flight, after six and after seven failures. -/
theorem test_witness_IssueFates : ∀ n ∈ [6, 7],
    let e : IssueEntry := { kind := .ticket, num := 40, serial := 2002, fails := n, orphan := none }
    let f := flying .issue ticketBody 5
    let d := sending f (pass 5) |>.onIu (fun u => { u with queue := [e] })
    d.fe.inFlight = some f ∧ f.entry = .issue ∧ f.frame.body.kind = e.kind.kind ∧ f.deferred = none ∧
      f.gapError = false ∧ d.fe.station = .onLine ∧ d.fe.tecCount < 120 ∧ d.fe.recCount < 128 ∧ d.iu.queue = [e] ∧ e.orphan = none := by
  decide

/-- The same with the wave since abandoned. -/
theorem test_witness_IssueFates_orphan :
    let e : IssueEntry := { kind := .ticket, num := 40, serial := 2002, fails := 7, orphan := some ticketBody }
    let d := sending (flying .issue ticketBody 5) (pass 5) |>.onIu (fun u => { u with queue := [e] })
    d.fe.inFlight = some (flying .issue ticketBody 5) ∧ d.iu.queue = [e] ∧ e.orphan = some ticketBody ∧
      (flying .issue ticketBody 5).frame.body.kind = e.kind.kind ∧ d.fe.station = .onLine := by
  decide

/-- A station in each line mode with no frame in hand, the clean-frame count at 64; in DUAL with a frame received and with one
of its own. -/
theorem test_witness_LineModes :
    (∀ m ∈ [LineMode.dual, .aOnly, .bOnly, .down],
      let d := (grill 5).onLif (fun l => { l with mode := m, cleanCount := 64 })
      d.fe.station ≠ .standby ∧ d.fe.inFlight = none ∧ d.fe.rx = none ∧ d.lif.mode = m ∧ d.sp.config.lock = .auto ∧
        d.lif.cleanCount = 64) ∧
    ((grill 5).onFe (fun f => { f with rx := some (receiving .onLine .start) })).fe.rx =
      some (receiving .onLine .start) ∧
    (sending (flying .mark .mark 5) (grill 5)).fe.inFlight = some (flying .mark .mark 5) ∧
    (grill 5).lif.mode = .dual ∧ (Failure.mk 0 true).inGap = true ∧ (Failure.mk 0 false).inGap = false := by
  decide

/-- R48, R54: wire A fails under an own frame; the reject break goes on wire B. -/
theorem test_failover_drives_good_wire :
    (after (.wireFailed .a ⟨0, false⟩) (sending (flying .mark .mark 5) (grill 5))).fe.drove = [⟨.rejectBreak, [.b]⟩] := by
  decide

/-- The wave of `wave` at its settling, marked partial by the Link and heard from one tick inside the 64, with 23 sirloin. -/
def settlingWave : Wave :=
  { wave 0 .settling none with partialMark := true, heardFrom := 103937, lines := [⟨31, 23⟩] }

theorem test_witness_WaveCloseSettles :
    (let d := holding 104000 [wave 0 .opened none] [] [];
      d.idsOk ∧ d.named? 8 40 = some (wave 0 .opened none) ∧ (wave 0 .opened none).close = some d.sck.tick) ∧
    (let d := (holding 104004 [settlingWave] [] []).onTi
        (fun _ => { tickets := [⟨8, 2001, 0, [⟨31, 23, 23⟩]⟩], issues := [] });
      d.idsOk ∧ d.named? 8 40 = some settlingWave ∧ settlingWave.close = some 104000 ∧
        (104000 : Tick) + 4 = d.sck.tick ∧ before (104000 - 64) settlingWave.heardFrom = true ∧
        (settlingWave.lines.map (·.dish)).Nodup ∧
        (∀ l ∈ settlingWave.lines, 1 ≤ d.sizeOf l.dish ∧ l.demand = unbatchedOf 0 l.dish d.ti.tickets) ∧
        (settlingWave.lines.map (fun l => (l.demand + d.sizeOf l.dish - 1) / d.sizeOf l.dish)).sum +
          d.bp.batches.length + d.heldBack ≤ 96) := by
  unfold Device.idsOk; decide

theorem test_witness_WaveAbandons :
    (let d := holding 139816 [wave 0 .goSet (some 111016)] [sirloin 0 0 .cooking] [];
      d.idsOk ∧ d.named? 8 40 = some (wave 0 .goSet (some 111016)) ∧ d.strap.cls ≠ 0 ∧
        (wave 0 .goSet (some 111016)).go = some (d.sck.tick - 28800)) ∧
    (let d := { pass 139816 with wu := { waves := [wave 0 .goSet (some 111016)], nextRef := 1 } };
      d.idsOk ∧ d.named? 8 40 = some (wave 0 .goSet (some 111016)) ∧ d.strap.cls = 0 ∧ d.fe.inFlight = none ∧
        ∀ e ∈ d.iu.queue, e.orphan = none) := by
  unfold Device.idsOk; decide

/-- A pass whose PICKUP of that wave is in flight. -/
theorem test_witness_WaveAbandons_flying :
    let e : IssueEntry := { kind := .pickup, num := 40, serial := 0, fails := 0, orphan := none }
    let d := sending (flying .issue (.pickup 40) 139815)
      { pass 139816 with wu := { waves := [wave 0 .goSet (some 111016)], nextRef := 1 }, iu := { queue := [e] } }
    d.idsOk ∧ d.named? 8 40 = some (wave 0 .goSet (some 111016)) ∧ d.strap.cls = 0 ∧
      d.fe.inFlight = some (flying .issue (.pickup 40) 139815) ∧ d.iu.queue = [e] ∧
      e.num = (wave 0 .goSet (some 111016)).noticeId.num ∧ (wave 0 .goSet (some 111016)).go = some (d.sck.tick - 28800) := by
  unfold Device.idsOk; decide

/-- A HOLDING batch with three spares, a FORMED batch of two, and a ticket with four unbatched sirloin. -/
theorem test_witness_FormationCreates :
    let d := (holding 105000 [wave 0 .goSet (some 111016)]
      [{ sirloin 0 0 .holding with contribs := [⟨2002, 3⟩] },
        { sirloin 1 0 .formed with portions := 2, contribs := [⟨2002, 2⟩] }] [1]).onTi
      (fun t => { t with tickets := [⟨8, 2001, 0, [⟨31, 4, 4⟩]⟩] })
    1 ≤ d.sizeOf 31 ∧ d.sizeOf 31 = 6 ∧ d.idsOk ∧ ((d.ti.tickets.filter (fun t => t.wave = 0)).map (·.serial)).Nodup ∧
      d.claimable 0 31 = [{ sirloin 0 0 .holding with contribs := [⟨2002, 3⟩] }] ∧
      (∀ b ∈ d.claimable 0 31, (b.contribs.map (·.serial)).Nodup ∧
        b.contribs.length + (d.ti.tickets.filter (fun t => t.wave = 0)).length ≤ 16) ∧
      d.fillable 0 31 = [{ sirloin 1 0 .formed with portions := 2, contribs := [⟨2002, 2⟩] }] := by
  unfold Device.idsOk; decide

/-- R84, R82, R113: of those four portions three go to the spares and the fourth to the FORMED batch. -/
theorem test_claims_then_fills :
    ((holding 105000 [{ wave 0 .goSet (some 111016) with lines := [⟨31, 4⟩] }]
      [{ sirloin 0 0 .holding with contribs := [⟨2002, 3⟩] },
        { sirloin 1 0 .formed with portions := 2, contribs := [⟨2002, 2⟩] }] [1]).onTi
      (fun t => { t with tickets := [⟨8, 2001, 0, [⟨31, 4, 4⟩]⟩] }) |>.formationPass 0).bp.batches.map
        (fun b => (b.portions, b.contribs)) = [(6, [⟨2002, 3⟩, ⟨2001, 3⟩]), (3, [⟨2002, 2⟩, ⟨2001, 1⟩])] := by
  decide

/-- One configured lane, free, at the batch's release. -/
theorem test_witness_BatchReleasedCalled :
    let d := (holding 106680 [wave 0 .goSet (some 111016)] [sirloin 0 0 .formed] [0]).onSp
      (fun p => { p with config := { p.config with laneCount := 1 } })
    d.idsOk ∧ sirloin 0 0 .formed ∈ d.bp.batches ∧ d.bp.fireQ = [] ++ (sirloin 0 0 .formed).bid :: [] ∧
      atOrAfter d.sck.tick (sirloin 0 0 .formed).rl = true ∧ d.fe.inFlight = none ∧
      ((0 : Fin 8).val < d.sp.config.laneCount ∧ (d.lane 0).state = .idle ∧ (d.lane 0).reserved = false) ∧
      d.kindOf 31 = some (d.laneKind 0) ∧
      ∀ j : Fin 8, j ≠ 0 → ¬(j.val < d.sp.config.laneCount ∧ (d.lane j).state = .idle ∧ (d.lane j).reserved = false) := by
  unfold Device.idsOk; decide

/-- One tick after the latest start plus the threshold, with no offer yet and with one 8 ticks ago. -/
theorem test_witness_BehindOffered : ∀ n ∈ [0, 1],
    let last : Option Tick := if n = 0 then none else some 107177
    let b := { sirloin 0 0 .formed with lastOffer := last }
    let d := holding 107185 [wave 0 .goSet (some 111016)] [b] [0]
    d.idsOk ∧ d.strap.cls ≠ 0 ∧ d.fe.station = .onLine ∧ d.bp.handed.length < 16 ∧ d.fe.txq = [] ∧
      d.fe.inFlight = none ∧ d.bp.batches = [b] ∧ (d.wave? b.wave).map (·.state) = some .goSet ∧
      before (b.ls + BitVec.ofNat 24 d.sp.config.threshold) d.sck.tick = true ∧ b.staged = false ∧ b.attempts < 2 ∧
      b.adopted = false ∧ (last.all fun t => !before d.sck.tick (t + 8)) = true := by
  unfold Device.idsOk; decide

theorem test_witness_SlipCutoffLate :
    let b := { sirloin 0 0 .formed with attempts := 2 }
    let w := wave 0 .goSet (some 111016)
    let d := holding 111000 [w] [b] [0]
    d.idsOk ∧ d.strap.cls ≠ 0 ∧ d.named? 8 40 = some w ∧ w.state = .goSet ∧ w.go = some 111016 ∧
      before d.sck.tick (111016 - 16) = false ∧ d.estimate w = some ⟨114856, false⟩ ∧
      before 111016 (Estimate.mk 114856 false).tick = true ∧ b ∈ d.bp.batches ∧ b.wave = w.ref ∧ b.state = .formed ∧
      b.late = false ∧ before (b.ls + BitVec.ofNat 24 d.sp.config.threshold) d.sck.tick = true ∧ 2 ≤ b.attempts := by
  unfold Device.idsOk; decide

/-- The same batch already marked late. -/
theorem test_witness_SlipCutoffLate_marked :
    let b := { sirloin 0 0 .formed with attempts := 2, late := true }
    let d := holding 111000 [wave 0 .goSet (some 111016)] [b] [0]
    d.idsOk ∧ b ∈ d.bp.batches ∧ b.late = true ∧ (∀ x ∈ d.bp.batches, x.seq = b.seq → x = b) ∧
      (after (.slipCutoff 8 40) d).sp.notices = [] := by
  unfold Device.idsOk; decide

/-- A batch at its hold expiry: not refired, refired, and without contributors. -/
theorem test_witness_HoldExpiry : ∀ x ∈ [(0, [(⟨2002, 6⟩ : Contrib)]), (1, [⟨2002, 6⟩]), (0, [])],
    let b := { sirloin 0 0 .holding with done := some 110000, refire := x.1, contribs := x.2 }
    let d := holding 110497 [wave 0 .goSet (some 111016)] [b, sirloin 1 0 .holding] []
    d.idsOk ∧ b ∈ d.bp.batches ∧ b.state = .holding ∧
      b.done = some (d.sck.tick - BitVec.ofNat 24 (d.sp.config.margin + d.holdOf b.dish + 1)) ∧
      (∀ y ∈ d.bp.batches, y.seq = b.seq → y = b) ∧
      (∀ w ∈ d.wu.waves, w.state = .goSet → ∀ l ∈ w.lines, l.demand = 0) ∧
      ∃ y ∈ d.bp.batches, y.wave = b.wave ∧ y.bid ≠ b.bid := by
  unfold Device.idsOk; decide

/-- A lane cooking batch 0 with its turn tick, its due tick and its flash end at one boundary. -/
def cookingLane (t : Tick) : Lane :=
  { Lane.reset with state := .cooking, current := some 0, turnTick := some t, dueTick := some t, flashEnd := some t }

/-- A lane with its call, or its due batch, since a tick. -/
def waitingLane (st : LaneState) (t : Tick) : Lane :=
  { Lane.reset with state := st, current := some 0, calledSince := some t, dueSince := some t }

theorem test_witness_LaneBoundaries_overdue :
    ((withLane 0 (cookingLane 500) (grill 500)).lane 0).flashEnd = some 500 ∧
    (let d := withLane 0 (waitingLane .called 500) (grill 581);
      (d.lane 0).state = .called ∧ (d.lane 0).overdue = .none ∧ (d.lane 0).calledSince = some 500 ∧
        d.sck.tick = 500 + BitVec.ofNat 24 (d.sp.config.callWindow + 1)) ∧
    (let d := withLane 0 (waitingLane .due 500) (grill 541);
      (d.lane 0).state = .due ∧ (d.lane 0).overdue = .none ∧ (d.lane 0).dueSince = some 500 ∧
        d.sck.tick = 500 + BitVec.ofNat 24 (d.sp.config.dueWindow + 1)) := by
  decide

/-- At the due tick with no batch released and with one; one tick before it, and an IDLE lane. -/
theorem test_witness_LaneBoundaries :
    (∀ q ∈ [[], [1]],
      let d := withLane 0 (cookingLane 110000)
        (holding 110000 [wave 0 .goSet (some 111016)] [sirloin 0 0 .cooking, sirloin 1 0 .formed] q)
      d.idsOk ∧ sirloin 0 0 .cooking ∈ d.bp.batches ∧ (d.lane 0).state = .cooking ∧
        (d.lane 0).turnTick = some d.sck.tick ∧ (d.lane 0).dueTick = some d.sck.tick ∧ (d.lane 0).current = some 0 ∧
        (d.firstFor (d.laneKind 0)).map (·.bid) = q.head?) ∧
    ((withLane 0 (cookingLane 110000) (grill 109999)).lane 0).dueTick ≠ some 109999 ∧
    ((grill 5).lane 0).state ≠ .cooking := by
  unfold Device.idsOk; decide

theorem test_witness_PressStarts :
    let d := withLane 0 (waitingLane .called 106680) (holding 106700 [wave 0 .goSet (some 111016)] [sirloin 0 0 .called] [])
    d.idsOk ∧ sirloin 0 0 .called ∈ d.bp.batches ∧ (0 : Fin 8).val < d.sp.config.laneCount ∧
      (d.lane 0).lastPress = none ∧ (d.lane 0).state = .called ∧ (d.lane 0).current = some 0 := by
  unfold Device.idsOk; decide

/-- A press in the own accept slot, on the lane of the batch on offer; and that press deferred. -/
theorem test_witness_PressStarts_deferred :
    let f := flying (.offer 0) (.offer 40 8 111016 0 31 6 [⟨2002, 6⟩]) 106700
    let d := withLane 0 (waitingLane .called 106680)
      (sending f (holding 106700 [wave 0 .goSet (some 111016)] [{ sirloin 0 0 .called with lane := some 0 }] []))
    d.fe.inFlight = some f ∧ f.entry = .offer 0 ∧ (d.lane 0).state = .called ∧ (d.lane 0).current = some 0 ∧
      f.frame.body.kind = .offer ∧ { f with deferred := some (0 : Fin 8) }.deferred = some 0 ∧
      ((after (.offerFate .rejected noTakerReply onBoth) (after (.buttonPress 0 true) d)).lane 0).state = .cooking ∧
      ((after (.buttonPress 0 true) d).lane 0).lastPress = none := by
  decide

/-- A done press at exactly half the cook time, of a wave SET with a staged batch and of one AWAY, and on a DUE lane. -/
theorem test_witness_PressEnds :
    (∀ st ∈ [WaveState.goSet, .away],
      let b := { sirloin 0 0 .cooking with start := some 106000, lane := some 0 }
      let y := { sirloin 1 0 .formed with staged := true, lane := some 0 }
      let d := withLane 0 { cookingLane 109840 with staged := some 1 } (holding 107920 [wave 0 st (some 111016)] [b, y] [])
      d.idsOk ∧ b ∈ d.bp.batches ∧ (0 : Fin 8).val < d.sp.config.laneCount ∧ (d.lane 0).lastPress = none ∧
        (d.lane 0).current = some b.bid ∧ (d.lane 0).state = .cooking ∧
        before d.sck.tick (b.start.getD 0 + BitVec.ofNat 24 (d.cookOf b.dish / 2)) = false ∧
        d.waveStateOf b.wave = some st ∧ y ∈ d.bp.batches ∧ (d.lane 0).staged = some y.bid ∧ y.bid ≠ b.bid) ∧
    (let d := withLane 0 (waitingLane .due 106000) (holding 106001 [wave 0 .away (some 111016)] [sirloin 0 0 .due] []);
      (d.lane 0).state = .due ∧ (d.lane 0).staged = none ∧ (∀ x ∈ d.queued, d.released x = false) ∧
        ∀ x ∈ d.bp.batches, x.wave = 0 → x = sirloin 0 0 .due) := by
  unfold Device.idsOk; decide

/-- A press 2 ticks after the last is debounced and one 3 ticks after is not; lane 5 is not configured. -/
theorem test_witness_PressDebounce :
    (grill 5).sp.config.laneCount ≤ (5 : Fin 8).val ∧
      (let d := withLane 0 { cookingLane 4000 with lastPress := some 3, current := some 0 }
          (holding 5 [wave 0 .goSet (some 111016)] [{ sirloin 0 0 .cooking with start := some 4 }] []);
        (0 : Fin 8).val < d.sp.config.laneCount ∧ (d.lane 0).lastPress = some 3 ∧ d.sck.tick = 3 + 2 ∧
          (d.lane 0).state = .cooking ∧ ((d.lane 0).current.bind d.batch?).isSome = true ∧
          before d.sck.tick (4 + BitVec.ofNat 24 (d.cookOf 31 / 2)) = true) ∧
      (let d := withLane 0 { Lane.reset with lastPress := some 2 } (grill 5);
        ¬(d.sck.tick = 2 ∨ d.sck.tick = 2 + 1 ∨ d.sck.tick = 2 + 2) ∧ (d.lane 0).state = .idle) ∧
      (grill 5).fe.station ≠ .standby := by
  decide

theorem test_witness_PortRefusals :
    (0x13 : Byte) ∉ ([0x00, 0x10, 0x11, 0x12, 0x18, 0x19, 0x20, 0x21, 0x22, 0x23, 0x24, 0x25, 0x30, 0x31, 0x40, 0x41,
      0x42, 0x43] : List Byte) ∧
      PortRow.configure.taken (grill 5) = false ∧ PortRow.leave.taken (grill 5) = true ∧
      PortRow.lengthOk [0] .leave = false ∧ PortRow.lengthOk [40, 0, 1, 1, 31] .issueTicket = false ∧
      ([] : List Byte) = [] ∧ [(0 : Byte), 1].head? = some 0 ∧ (0x19 : Byte) ≠ 0 ∧
      ([] : List Byte).length < (1 : Byte).toNat ∧ ([40] : List Byte).length = (1 : Byte).toNat ∧
      PortRow.sendPickup.code = 0x43 ∧ ∀ r ∈ PortRow.all, r.code ≠ 0x13 := by
  decide

/-- The station in STANDBY, with its menu empty and full. -/
theorem test_witness_HostCommands :
    let d := (grill 5).onFe (fun f => { f with station := .standby })
    d.fe.station = .standby ∧ (List.replicate 18 (1 : Byte)).length = 18 ∧ (List.replicate 9 (1 : Byte)).length = 9 ∧
      (let p : List Byte := List.replicate 14 1 ++ [1, 0, 0, 15];
        ¬(8 < param8 p 0 ∨ param8 p 14 = 0 ∨ 8 < param8 p 14 ∨ param8 p 14 ≤ param8 p 15)) ∧
      (let p : List Byte := [31, 0, 0, 5, 0, 9, 0, 5, 0];
        ¬(param p 0 = 0 ∨ (d.strap.cls ≠ 0 ∧
          ∀ i : Fin 8, i.val < d.sp.config.laneCount → d.laneKind i ≠ param8 p 1)) ∧
          ¬(64 ≤ d.sp.menu.length ∧ ∀ y ∈ d.sp.menu, y.code ≠ param p 0)) ∧
      d.sp.menu.Pairwise (fun a b => a.code.toNat < b.code.toNat) := by
  decide

theorem test_witness_JoinAndLeave :
    (let d := (grill 5).onFe (fun f => { f with station := .standby });
      d.fe.station = .standby ∧ d.sck.periodEndDue = false ∧ d.strap.addr ≠ 0 ∧ d.strap.addr ≠ 63 ∧
        1 ≤ d.sp.config.laneCount ∧ d.sp.menu ≠ [] ∧
        ∀ x ∈ d.sp.menu, ∃ i : Fin 8, i.val < d.sp.config.laneCount ∧ d.laneKind i = x.kind) ∧
    (grill 5).fe.station ≠ .standby := by
  decide

/-- OPEN_WAVE with its call time 127 and 128 ticks ahead. -/
theorem test_witness_PassCommands_open :
    (pass 5).strap.cls = 0 ∧ (pass 5).fe.station = .onLine ∧ (pass 5).named? 8 40 = none ∧
      ((132 : Tick) - 5).toInt < 128 ∧ ¬((133 : Tick) - 5).toInt < 128 ∧ (pass 5).wu.waves.length < 32 := by
  decide

/-- Pass 8 with wave 40 SET and one ticket, queued or issued. -/
def issuing (issued : Bool) : Device :=
  { pass 104010 with
    wu := { waves := [wave 0 .goSet (some 111016)], nextRef := 1 }
    ti := { tickets := [], issues := [⟨2002, 0, [⟨31, 6⟩], issued, false, false⟩] }
    iu := { queue := [⟨.ticket, 40, 2002, 0, none⟩] } }

/-- A further ticket of the wave, and its pickup. -/
theorem test_witness_PassCommands_issue :
    (issuing false).named? 8 40 = some (wave 0 .goSet (some 111016)) ∧ (wave 0 .goSet (some 111016)).state ≠ .settling ∧
      (wave 0 .goSet (some 111016)).pickupPending = false ∧ (issuing false).iu.queue.length < 16 ∧
      (issuing false).ti.issues.length < 256 ∧ (∀ x ∈ (issuing false).ti.issues, x.serial ≠ 2003) ∧
      ∀ o ∈ ([⟨31, 63⟩] : List Order), o.dish ≠ 0 ∧ 1 ≤ o.qty ∧ o.qty ≤ 63 := by
  decide

/-- A VOID of the ticket while its TICKET waits, and of the ticket issued. -/
theorem test_witness_PassCommands_void : ∀ i ∈ [true, false],
    (issuing i).ti.issues.find? (fun x => x.serial == 2002 && x.wave == 0) =
        some ⟨2002, 0, [⟨31, 6⟩], i, false, false⟩ ∧
      (issuing i).fe.inFlight = none ∧
      ∃ x ∈ (issuing i).iu.queue, x.kind = .ticket ∧ x.serial = 2002 ∧ x.orphan = none := by
  decide

/-- A full issue queue, a pickup pending, a VOID pending, and a TICKET in flight. -/
theorem test_witness_PassCommands_refused :
    (let d := (issuing true).onIu (fun u => { u with queue := List.replicate 16 ⟨.ticket, 40, 2002, 0, none⟩ });
      16 ≤ d.iu.queue.length ∧ d.named? 8 40 = some (wave 0 .goSet (some 111016)) ∧ (wave 0 .goSet none).state = .goSet) ∧
    (let w := { wave 0 .goSet (some 111016) with pickupPending := true };
      (holding 5 [w] [] []).named? 8 40 = some w ∧ w.pickupPending = true) ∧
    (let d := (issuing true).onTi (fun t => { t with issues := [⟨2002, 0, [⟨31, 6⟩], true, false, true⟩] });
      d.ti.issues.find? (fun x => x.serial == 2002 && x.wave == 0) = some ⟨2002, 0, [⟨31, 6⟩], true, false, true⟩) ∧
    (∀ x ∈ (issuing false).ti.issues, ¬(x.serial = 2003 ∧ x.wave = 0)) ∧
    (let d := sending (flying .issue ticketBody 104010) (issuing false);
      d.fe.inFlight = some (flying .issue ticketBody 104010) ∧ d.iu.queue = [⟨.ticket, 40, 2002, 0, none⟩] ∧
        d.ti.issues.find? (fun x => x.serial == 2002 && x.wave == 0) =
          some ⟨2002, 0, [⟨31, 6⟩], false, false, false⟩) := by
  decide

theorem test_witness_ReadRecords :
    let d := (holding 5 [wave 0 .opened none] [sirloin 0 0 .formed] [0]).onTi (fun t => { t with tickets := [filed 0 6] })
      |>.onBp (fun p => { p with handed := [⟨0, 31, 22, 100, 5, [⟨2002, 6⟩]⟩] })
    d.named? 62 40 = none ∧ d.named? 8 40 = some (wave 0 .opened none) ∧ d.strap.cls ≠ 0 ∧ (filed 0 6).pass ≠ 0 ∧
      filed 0 6 ∈ d.ti.tickets ∧ (∀ b ∈ d.bp.batches, b.seq ≠ 7) ∧ sirloin 0 0 .formed ∈ d.bp.batches ∧
      d.bp.handed[(0 : Byte).toNat]? = some ⟨0, 31, 22, 100, 5, [⟨2002, 6⟩]⟩ ∧ 8 ≤ (8 : Byte).toNat ∧
      d.wu.waves[(0 : Byte).toNat]? = some (wave 0 .opened none) ∧ d.wu.waves.length ≤ (1 : Byte).toNat ∧
      d.ti.tickets[0]? = some (filed 0 6) ∧ d.ti.tickets.length ≤ 1 ∧ d.bp.handed.length ≤ (1 : Byte).toNat ∧
      (∀ x ∈ d.ti.tickets, ¬(x.pass = 62 ∧ x.serial = 2002)) ∧ d.bp.batches = [] ++ sirloin 0 0 .formed :: [] ∧
      (∀ j < 1, ∀ x ∈ d.wu.waves[j]?, x.anonymous = false → x.id = (wave 0 .opened none).id → j = 0) ∧
      d.sck.atBoundary = false ∧ d.returnDue = false ∧ 1 < (2 : Byte).toNat := by
  decide

/-- R174: bit 5 of byte 4 for a call time, bits 0, 1 and 2 of byte 5 for a saturated estimate and an announcement. -/
theorem test_read_wave_flags :
    let w := { wave 0 .opened none with est := some ⟨7, true⟩, own := .estimate 9 8 }
    let data := (after (.readWave [0, 0]) (holding 5 [w] [] [])).sp.reply.data
    data[4]? = some 0x20 ∧ data[5]? = some 0x07 ∧ (data.drop 21).take 9 = be24 7 ++ be24 9 ++ be24 8 := by
  decide

/-- The same on a pass, whose index holds one issue record. -/
theorem test_witness_ReadRecords_pass :
    (issuing true).strap.cls = 0 ∧ (issuing true).strap.addr ≠ 0 ∧ (issuing true).ti.issues.length ≤ 1 ∧
      (issuing true).ti.issues[0]? = some ⟨2002, 0, [⟨31, 6⟩], true, false, false⟩ ∧
      (∀ j < 1, ∀ y ∈ (issuing true).ti.issues[j]?, y.serial = 2002 → j = 0) ∧
      ∀ r ∈ (issuing true).ti.issues, r.serial ≠ 7 := by
  decide

theorem test_witness_NoticeQueue :
    let n : Notice := ⟨5, .waveSet ⟨8, 40⟩ 111016 3⟩
    ((grill 5).onSp (fun p => { p with notices := [n] })).sp.notices = n :: [] ∧ (grill 5).sp.notices = [] := by
  decide

/-- A working station with a batch on each kind of place meets every invariant, and its steps answer. -/
def working : Device :=
  withLane 0 { Lane.reset with state := .called, current := some 0, calledSince := some 106680 }
    (holding 106680 [wave 0 .goSet (some 111016)]
      [{ sirloin 0 0 .called with lane := some 0 }, sirloin 1 0 .formed, sirloin 2 0 .holding] [1])

theorem test_witness_ClockInvariant : working.clockOk := by unfold Device.clockOk; decide

theorem test_witness_IdsInvariant : working.idsOk := by unfold Device.idsOk; decide

theorem test_witness_LinkInvariant : working.linkOk ∧ working.restOk := by
  refine ⟨⟨by decide, by decide, ?_, by decide⟩, by unfold Device.restOk; decide⟩
  intro h; exact absurd h (by decide)

theorem test_witness_RoomInvariant_port : working.portOk := by unfold Device.portOk; decide

theorem test_witness_RoomInvariant : working.roomOk := by
  refine ⟨by decide, by decide, ?_, by decide, by decide, by decide,
    by decide⟩
  intro f bid h; exact absurd h (by simp [working, withLane, holding, grill, Device.onLane, Device.onLu, Fe.reset])

/-- A step of that station that answers, as every statement about a step asks. -/
theorem test_witness_ClockAdvancesOneTick :
    (∃ t, step { dev := working, pending := [.ring []] } = .next t) ∧ working.wu.waves ≠ [] ∧
      (∀ (addr : Addr) (cls : ClassNo) (rest : List Instr), [Instr.ring []] ≠ .reset addr cls :: rest) := by
  exact ⟨⟨_, rfl⟩, by decide, by simp⟩

theorem test_witness_GoMovesOnlyBySlips :
    ∃ t, step { dev := working, pending := [.ring []] } = .next t ∧ t.dev.wu.waves = working.wu.waves ∧
      wave 0 .goSet (some 111016) ∈ working.wu.waves := by
  exact ⟨_, rfl, rfl, by decide⟩

/-- The station of `working` with a ticket whose 22 sirloin are four unbatched and six in each batch, its sequences from 0. -/
def accounted : Device :=
  { working with
    wu := { waves := [{ wave 0 .goSet (some 111016) with lines := [⟨31, 4⟩] }], nextRef := 9 }
    ti := { tickets := [⟨8, 2002, 0, [⟨31, 22, 4⟩]⟩], issues := [] }
    bp := { working.bp with
      counter := 9
      batches := working.bp.batches.map (fun b => { b with seq := BitVec.ofNat 16 b.bid }) } }

theorem test_witness_AccountsInvariant : accounted.idsOk ∧ accounted.filedOk ∧ accounted.accountsOk := by
  have hf : accounted.fe.inFlight = none := by decide
  have hr : accounted.fe.rx = none := by decide
  have hw : accounted.wu.waves = [{ wave 0 .goSet (some 111016) with lines := [⟨31, 4⟩] }] := by decide
  have ht : accounted.ti.tickets = [⟨8, 2002, 0, [⟨31, 22, 4⟩]⟩] := by decide
  have hb : accounted.bp.batches =
    [{ sirloin 0 0 .called with lane := some 0, seq := 0 }, { sirloin 1 0 .formed with seq := 1 },
      { sirloin 2 0 .holding with seq := 2 }] := by decide
  have hh : accounted.bp.handed = [] := by decide
  refine ⟨by unfold Device.idsOk; decide, ⟨?_, by decide, by decide, by decide, by decide, ?_, ?_⟩, ?_⟩
  · intro t h
    rw [ht] at h
    obtain rfl := List.mem_singleton.mp h
    exact ⟨_, by rw [hw]; exact List.mem_singleton.mpr rfl, rfl, rfl, 40, rfl⟩
  · intro f bid h
    simp [hf] at h
  · intro r h
    simp [hr] at h
  · intro w h _
    rw [hw] at h
    obtain rfl := List.mem_singleton.mp h
    refine ⟨by decide, ?_, ?_⟩
    · intro dish h
      have hd : ¬31#8 = dish := h ⟨31, 4⟩ (by simp)
      simp [ht, unbatchedOf, wave, hd]
    · intro serial dish
      by_cases hs : 2002#16 = serial <;> by_cases hd : 31#8 = dish
      · subst hs hd; decide
      all_goals
        simp [quantityOf, unbatchedOf, Device.inBatches, Device.inHanded, listedFor, portionsOf, sirloin, wave, *]

theorem test_witness_FloorInvariant_rest : accounted.idsOk ∧ accounted.linkOk ∧ accounted.restOk := by
  refine ⟨by unfold Device.idsOk; decide, ⟨by decide, by decide, ?_, by decide⟩, by unfold Device.restOk; decide⟩
  intro h; exact absurd h (by decide)

theorem test_witness_FloorInvariant : accounted.floorOk := by
  have hf : accounted.fe.inFlight = none := by decide
  have hr : accounted.fe.rx = none := by decide
  have hc : ∀ i : Fin 8, (accounted.lane i).current = if i = 0 then some 0 else none := by decide
  have hs : ∀ i : Fin 8, (accounted.lane i).staged = none := by decide
  have hq : accounted.bp.fireQ = [1] := by decide
  have h0 : (accounted.lane 0).state = .called := by decide
  have hb : accounted.bp.batches =
    [{ sirloin 0 0 .called with lane := some 0, seq := 0 }, { sirloin 1 0 .formed with seq := 1 },
      { sirloin 2 0 .holding with seq := 2 }] := by decide
  refine ⟨?_, ?_, by decide, by decide, by decide, by decide, by decide,
    by decide, ?_, ?_, ?_⟩
  · intro i bid h
    rw [hc] at h
    by_cases hi : i = 0
    · subst hi
      refine ⟨{ sirloin 0 0 .called with lane := some 0, seq := 0 }, by rw [hb]; simp, ?_, rfl, .inl ⟨h0, rfl⟩⟩
      simpa [sirloin] using h
    · simp [hi] at h
  · intro i bid h
    rw [hs] at h
    simp at h
  · intro bid
    rw [hq, hb]
    constructor
    · intro h
      exact ⟨{ sirloin 1 0 .formed with seq := 1 }, by simp, (List.mem_singleton.mp h).symm, rfl, rfl⟩
    · rintro ⟨b, hm, rfl, h2, -⟩
      simp only [List.mem_cons, List.not_mem_nil, or_false] at hm
      rcases hm with rfl | rfl | rfl
      · exact absurd h2 (by decide)
      · decide
      · exact absurd h2 (by decide)
  · intro f bid h
    simp [hf] at h
  · intro r i h
    simp [hr] at h

/-- That station, and the one a RING leaves: every latest start lies after tick 0 by less than half the clock. -/
theorem test_witness_FireQueueOrder :
    accounted.fireOk ∧ accounted.startsIn 0 ∧ (after (.ring []) accounted).startsIn 0 ∧
      (∃ t, step { dev := accounted, pending := [.ring []] } = .next t ∧ t.dev = after (.ring []) accounted) ∧
      ∀ b ∈ accounted.bp.batches, (after (.ring []) accounted).bp.nextBid ≤ b.bid + 32767 := by
  refine ⟨by unfold Device.fireOk; decide, ?_, ?_, ⟨_, rfl, rfl⟩, by decide⟩ <;>
    (unfold Device.startsIn inHalf; decide)

/-- A body of every kind within its ranges. -/
theorem test_witness_BodyRoundTrip :
    (offerBody.wf && ticketBody.wf && (Body.ready 40 8 7017 false false).wf && (Body.slip 40 8 50 true).wf &&
      (Body.void 40 2002).wf && (Body.pickup 40).wf && Body.mark.wf && addrOk 62 && addrOk 1 &&
      Kind.offer.classOk 15 && Kind.ticket.classOk 0) = true ∧
    (rawOf 8 0 0 ticketBody).length.toNat = (rawOf 8 0 0 ticketBody).body.length := by
  decide

end Sys2Proof.Tests
end

section
/-! What each command does to the part: the table of `exec` read once, so that proofs about every command go through it. -/

namespace Sys2Proof

open Machine

/-- What a command does to the part; the waiting commands are left alone by all of them. -/
def Instr.effect : Instr → Device → Device
  | .reset addr cls => fun _ => Device.reset addr cls
  | .tickBoundary => Device.tickBoundary
  | .periodEnd => Device.periodEnd
  | .markPlace => Device.markPlace
  | .contend start => Device.contend start
  | .arbitrationLost => Device.loseArbitration
  | .ownBitError inGap line => Device.ownBitError inGap line
  | .frameCodingViolation wait line => Device.codingViolation wait line
  | .markFrame h => Device.receive .mark h noTakerReply
  | .readyFrame h => Device.receive .ready h noTakerReply
  | .slipFrame h => Device.receive .slip h noTakerReply
  | .offerFrame h rep => Device.receive .offer h rep
  | .ticketFrame h => Device.receive .ticket h noTakerReply
  | .voidFrame h => Device.receive .void h noTakerReply
  | .pickupFrame h => Device.receive .pickup h noTakerReply
  | .readyFate fate line => Device.fateOf .ready fate noTakerReply .one line
  | .slipFate fate line => Device.fateOf .slip fate noTakerReply .one line
  | .offerFate fate rep line => Device.fateOf .offer fate rep .one line
  | .markFate fate line => Device.fateOf .mark fate noTakerReply .one line
  | .ticketFate fate short line => Device.fateOf .ticket fate noTakerReply (short.read .shared) line
  | .voidFate fate line => Device.fateOf .void fate noTakerReply .one line
  | .pickupFate fate line => Device.fateOf .pickup fate noTakerReply .one line
  | .wireFailed wire failure => Device.wireFails wire failure
  | .lineReturn => Device.lineReturn
  | .lineDown cause other => Device.lineDown cause other
  | .frameSeen seen => Device.frameSeen seen
  | .quietEnd => Device.quietEnd
  | .listenEnd => Device.listenEnd
  | .waveClose pass num => Device.onNamed pass num Device.waveClose
  | .waveSettle pass num => Device.onNamed pass num Device.waveSettle
  | .waveAbandon pass num => Device.onNamed pass num Device.waveAbandon
  | .passWaveAbandon pass num => Device.onNamed pass num Device.passAbandon
  | .batchReleased seq => Device.batchReleased seq
  | .batchBehind seq => Device.batchBehind seq
  | .offerRetryDue seq => Device.offerRetry seq
  | .slipCutoff pass num => Device.onNamed pass num Device.slipCutoff
  | .holdExpiry seq => Device.holdExpired seq
  | .turnCompare lane => Device.turnCompare lane
  | .turnFlashEnd lane => Device.flashEnd lane
  | .dueCompare lane => Device.dueCompare lane
  | .callOverdue lane => Device.callOverdue lane
  | .dueOverdue lane => Device.dueOverdue lane
  | .buttonPress lane inAccept => Device.buttonPress lane inAccept
  | .configure params => Device.configure params
  | .loadDish params => Device.loadDish params
  | .clearMenu params => Device.clearMenu params
  | .join params => Device.join params
  | .leave params => Device.leave params
  | .silence params => Device.silence params
  | .ring params => Device.ringBell params
  | .openWave params => Device.openWave params
  | .issueTicket params => Device.issueTicket params
  | .voidTicket params => Device.voidTicket params
  | .sendPickup params => Device.sendPickup params
  | .readStation elapsed params => Device.readStation elapsed params
  | .readWave params => Device.readWave params
  | .readTicket params => Device.readTicket params
  | .readBatch params => Device.readBatch params
  | .readLane params => Device.readLane params
  | .readNotice params => Device.readNotice params
  | .unknownCommand code _ => Device.unknownCommand code
  | .nullSelect _ => Device.nullSelect
  | .messageCutShort clocked => Device.messageCutShort clocked

/-- Every command answers the part that its effect leaves, with the queue as it was. -/
theorem Machine.exec_eq (c : Instr) (s : State) : exec c s = .next (s.onDev c.effect) := by cases c <;> rfl

theorem Machine.exec_eq_next {c : Instr} {s t : State} : exec c s = .next t ↔ t = s.onDev c.effect := by
  rw [exec_eq, Host.Outcome.next.injEq, eq_comm]

/-- A step is the effect of the command in front, or one crystal count. -/
theorem Machine.step_eq_next {s t : State} : step s = .next t ↔
    (∃ c rest, s.pending = c :: rest ∧ t = { dev := c.effect s.dev, pending := rest }) ∨
      (s.pending = [] ∧ t = s.onDev Device.crystalCount) := by
  unfold step
  split
  · next c rest h => simp [h, exec_eq_next, State.onDev, and_assoc]
  · next h => simp [h, eq_comm]

end Sys2Proof
end

section
/-! What each command does to the part, by name, and the clock's own operations: lemmas about the definitions of
Machine/Clock.lean and Machine/Boundary.lean that the statements about the Service Clock rest on. -/

namespace Sys2Proof.Machine

/-! ### Ordered lists -/

theorem insertBy_perm {α : Type} (lt : α → α → Bool) (x : α) (l : List α) : (insertBy lt x l).Perm (x :: l) := by
  induction l with
  | nil => exact .refl _
  | cons y ys ih =>
    unfold insertBy
    split
    · exact .refl _
    · exact (ih.cons y).trans (.swap x y ys)

theorem foldl_insertBy_perm {α : Type} (lt : α → α → Bool) (l acc : List α) :
    (l.foldl (fun a x => insertBy lt x a) acc).Perm (l ++ acc) := by
  induction l generalizing acc with
  | nil => exact .refl _
  | cons x xs ih => exact (ih _).trans (((insertBy_perm lt x acc).append_left xs).trans List.perm_middle)

/-- Putting a list in order keeps its entries. -/
theorem sortBy_perm {α : Type} (lt : α → α → Bool) (l : List α) : (sortBy lt l).Perm l := by
  simpa [sortBy] using foldl_insertBy_perm lt l []

@[simp] theorem mem_sortBy {α : Type} (lt : α → α → Bool) (l : List α) (x : α) : x ∈ sortBy lt l ↔ x ∈ l :=
  (sortBy_perm lt l).mem_iff

@[simp] theorem length_sortBy {α : Type} (lt : α → α → Bool) (l : List α) : (sortBy lt l).length = l.length :=
  (sortBy_perm lt l).length_eq

/-! ### Means -/

/-- A list of whole numbers in ascending order, as the means read it. -/
theorem pairwise_insertBy_int (x : Int) (l : List Int) (h : l.Pairwise (· ≤ ·)) :
    (insertBy (fun a b => decide (a < b)) x l).Pairwise (· ≤ ·) := by
  induction l with
  | nil => simp [insertBy]
  | cons y ys ih =>
    obtain ⟨hy, hys⟩ := List.pairwise_cons.mp h
    unfold insertBy
    split
    · next hlt =>
      have hxy : x < y := by simpa using hlt
      refine List.pairwise_cons.mpr ⟨fun z hz => ?_, h⟩
      rcases List.mem_cons.mp hz with rfl | hz
      · exact hxy.le
      · exact hxy.le.trans (hy z hz)
    · next hlt =>
      have hyx : y ≤ x := by simpa using hlt
      refine List.pairwise_cons.mpr ⟨fun z hz => ?_, ih hys⟩
      rcases List.mem_cons.mp ((insertBy_perm _ x ys).mem_iff.mp hz) with rfl | hz
      · exact hyx
      · exact hy z hz

theorem pairwise_sortBy_int (l : List Int) : (sortBy (fun a b => decide (a < b)) l).Pairwise (· ≤ ·) := by
  have key : ∀ (l acc : List Int), acc.Pairwise (· ≤ ·) →
      (l.foldl (fun a x => insertBy (fun a b => decide (a < b)) x a) acc).Pairwise (· ≤ ·) := by
    intro l
    induction l with
    | nil => exact fun acc h => h
    | cons x xs ih => exact fun acc h => ih _ (pairwise_insertBy_int x acc h)
  exact key l [] .nil

theorem foldl_add_int (l : List Int) (a : Int) : l.foldl (· + ·) a = a + l.sum := by
  induction l generalizing a with
  | nil => simp
  | cons x xs ih => rw [List.foldl_cons, ih, List.sum_cons, add_assoc]

@[simp] theorem trimmedMean_nil : trimmedMean [] = none := rfl

/-- Fewer than four offsets: their mean, truncated toward zero (R8). -/
theorem trimmedMean_few {l : List Int} (h1 : 1 ≤ l.length) (h3 : l.length ≤ 3) :
    trimmedMean l = some (l.sum.tdiv l.length) := by
  have hp := sortBy_perm (fun a b : Int => decide (a < b)) l
  unfold trimmedMean
  generalize sortBy _ l = s at hp
  cases s with
  | nil => simp [← hp.length_eq] at h1
  | cons x xs =>
    have hn : ¬4 ≤ l.length := by omega
    simp [hn, foldl_add_int, ← hp.sum_eq]

/-- Four offsets or more: the mean without the least and the greatest, truncated toward zero (R8). -/
theorem trimmedMean_many {l : List Int} {hi lo : Int} (hhi : hi ∈ l) (hlo : lo ∈ l) (hb : ∀ x ∈ l, lo ≤ x ∧ x ≤ hi)
    (h4 : 4 ≤ l.length) : trimmedMean l = some ((l.sum - hi - lo).tdiv ((l.length : Int) - 2)) := by
  have hp := sortBy_perm (fun a b : Int => decide (a < b)) l
  have hs := pairwise_sortBy_int l
  unfold trimmedMean
  generalize sortBy _ l = s at hp hs
  cases s with
  | nil => simp [← hp.length_eq] at h4
  | cons x xs =>
    have hne : xs ≠ [] := by rintro rfl; simp [← hp.length_eq] at h4
    obtain ⟨ys, y, rfl⟩ := List.eq_nil_or_concat xs |>.resolve_left hne
    have hx : x = lo := by
      refine le_antisymm ?_ (hb x (hp.mem_iff.mp (by simp))).1
      rcases List.mem_cons.mp (hp.mem_iff.mpr hlo) with e | e
      · exact e.ge
      · exact (List.pairwise_cons.mp hs).1 lo e
    have hy : y = hi := by
      refine le_antisymm (hb y (hp.mem_iff.mp (by simp))).2 ?_
      have hl : (x :: ys ++ [y]).Pairwise (· ≤ ·) := by simpa using hs
      have hm : hi ∈ x :: ys ++ [y] := by simpa using hp.mem_iff.mpr hhi
      rcases List.mem_append.mp hm with e | e
      · exact (List.pairwise_append.mp hl).2.2 hi e y (by simp)
      · exact (List.mem_singleton.mp e).le
    have hsum : l.sum = x + (ys.sum + y) := by rw [← hp.sum_eq]; simp
    have hlen : ((l.length - 2 : Nat) : Int) = (l.length : Int) - 2 := by omega
    simp only [if_pos h4, List.concat_eq_append, List.dropLast_concat, foldl_add_int, hlen]
    rw [hsum, hx, hy]
    congr 2
    ring

end Sys2Proof.Machine
end

section
namespace Sys2Proof.Machine

/-- A trimmed mean is the mean of some of the offsets, truncated toward zero (R8). -/
theorem trimmedMean_eq_some {l : List Int} {m : Int} (h : trimmedMean l = some m) :
    ∃ t : List Int, t ≠ [] ∧ (∀ x ∈ t, x ∈ l) ∧ m = t.sum.tdiv t.length := by
  have hp := sortBy_perm (fun a b : Int => decide (a < b)) l
  unfold trimmedMean at h
  generalize sortBy _ l = s at hp h
  cases s with
  | nil => simp at h
  | cons x xs =>
    have hlen : xs.length + 1 = l.length := by simpa using hp.length_eq
    dsimp only at h
    split at h
    · next h4 =>
      have hd : xs.dropLast.length = l.length - 2 := by simp; omega
      refine ⟨xs.dropLast, List.length_pos_iff.mp (by omega), fun y hy => ?_, ?_⟩
      · exact hp.mem_iff.mp (List.mem_cons_of_mem x (List.dropLast_subset xs hy))
      · rw [hd]; simpa [foldl_add_int, eq_comm] using h
    · refine ⟨x :: xs, by simp, fun y hy => hp.mem_iff.mp hy, ?_⟩
      simpa [foldl_add_int, hlen, eq_comm] using h

/-- A quotient of a sum of `n` numbers within `b` by `n` lies within `b`. -/
theorem natAbs_tdiv_sum_le {t : List Int} {b : Nat} (hne : t ≠ []) (h : ∀ x ∈ t, x.natAbs ≤ b) :
    (t.sum.tdiv t.length).natAbs ≤ b := by
  have hsum : t.sum.natAbs ≤ t.length * b := by
    induction t with
    | nil => simp
    | cons x xs ih =>
      have hx := h x (by simp)
      by_cases hxs : xs = []
      · subst hxs; simpa using hx
      · have hr := ih hxs (fun y hy => h y (by simp [hy]))
        have ht := Int.natAbs_add_le x xs.sum
        simp only [List.sum_cons, List.length_cons, Nat.add_mul, one_mul]
        omega
  rw [Int.natAbs_tdiv, Int.natAbs_natCast]
  exact Nat.div_le_of_le_mul hsum

/-- Offsets within a bound have their trimmed mean within it. -/
theorem natAbs_trimmedMean_le {l : List Int} {m : Int} {b : Nat} (hm : trimmedMean l = some m)
    (h : ∀ x ∈ l, x.natAbs ≤ b) : m.natAbs ≤ b := by
  obtain ⟨t, hne, hsub, rfl⟩ := trimmedMean_eq_some hm
  exact natAbs_tdiv_sum_le hne (fun x hx => h x (hsub x hx))

/-! ### The ranges of the Service Clock (section 1.1) -/

/-- The Service Clock's items in their ranges, by the station state: what `Device.clockOk` says, by name. -/
structure Sck.InRange (st : StationState) (k : Sck) : Prop where
  prescaler    : k.prescaler ≤ 4159
  terminalLow  : 4031 ≤ k.terminal
  terminalHigh : k.terminal ≤ 4159
  periodCount  : k.periodCount ≤ 63
  markQuiet    : k.markQuiet ≤ 32
  corrLow      : -512 ≤ k.corr
  corrHigh     : k.corr ≤ 512
  room         : k.samples.length ≤ Config.sampleCapacity
  senders      : (k.samples.map (·.sender)).Nodup
  offsets      : ∀ x ∈ k.samples, -32767 ≤ x.offset ∧ x.offset ≤ 32767
  inMean       : st = .onLine ∨ st = .quiet → ∀ x ∈ k.samples, x.outlier = false → -1024 ≤ x.offset ∧ x.offset ≤ 1024

theorem Device.clockOk_iff (d : Device) : d.clockOk ↔ d.sck.InRange d.fe.station :=
  ⟨fun ⟨h1, h2, h3, h4, h5, h6, h7, h8, h9, h10, h11⟩ => ⟨h1, h2, h3, h4, h5, h6, h7, h8, h9, h10, h11⟩,
    fun ⟨h1, h2, h3, h4, h5, h6, h7, h8, h9, h10, h11⟩ => ⟨h1, h2, h3, h4, h5, h6, h7, h8, h9, h10, h11⟩⟩

namespace Sck.InRange

variable {st : StationState} {k : Sck}

/-- Changes of the items that no range speaks of, and of the MARK quiet count within its own. -/
theorem update (h : k.InRange st) (tick : Tick) (capture : Option Stamp) (firstStep periodEndDue markDue atBoundary : Bool)
    {markQuiet : Nat} (hq : markQuiet ≤ 32) :
    Sck.InRange st { k with tick := tick, capture := capture, firstStep := firstStep, markQuiet := markQuiet,
                            periodEndDue := periodEndDue, markDue := markDue, atBoundary := atBoundary } :=
  ⟨h.prescaler, h.terminalLow, h.terminalHigh, h.periodCount, hq, h.corrLow, h.corrHigh, h.room, h.senders, h.offsets,
    h.inMean⟩

/-- The list emptied: the ranges hold then in any station state. -/
theorem emptied (h : k.InRange st) (st' : StationState) : Sck.InRange st' { k with samples := [] } :=
  ⟨h.prescaler, h.terminalLow, h.terminalHigh, h.periodCount, h.markQuiet, h.corrLow, h.corrHigh, by simp, by simp,
    by simp, by simp⟩

/-- The ranges hold in any station state that bounds the mean no more than this one. -/
theorem moved (h : k.InRange st) {st' : StationState} (hst : st' = .onLine ∨ st' = .quiet → st = .onLine ∨ st = .quiet) :
    k.InRange st' :=
  { h with inMean := fun hs => h.inMean (hst hs) }

theorem advance (h : k.InRange st) (n : Nat) : (k.advance n).InRange st :=
  have hp : max k.prescaler (min k.terminal (k.prescaler + n)) ≤ 4159 := by
    have := h.prescaler
    have := h.terminalHigh
    omega
  { h with prescaler := hp }

theorem slew (h : k.InRange st) : k.slew.InRange st := by
  have h1 := h.corrLow
  have h2 := h.corrHigh
  unfold Sck.slew slewAmount
  dsimp only
  split
  · exact { h with terminalLow := by dsimp only; omega, terminalHigh := by dsimp only; omega,
                   corrLow := by dsimp only; omega, corrHigh := by dsimp only; omega }
  · split
    · exact { h with terminalLow := by dsimp only; omega, terminalHigh := by dsimp only; omega,
                     corrLow := by dsimp only; omega, corrHigh := by dsimp only; omega }
    · exact { h with terminalLow := by simp, terminalHigh := by simp }

/-- A period restarts with an empty list, so that the ranges hold then in any station state. -/
theorem restart (h : k.InRange st) (st' : StationState) : k.restart.InRange st' := by
  have h0 : Sck.InRange st' { k with periodCount := 0, samples := [] } :=
    { h.emptied st' with periodCount := Nat.zero_le _ }
  unfold Sck.restart
  dsimp only
  split
  · exact (h0.update k.tick k.capture k.firstStep false k.markDue k.atBoundary h.markQuiet).slew
  · exact h0

/-- The clock set to a reading: the fraction counts back to at most 4080 crystal counts. -/
theorem set (h : k.InRange st) (v : Stamp) :
    Sck.InRange st { k with tick := stampTick v, prescaler := (stampFrac v).toNat * 16, terminal := 4095 } :=
  { h with prescaler := by have := (stampFrac v).isLt; dsimp only; omega
           terminalLow := by simp
           terminalHigh := by simp }

theorem stepBy (h : k.InRange st) (size : Int) : (k.stepBy size).InRange st := h.set _

theorem zeroCorr (h : k.InRange st) : Sck.InRange st { k with corr := 0 } :=
  { h with corrLow := by simp, corrHigh := by simp }

theorem stepFirst (h : k.InRange st) (stamp : Stamp) (st' : StationState) : (k.stepFirst stamp).InRange st' :=
  (((h.set stamp).zeroCorr).update _ k.capture false k.periodEndDue k.markDue k.atBoundary h.markQuiet).restart st'

/-- While ON_LINE or QUIET the mean lies within 4 ticks, so that C, half of it, lies within 512 (R8). -/
theorem correct (h : k.InRange st) (hst : st = .onLine ∨ st = .quiet) : k.correct.InRange st := by
  unfold Sck.correct
  split
  · next m hm =>
    have hb : m.natAbs ≤ 1024 := natAbs_trimmedMean_le hm (by
      intro x hx
      obtain ⟨y, hy, rfl⟩ := List.mem_map.mp hx
      obtain ⟨hmem, hout⟩ := List.mem_filter.mp hy
      have := h.inMean hst y hmem (by simpa using hout)
      omega)
    have hd : (m.tdiv 2).natAbs ≤ 512 := by
      rw [Int.natAbs_tdiv]
      exact Nat.div_le_of_le_mul hb
    exact { h with corrLow := by dsimp only; omega, corrHigh := by dsimp only; omega }
  · exact h

theorem countTick (h : k.InRange st) (onLine : Bool) : (k.countTick onLine).InRange st :=
  { h with prescaler := Nat.zero_le _
           periodCount := by have := h.periodCount; simp only [Sck.countTick]; split <;> omega
           markQuiet := by simp only [Sck.countTick]; split <;> omega }

theorem beginTick (h : k.InRange st) : k.beginTick.InRange st := by
  unfold Sck.beginTick
  split
  · exact { h with terminalLow := by simp, terminalHigh := by simp }
  · exact h.slew

end Sck.InRange

/-- A sample entered stands in the list, with entries that stood there before. -/
theorem mem_enterSample {x y : Sample} {l : List Sample} (h : y ∈ enterSample x l) : y = x ∨ y ∈ l := by
  unfold enterSample at h
  split at h
  · obtain ⟨z, hz, rfl⟩ := List.mem_map.mp h
    split
    · exact .inl rfl
    · exact .inr hz
  · split at h
    · rcases List.mem_append.mp h with h | h
      · exact .inr h
      · exact .inl (List.mem_singleton.mp h)
    · exact .inr h

theorem length_enterSample {x : Sample} {l : List Sample} (h : l.length ≤ Config.sampleCapacity) :
    (enterSample x l).length ≤ Config.sampleCapacity := by
  unfold enterSample
  split
  · simpa using h
  · split
    · simp only [List.length_append, List.length_singleton]; omega
    · exact h

/-- A sample takes its sender's place or a new one, so that each sender has one entry (R7). -/
theorem nodup_enterSample {x : Sample} {l : List Sample} (h : (l.map (·.sender)).Nodup) :
    ((enterSample x l).map (·.sender)).Nodup := by
  unfold enterSample
  split
  · have e : (l.map (fun y => if y.sender == x.sender then x else y)).map (·.sender) = l.map (·.sender) := by
      rw [List.map_map]
      refine List.map_congr_left (fun y _ => ?_)
      by_cases hy : y.sender = x.sender <;> simp [hy]
    rw [e]; exact h
  · next hnew =>
    split
    · have hx : ∀ y ∈ l, y.sender ≠ x.sender := by simpa using hnew
      rw [List.map_append, List.nodup_append]
      refine ⟨h, by simp, ?_⟩
      simpa using hx
    · exact h

theorem Sck.InRange.sample {st : StationState} {k : Sck} (h : k.InRange st) (sender : Addr) (stamp : Stamp) :
    (k.sample st sender stamp).InRange st := by
  unfold Sck.sample
  split
  · next c _ =>
    refine { h with room := length_enterSample h.room, senders := nodup_enterSample h.senders,
                    offsets := fun x hx => ?_, inMean := fun hst x hx hout => ?_ }
    · rcases mem_enterSample hx with rfl | hx
      · dsimp only [offsetOf]; omega
      · exact h.offsets x hx
    · rcases mem_enterSample hx with rfl | hx
      · rcases hst with rfl | rfl <;> simp [outlierIn] at hout <;> exact hout.symm
      · exact h.inMean hst x hx hout
  · exact h

end Sys2Proof.Machine
end

section
/-! What the part's operations do to the Service Clock and the station state: one lemma for each operation that is not
covered by `Device.Kept`, all of one form (`Device.ClockSafe`), from which the statements about every step follow. -/

namespace Sys2Proof.Machine

/-- A station in a state in which it may hold work: ON_LINE or QUIET (R63). -/
def Device.Works (d : Device) : Prop := d.fe.station = .onLine ∨ d.fe.station = .quiet

/-- From `d` to `e` the clock's ranges are kept, and unless `idle` holds a station that works goes on working with its
tick counter untouched (section 1.1, R14). -/
structure Device.ClockSafe (idle : Prop) (d e : Device) : Prop where
  inRange : d.sck.InRange d.fe.station → e.sck.InRange e.fe.station
  held    : ¬idle → d.Works → e.Works ∧ e.sck.tick = d.sck.tick

namespace Device.ClockSafe

variable {idle : Prop} {a b c d e : Device}

theorem refl (d : Device) : d.ClockSafe idle d := ⟨id, fun _ h => ⟨h, rfl⟩⟩

theorem trans (h : a.ClockSafe idle b) (k : b.ClockSafe idle c) : a.ClockSafe idle c :=
  ⟨k.inRange ∘ h.inRange, fun hi hw =>
    have hb := h.held hi hw
    have hc := k.held hi hb.1
    ⟨hc.1, hc.2.trans hb.2⟩⟩

/-- Nothing of the clock or the station state changed. -/
theorem ofSame (hk : e.sck = d.sck) (hs : e.fe.station = d.fe.station) : d.ClockSafe idle e :=
  ⟨fun h => by rwa [hk, hs], fun _ h => ⟨by unfold Works; rwa [hs], by rw [hk]⟩⟩

theorem ofKept (h : d.Kept e) : d.ClockSafe idle e := ofSame h.sck h.station

/-- The clock changed with its tick counter left alone, the station state too. -/
theorem onSck {f : Sck → Sck} (hr : ∀ st, d.sck.InRange st → (f d.sck).InRange st) (ht : (f d.sck).tick = d.sck.tick) :
    d.ClockSafe idle (d.onSck f) :=
  ⟨hr _, fun _ h => ⟨h, ht⟩⟩

/-- What can only happen at a station that does no work needs to keep the ranges alone. -/
theorem ofRest (hw : ¬d.Works) (hr : d.sck.InRange d.fe.station → e.sck.InRange e.fe.station) : d.ClockSafe idle e :=
  ⟨hr, fun _ h => absurd h hw⟩

theorem ite {p : Prop} [Decidable p] {x y : Device} (hx : p → d.ClockSafe idle x) (hy : ¬p → d.ClockSafe idle y) :
    d.ClockSafe idle (if p then x else y) := by
  split
  · next h => exact hx h
  · next h => exact hy h

end Device.ClockSafe

open Device

/-! ### Idleness, and the small operations of the line -/

/-- Whether a station is idle rests on its waves and lanes alone (R13). -/
theorem Device.idleStation_congr {d e : Device} (hw : e.wu = d.wu) (hl : e.lu = d.lu) :
    e.idleStation = d.idleStation := by
  simp only [idleStation, allIdle, lane, hw, hl]

theorem Device.idleStation_iff (d : Device) :
    d.idleStation = true ↔ d.wu.waves = [] ∧ ∀ i : Fin 8, (d.lane i).state = .idle := by
  simp [idleStation, allIdle]

@[simp] theorem Device.lineReturn_sck (d : Device) : d.lineReturn.sck = d.sck := by unfold lineReturn; split <;> rfl
@[simp] theorem Device.lineReturn_fe (d : Device) : d.lineReturn.fe = d.fe := by unfold lineReturn; split <;> rfl
@[simp] theorem Device.lineReturn_strap (d : Device) : d.lineReturn.strap = d.strap := by unfold lineReturn; split <;> rfl
@[simp] theorem Device.lineReturn_wu (d : Device) : d.lineReturn.wu = d.wu := by unfold lineReturn; split <;> rfl
@[simp] theorem Device.lineReturn_lu (d : Device) : d.lineReturn.lu = d.lu := by unfold lineReturn; split <;> rfl
theorem Device.lineReturn_of_not_due {d : Device} (h : d.returnDue = false) : d.lineReturn = d := by
  simp [lineReturn, h]

@[simp] theorem Device.passSlots_sck (n : Nat) (d : Device) : (d.passSlots n).sck = d.sck := by
  unfold passSlots; dsimp only; (repeat' split) <;> rfl
@[simp] theorem Device.passSlots_station (n : Nat) (d : Device) : (d.passSlots n).fe.station = d.fe.station := by
  unfold passSlots; dsimp only; (repeat' split) <;> rfl
@[simp] theorem Device.passSlots_wu (n : Nat) (d : Device) : (d.passSlots n).wu = d.wu := by
  unfold passSlots; dsimp only; (repeat' split) <;> rfl
@[simp] theorem Device.passSlots_lu (n : Nat) (d : Device) : (d.passSlots n).lu = d.lu := by
  unfold passSlots; dsimp only; (repeat' split) <;> rfl

@[simp] theorem Device.hear_sck (q : Silences) (d : Device) : (d.hear q).sck = d.sck := by unfold hear; split <;> rfl
@[simp] theorem Device.hear_fe (q : Silences) (d : Device) : (d.hear q).fe = d.fe := by unfold hear; split <;> rfl

section
variable (idle : Prop)

theorem Device.lineReturn_clockSafe (d : Device) : d.ClockSafe idle d.lineReturn := .ofSame (by simp) (by simp)
theorem Device.quietLine_clockSafe (d : Device) : d.ClockSafe idle d.quietLine := .ofSame rfl rfl
theorem Device.passSlots_clockSafe (n : Nat) (d : Device) : d.ClockSafe idle (d.passSlots n) :=
  .ofSame (by simp) (by simp)
theorem Device.hear_clockSafe (q : Silences) (d : Device) : d.ClockSafe idle (d.hear q) := .ofSame (by simp) (by simp)
theorem Device.drive_clockSafe (a : LineAct) (d : Device) : d.ClockSafe idle (d.drive a) := .ofSame rfl rfl
theorem Device.onRx_clockSafe (f : Rx → Rx) (d : Device) : d.ClockSafe idle (d.onRx f) := .ofSame rfl rfl
theorem Device.closeRx_clockSafe (agree : Bool) (d : Device) : d.ClockSafe idle (d.closeRx agree) := .ofSame rfl rfl
theorem Device.onLif_clockSafe (f : Lif → Lif) (d : Device) : d.ClockSafe idle (d.onLif f) := .ofSame rfl rfl
theorem Device.changeMode_clockSafe (m : LineMode) (c : ModeCause) (d : Device) :
    d.ClockSafe idle (d.changeMode m c) := .ofSame rfl rfl
theorem Device.answer_clockSafe (st : Status) (l : List Byte) (d : Device) : d.ClockSafe idle (d.answer st l) :=
  .ofSame rfl rfl

/-- The capture taken or dropped. -/
theorem Device.capture_clockSafe (c : Option Stamp) (d : Device) :
    d.ClockSafe idle (d.onSck (fun k => { k with capture := c })) :=
  .onSck (fun _ h => h.update _ c _ _ _ _ h.markQuiet) rfl

/-! ### Error counts and QUIET (R43 to R46) -/

/-- QUIET entered: what changes at the clock (R15, R46). -/
theorem Device.enterQuiet_sck (d : Device) : d.enterQuiet.sck = { d.sck with markQuiet := 0, markDue := false } := by
  have h := (withdrawOffer_kept (d.notify (.linkQuiet d.fe.tecCount d.fe.recCount (decide (128 ≤ d.fe.tecCount))
    (decide (128 ≤ d.fe.recCount))))).sck
  rw [enterQuiet, (markPartial_kept _).sck]
  simp only [onSck_sck, onFe_sck, withdraw_sck, h, notify_sck]

@[simp] theorem Device.enterQuiet_station (d : Device) : d.enterQuiet.fe.station = .quiet := by
  rw [enterQuiet, (markPartial_kept _).station]
  rfl

theorem Device.quietIfDue_clockSafe (d : Device) : d.ClockSafe idle d.quietIfDue := by
  refine .ite (fun h => ⟨fun hr => ?_, fun _ _ => ⟨.inr (enterQuiet_station d), by rw [enterQuiet_sck]⟩⟩) (fun _ => .refl d)
  have hon : d.fe.station = .onLine := by simp_all
  rw [enterQuiet_sck, enterQuiet_station]
  exact (hr.update _ _ _ _ _ _ (Nat.zero_le 32)).moved (fun _ => .inl hon)

theorem Device.countHeard_clockSafe (bad : Bool) (d : Device) : d.ClockSafe idle (d.countHeard bad) := by
  unfold countHeard
  split
  · exact .trans (b := d.onFe _) (.ofSame rfl rfl) (quietIfDue_clockSafe idle _)
  · exact .ite (fun _ => .ofKept (markPartial_kept d)) (fun _ => .refl d)
  · exact .refl d
  · exact .refl d

/-! ### Own frames -/

theorem Device.endOwnFrame_clockSafe (fate : Fate) (byDown agree : Bool) (d : Device) :
    d.ClockSafe idle (d.endOwnFrame fate byDown agree) := by
  unfold endOwnFrame
  extract_lets d1 d2 d3
  have h2 : d.ClockSafe idle d2 :=
    .trans (b := d1) (.ofSame rfl rfl) ((capture_clockSafe idle none d1).trans (onLif_clockSafe idle _ _))
  have h3 : d2.ClockSafe idle d3 := by
    simp only [d3]
    split
    · exact .trans (.onSck (fun _ h => h.update _ _ _ _ _ _ (Nat.zero_le 32)) rfl) (.ofKept (withdraw_kept .mark _))
    · exact .refl d2
  exact (h2.trans h3).trans (quietIfDue_clockSafe idle d3)

theorem Device.reportFate_clockSafe (f : InFlight) (fate : Fate) (byDown short : Bool) (taker : Addr) (agree : Bool)
    (d : Device) : d.ClockSafe idle (d.reportFate f fate byDown short taker agree) :=
  (endOwnFrame_clockSafe idle fate byDown agree d).trans
    (.ofKept ((placerFate_kept f fate byDown short taker _).trans (takeDeferred_kept f.deferred _)))

theorem Device.fateOf_clockSafe (k : Kind) (fate : Fate) (rep : OfferReply) (short : SlotReading) (line : Followed)
    (d : Device) : d.ClockSafe idle (d.fateOf k fate rep short line) := by
  unfold fateOf
  split
  · refine .ite (fun _ => ?_) (fun _ => .refl d)
    extract_lets drives d1
    have h1 : d.ClockSafe idle d1 := .ite (fun _ => .ofSame rfl rfl) (fun _ => quietLine_clockSafe idle d)
    exact (h1.trans (hear_clockSafe idle _ d1)).trans (reportFate_clockSafe idle _ _ _ _ _ _ _)
  · exact .refl d

theorem Device.loseArbitration_clockSafe (d : Device) : d.ClockSafe idle d.loseArbitration := by
  unfold loseArbitration
  split
  · exact .refl d
  · exact .ite (fun _ => .ofSame rfl rfl) (fun _ => .ofSame rfl rfl)

theorem Device.bitError_clockSafe (inGap agree : Bool) (d : Device) : d.ClockSafe idle (d.bitError inGap agree) := by
  unfold bitError
  split
  · exact .refl d
  · refine .ite (fun _ => .ofSame rfl rfl) (fun _ => ?_)
    extract_lets d1
    have h1 : d.ClockSafe idle d1 := .ite (fun _ => .ofSame rfl rfl) (fun _ => quietLine_clockSafe idle d)
    exact h1.trans (reportFate_clockSafe idle _ _ _ _ _ _ d1)

theorem Device.ownBitError_clockSafe (inGap : Bool) (line : Followed) (d : Device) :
    d.ClockSafe idle (d.ownBitError inGap line) :=
  .ite (fun _ => (hear_clockSafe idle _ d).trans (bitError_clockSafe idle _ _ _)) (fun _ => .refl d)

/-! ### Line failures -/

theorem Device.dropQualified_clockSafe (d : Device) : d.ClockSafe idle d.dropQualified := by
  unfold dropQualified
  split
  · exact .ite (fun _ => (onRx_clockSafe idle _ d).trans
      (.ofKept ((formWaiting_kept _).trans (evaluateSince_kept d _)))) (fun _ => .refl d)
  · exact .refl d

theorem Device.failover_clockSafe (inGap : Bool) (d : Device) : d.ClockSafe idle (d.failover inGap) := by
  unfold failover
  split
  · exact bitError_clockSafe idle _ _ d
  · exact ((quietLine_clockSafe idle d).trans (dropQualified_clockSafe idle _)).trans (onRx_clockSafe idle _ _)

theorem Device.wireFails_clockSafe (w : Wire) (x : Failure) (d : Device) : d.ClockSafe idle (d.wireFails w x) :=
  .ite (fun _ => ((changeMode_clockSafe idle _ _ d).trans (onLif_clockSafe idle _ _)).trans
    (failover_clockSafe idle _ _)) (fun _ => .refl d)

theorem Device.dropLine_clockSafe (d : Device) : d.ClockSafe idle d.dropLine := by
  unfold dropLine
  extract_lets d1
  have h1 : d.ClockSafe idle d1 := by
    simp only [d1]
    split
    · exact reportFate_clockSafe idle _ _ _ _ _ _ d
    · exact .refl d
  refine h1.trans ?_
  split
  · exact .refl d1
  · refine .trans (.trans (b := d1.onFe (fun f => { f with rx := none })) (.ofSame rfl rfl)
      (capture_clockSafe idle none _)) ?_
    split
    · exact .refl _
    · exact .ofKept ((formWaiting_kept _).trans (evaluateSince_kept _ _))
    · exact .ofKept (releaseTaker_kept _ _)

theorem Device.lineDown_clockSafe (cause : DownCause) (other : Fin 2) (d : Device) :
    d.ClockSafe idle (d.lineDown cause other) := by
  unfold lineDown
  extract_lets found good d1 d2 d3
  refine .ite (fun _ => ?_) (fun _ => .refl d)
  have h2 : d.ClockSafe idle d2 := by
    simp only [d2]
    split <;> exact (changeMode_clockSafe idle _ _ d).trans (onLif_clockSafe idle _ _)
  have h3 : d2.ClockSafe idle d3 := .trans (b := d2.quietLine.onFe _) (.ofSame rfl rfl) (dropLine_clockSafe idle _)
  exact (h2.trans h3).trans (.ite (fun _ => .ofKept (markPartial_kept d3)) (fun _ => .refl d3))

theorem Device.frameSeen_clockSafe (x : Seen) (d : Device) : d.ClockSafe idle (d.frameSeen x) :=
  .ite (fun _ => .ofSame rfl rfl) (fun _ => .refl d)

end

/-! ### The events of a boundary -/

section
variable {idle : Prop}

theorem Sck.slew_keeps (k : Sck) : k.slew = { k with terminal := k.slew.terminal, corr := k.slew.corr } := by
  unfold Sck.slew
  dsimp only
  (repeat' split) <;> rfl

@[simp] theorem Sck.slew_tick (k : Sck) : k.slew.tick = k.tick := by rw [Sck.slew_keeps]
@[simp] theorem Sck.slew_atBoundary (k : Sck) : k.slew.atBoundary = k.atBoundary := by rw [Sck.slew_keeps]
@[simp] theorem Sck.slew_periodEndDue (k : Sck) : k.slew.periodEndDue = k.periodEndDue := by rw [Sck.slew_keeps]

@[simp] theorem Sck.correct_tick (k : Sck) : k.correct.tick = k.tick := by unfold Sck.correct; split <;> rfl
@[simp] theorem Sck.correct_atBoundary (k : Sck) : k.correct.atBoundary = k.atBoundary := by
  unfold Sck.correct; split <;> rfl

@[simp] theorem Sck.restart_tick (k : Sck) : k.restart.tick = k.tick := by
  unfold Sck.restart; dsimp only; split <;> simp
@[simp] theorem Sck.restart_atBoundary (k : Sck) : k.restart.atBoundary = k.atBoundary := by
  unfold Sck.restart; dsimp only; split <;> simp
@[simp] theorem Sck.restart_periodEndDue (k : Sck) : k.restart.periodEndDue = false := by
  unfold Sck.restart
  dsimp only
  split
  · simp
  · next h => simpa using h

/-- What a period end does by the station state: a station that works steps its clock only when it is idle (R8, R13). -/
theorem Device.periodAction_clockSafe {d : Device} (h : d.idleStation = true → idle) :
    d.ClockSafe idle d.periodAction := by
  unfold periodAction
  split
  · exact .refl d
  · next hst =>
    refine .ofRest (by simp [Works, hst]) (fun hr => ?_)
    unfold meanStep
    (repeat' split) <;> first | exact hr | exact hr.stepBy _
  · next hst =>
    have hc : d.ClockSafe idle (d.onSck Sck.correct) :=
      ⟨fun hr => hr.correct (.inl hst), fun _ hw => ⟨hw, Sck.correct_tick _⟩⟩
    unfold forwardOrCorrect
    split
    · refine .ite (fun hf => ?_) (fun _ => hc)
      have hi : idle := h (by simp_all)
      exact ⟨fun hr => (hr.stepBy _).zeroCorr, fun hn => absurd hi hn⟩
    · exact hc
  · next hst => exact ⟨fun hr => hr.correct (.inr hst), fun _ hw => ⟨hw, Sck.correct_tick _⟩⟩

theorem Device.periodEnd_clockSafe {d : Device} (h : d.idleStation = true → idle) : d.ClockSafe idle d.periodEnd := by
  refine .ite (fun _ => (periodAction_clockSafe h).trans (.trans (.onSck (fun st hr => ?_) ?_)
    (.ofKept (onLu_kept _ _)))) (fun _ => .refl d)
  · exact ((hr.emptied st).update _ _ _ false _ _ hr.markQuiet).slew
  · simp

theorem Device.listenEnd_clockSafe (d : Device) : d.ClockSafe idle d.listenEnd := by
  refine .ite (fun h => .ofRest ?_ (fun hr => ?_)) (fun _ => .refl d)
  · have : d.fe.station = .listen := by simp_all
    simp [Works, this]
  · exact (hr.update _ _ false _ _ _ (Nat.zero_le 32)).restart _

theorem Device.quietEnd_clockSafe (d : Device) : d.ClockSafe idle d.quietEnd := by
  refine .ite (fun h => ⟨fun hr => ?_, fun _ _ => ⟨.inl rfl, rfl⟩⟩) (fun _ => .refl d)
  have hq : d.fe.station = .quiet := by simp_all
  exact (hr.update _ _ _ _ _ _ (Nat.zero_le 32)).moved (fun _ => .inr hq)

theorem Device.markPlace_clockSafe (d : Device) : d.ClockSafe idle d.markPlace := by
  have h1 : d.ClockSafe idle (d.onSck (fun k => { k with markDue := false })) :=
    .onSck (fun _ hr => hr.update _ _ _ _ false _ hr.markQuiet) rfl
  exact .ite (fun _ => h1.trans (.ofKept (place_kept .mark _))) (fun _ => h1)

/-- The waves, batches and lanes at a boundary, between the clock's events and the placing of a MARK. -/
theorem Device.workBoundary_kept (d : Device) :
    let d2 : Device := (List.finRange 8).foldl Device.laneBoundary d
    let d3 : Device := (d2.bp.batches.map (·.bid)).foldl (fun x b => x.holdExpiry b) d2
    d.Kept ((d3.wu.waves.map (·.ref)).foldl Device.waveBoundary d3) := by
  intro d2 d3
  have h2 : d.Kept d2 := (kept_foldl _ (fun x i => laneBoundary_kept i x) _ _ _).mpr (.refl d)
  have h3 : d.Kept d3 := (kept_foldl _ (fun x b => holdExpiry_kept b x) _ _ _).mpr h2
  exact (kept_foldl _ (fun x r => waveBoundary_kept r x) _ _ _).mpr h3

/-- The events of a boundary are those of the clock, then work that keeps the clock, then the placing of a MARK. -/
theorem Device.boundaryEvents_eq (d : Device) :
    ∃ e : Device, (d.periodEnd.listenEnd.quietEnd).Kept e ∧ d.boundaryEvents = e.markPlace :=
  ⟨_, workBoundary_kept _, rfl⟩

theorem Device.boundaryEvents_clockSafe {d : Device} (h : d.idleStation = true → idle) :
    d.ClockSafe idle d.boundaryEvents := by
  obtain ⟨e, he, hd⟩ := boundaryEvents_eq d
  rw [hd]
  exact ((((periodEnd_clockSafe h).trans (listenEnd_clockSafe _)).trans (quietEnd_clockSafe _)).trans (.ofKept he)).trans
    (markPlace_clockSafe e)

theorem Device.leaveBoundary_clockSafe (d : Device) :
    d.ClockSafe idle (d.onSck (fun k => { k with atBoundary := false })) :=
  .onSck (fun _ hr => hr.update _ _ _ _ _ false hr.markQuiet) rfl

/-- What is still to be taken at this instant can step the clock of a working station only where `idle` holds (R13). -/
def Device.StepsWhere (idle : Prop) (d : Device) : Prop := d.sck.atBoundary = true → d.idleStation = true → idle

theorem Device.StepsWhere.ofSame {d e : Device} (h : d.StepsWhere idle) (hk : e.sck = d.sck) (hw : e.wu = d.wu)
    (hl : e.lu = d.lu) : e.StepsWhere idle := by
  unfold StepsWhere
  rw [hk, idleStation_congr hw hl]
  exact h

theorem Device.stepsWhere_of_settled {d : Device} (h : d.sck.atBoundary = false) : d.StepsWhere idle :=
  fun hb => absurd hb (by simp [h])

theorem Device.settleBoundary_clockSafe {d : Device} (h : d.StepsWhere idle) :
    d.ClockSafe idle d.settleBoundary := by
  unfold settleBoundary
  extract_lets d1
  have h1 : d1.StepsWhere idle := h.ofSame (lineReturn_sck d) (lineReturn_wu d) (lineReturn_lu d)
  refine (lineReturn_clockSafe idle d).trans (.ite (fun hb => ?_) (fun _ => .refl d1))
  exact (boundaryEvents_clockSafe (h1 hb)).trans (leaveBoundary_clockSafe _)

/-- What is settled leaves no boundary behind. -/
@[simp] theorem Device.settleBoundary_atBoundary (d : Device) : d.settleBoundary.sck.atBoundary = false := by
  unfold settleBoundary
  extract_lets d1
  split
  · rfl
  · next h => simpa using h

/-! ### The passing of crystal counts -/

@[simp] theorem Sck.advance_tick (n : Nat) (k : Sck) : (k.advance n).tick = k.tick := rfl

theorem Device.pass_clockSafe {d : Device} (n : Nat) (h : d.StepsWhere idle) :
    d.ClockSafe idle (d.pass n) :=
  .ite (fun _ => .refl d) (fun _ => (settleBoundary_clockSafe h).trans (.onSck (fun _ hr => hr.advance n) rfl))

theorem Device.letPass_clockSafe (n : Nat) (d : Device) : d.ClockSafe idle (d.letPass n) := by
  unfold letPass
  extract_lets k
  refine (passSlots_clockSafe idle _ d).trans (.onSck (fun st hr => ?_) ?_)
  · rw [passSlots_sck] at hr; exact hr.advance n
  · simp [k]

theorem Device.passIdle_clockSafe {d : Device} (n : Nat) (h : d.StepsWhere idle) :
    d.ClockSafe idle (d.passIdle n) :=
  .ite (fun _ => .refl d) (fun _ => (settleBoundary_clockSafe h).trans (letPass_clockSafe n _))

/-! ### Start slots -/

theorem Device.pass_stepsWhere {d : Device} (n : Nat) (h : d.StepsWhere idle) : (d.pass n).StepsWhere idle := by
  rcases pass_cases n d with ⟨_, hp⟩ | ⟨_, hp⟩
  · rwa [hp]
  · rw [hp]; exact stepsWhere_of_settled (settleBoundary_atBoundary d)

/-- The line as it stands when the slot times before a start slot have passed. -/
theorem Device.slotsPassed_stepsWhere {d : Device} (n : Nat) (h : d.StepsWhere idle) :
    (d.lineReturn.quietLine.passSlots n).StepsWhere idle :=
  h.ofSame (by simp [quietLine]) (by simp [quietLine]) (by simp [quietLine])

theorem Device.untilStart_clockSafe {d : Device} (w : Wait) (h : d.StepsWhere idle) : d.ClockSafe idle (d.untilStart w) :=
  (((lineReturn_clockSafe idle d).trans (quietLine_clockSafe idle _)).trans (passSlots_clockSafe idle _ _)).trans
    (pass_clockSafe w.elapsed (slotsPassed_stepsWhere w.slots h))

theorem Device.untilStart_stepsWhere {d : Device} (w : Wait) (h : d.StepsWhere idle) : (d.untilStart w).StepsWhere idle :=
  pass_stepsWhere w.elapsed (slotsPassed_stepsWhere w.slots h)

end

end Sys2Proof.Machine
end

section
/-! The clock through frames, ticks and the station port, and the statements about every step (O50, O57). -/

namespace Sys2Proof.Machine

open Device

section
variable {idle : Prop}

/-! ### Frames begun and heard -/

theorem Device.dropAsked_kept (es : List TxEntry) (d : Device) : d.Kept (d.dropAsked es) :=
  (kept_foldl _ (fun x e => by cases e <;> simp) es d d).mpr (.refl d)

theorem Device.beginFrame_clockSafe (stamp : Stamp) (e : TxEntry) (b : Body) (d : Device) :
    d.ClockSafe idle (d.beginFrame stamp e b) :=
  .trans (b := (d.withdraw e).onFe (fun x =>
      { x with inFlight := some { entry := e, frame := ⟨d.strap.addr, d.strap.cls, stamp, b⟩, gapError := false,
                                  rejectReq := false, deferred := none } }))
    (.ofSame rfl rfl) ((capture_clockSafe idle (some stamp) _).trans (.ofSame rfl rfl))

theorem Device.contend_clockSafe {d : Device} (start : OwnStart)
    (h : d.StepsWhere idle) : d.ClockSafe idle (d.contend start) := by
  unfold contend
  extract_lets d1 stamp r d2 d3
  refine .ite (fun _ => .refl d) (fun _ => ?_)
  have h3 : d2.ClockSafe idle d3 := by
    simp only [d3]
    split
    · exact (beginFrame_clockSafe _ _ _ d2).trans (hear_clockSafe idle _ _)
    · exact .refl d2
  have hd3 : d.ClockSafe idle d3 := ((untilStart_clockSafe _ h).trans (.ofKept (dropAsked_kept r.2 d1))).trans h3
  exact .ite (fun _ => hd3.trans (.ofKept (offerEval_kept d3))) (fun _ => hd3)

theorem Device.rxStart_clockSafe {d : Device} (w : Wait) (h : d.StepsWhere idle) :
    d.ClockSafe idle (d.rxStart w) := by
  refine .ite (fun _ => ?_) (fun _ => .refl d)
  refine .ite (fun _ => (untilStart_clockSafe w h).trans (.ofSame rfl rfl)) (fun _ => ?_)
  exact (untilStart_clockSafe w h).trans
    (.trans (.onSck (fun _ hr => hr.update _ _ _ _ _ _ hr.markQuiet) rfl) (.ofSame rfl rfl))

theorem Device.rxStart_stepsWhere {d : Device} (w : Wait) (h : d.StepsWhere idle) : (d.rxStart w).StepsWhere idle := by
  have hu := untilStart_stepsWhere w h
  unfold rxStart
  dsimp only
  split
  · split
    · exact hu.ofSame rfl rfl rfl
    · exact hu
  · exact h

theorem Device.rxBody_clockSafe (k : Kind) (raw : RawFrame) (d : Device) : d.ClockSafe idle (d.rxBody k raw) := by
  unfold rxBody
  split <;> exact onRx_clockSafe idle _ d

theorem Device.driveShort_clockSafe (r : Rx) (d : Device) : d.ClockSafe idle (d.driveShort r) := by
  unfold driveShort
  split
  · exact .ite (fun _ => drive_clockSafe idle _ d) (fun _ => .refl d)
  · exact .refl d

theorem Device.takerSlots_clockSafe (rep : OfferReply) (dish : Byte) (d : Device) :
    d.ClockSafe idle (d.takerSlots rep dish) := by
  unfold takerSlots
  split
  · exact .refl d
  · refine .ite (fun _ => .refl d) (fun _ => .ite (fun _ => dropQualified_clockSafe idle d) (fun _ => ?_))
    refine .ite (fun _ => ?_) (fun _ => (drive_clockSafe idle _ d).trans (dropQualified_clockSafe idle _))
    dsimp only
    split <;> exact .ofSame rfl rfl

theorem Device.rxReply_clockSafe (k : Kind) (raw : RawFrame) (gapFault : Bool) (rep : OfferReply) (d : Device) :
    d.ClockSafe idle (d.rxReply k raw gapFault rep) := by
  unfold rxReply
  extract_lets d1
  refine .trans (b := d1) (.ofSame rfl rfl) ?_
  split
  · exact driveShort_clockSafe _ d1
  · exact .trans (.ite (fun _ => dropQualified_clockSafe idle d1) (fun _ => takerSlots_clockSafe rep _ d1))
      (onRx_clockSafe idle _ _)
  · exact dropQualified_clockSafe idle d1

/-- An accepted frame at the clock: a first step only in LISTEN, else a sample (R6, R11). -/
theorem Device.takeTime_clockSafe (raw : RawFrame) (d : Device) : d.ClockSafe idle (d.takeTime raw) := by
  refine .ite (fun h => .ofRest ?_ (fun hr => ?_)) (fun _ => ?_)
  · have hl : d.fe.station = .listen := by simp_all
    simp [Works, hl]
  · have hf := hr.stepFirst raw.stamp d.fe.station
    dsimp only
    split <;> exact hf
  · refine ⟨fun hr => hr.sample raw.sender raw.stamp, fun _ hw => ⟨hw, ?_⟩⟩
    simp only [onSck_sck, Sck.sample]
    split <;> rfl

theorem Device.rxAccept_clockSafe (k : Kind) (raw : RawFrame) (lateFault : Bool) (acc : SlotReading) (agree : Bool)
    (d : Device) : d.ClockSafe idle (d.rxAccept k raw lateFault acc agree) := by
  unfold rxAccept
  split
  · exact .refl d
  · extract_lets found bad d1 d2 taken d3
    have h1 : d.ClockSafe idle d1 := .ite (fun _ => drive_clockSafe idle _ d) (fun _ => .refl d)
    have h2 : d1.ClockSafe idle d2 := (closeRx_clockSafe idle _ d1).trans (countHeard_clockSafe idle _ _)
    have h3 : d2.ClockSafe idle d3 :=
      .trans (.ite (fun _ => takeTime_clockSafe raw d2) (fun _ => .refl d2)) (capture_clockSafe idle none _)
    refine ((h1.trans h2).trans h3).trans ?_
    split
    · refine .ite (fun _ => .ofKept (deliver_kept _ _ _ d3)) (fun _ => ?_)
      split
      · exact .ofKept (releaseTaker_kept _ d3)
      · exact .refl d3
    · exact .refl d3

/-- A frame broken by a coding violation ends at the station that followed it (R25). -/
theorem Device.codingViolation_clockSafe {d : Device} (w : Wait) (line : Followed)
    (h : d.StepsWhere idle) : d.ClockSafe idle (d.codingViolation w line) := by
  unfold codingViolation
  extract_lets d0
  have h0 : d.ClockSafe idle d0 := rxStart_clockSafe w h
  split
  · exact .ite (fun _ => h0.trans (hear_clockSafe idle _ d0)) (fun _ => .refl d)
  · refine .ite (fun _ => .refl d) (fun _ => ?_)
    extract_lets d1 d2
    have h1 : d0.ClockSafe idle d1 := .ite (fun _ => drive_clockSafe idle _ d0) (fun _ => .refl d0)
    have h2 : d1.ClockSafe idle d2 := (((hear_clockSafe idle _ d1).trans (closeRx_clockSafe idle _ _)).trans
      (countHeard_clockSafe idle true _)).trans (capture_clockSafe idle none _)
    refine ((h0.trans h1).trans h2).trans (.ite (fun _ => .ofKept ?_) (fun _ => .refl d2))
    exact (formWaiting_kept d2).trans (evaluateSince_kept _ _)

theorem Device.receive_clockSafe {d : Device} (k : Kind) (x : Heard) (rep : OfferReply) (h : d.StepsWhere idle) :
    d.ClockSafe idle (d.receive k x rep) := by
  unfold receive
  extract_lets d0 d1
  have h0 : d.ClockSafe idle d0 := rxStart_clockSafe _ h
  have hs : d0.StepsWhere idle := rxStart_stepsWhere _ h
  have hp : d.ClockSafe idle (d0.pass x.lasted) := h0.trans (pass_clockSafe _ hs)
  split
  · exact .ite (fun _ => hp.trans (hear_clockSafe idle _ _)) (fun _ => .refl d)
  · refine .ite (fun _ => hp.trans (codingViolation_clockSafe _ _ (pass_stepsWhere _ hs))) (fun _ => ?_)
    refine .ite (fun _ => .refl d) (fun _ => ?_)
    extract_lets d2 d3
    have h1 : d.ClockSafe idle d1 := (hp.trans (hear_clockSafe idle _ _)).trans (onRx_clockSafe idle _ _)
    have h2 : d1.ClockSafe idle d2 := .ite (fun _ => rxBody_clockSafe _ _ d1) (fun _ => .refl d1)
    have h3 : d2.ClockSafe idle d3 := .ite (fun _ => rxReply_clockSafe _ _ _ _ d2) (fun _ => .refl d2)
    exact ((h1.trans h2).trans h3).trans (.ite (fun _ => rxAccept_clockSafe _ _ _ _ _ d3) (fun _ => .refl d3))

/-! ### Named records, batches and lanes -/

theorem Device.onNamed_clockSafe (pass : Addr) (num : Byte) (f : Nat → Device → Device)
    (h : ∀ r (d : Device), d.Kept (f r d)) (d : Device) : d.ClockSafe idle (d.onNamed pass num f) := by
  unfold onNamed
  split
  · exact .ofKept (h _ d)
  · exact .refl d

theorem Device.slipCutoff_kept (r : Nat) (d : Device) : d.Kept (d.slipCutoff r) := by
  unfold slipCutoff
  split
  · exact kept_ite _ d _ _ (evaluate_kept d) (.refl d)
  · exact .refl d

theorem Device.holdExpired_kept (seq : Seq) (d : Device) : d.Kept (d.holdExpired seq) := by
  unfold holdExpired
  split
  · exact holdExpiry_kept _ d
  · exact .refl d

theorem Device.buttonPress_kept (i : Fin 8) (inAccept : Bool) (d : Device) : d.Kept (d.buttonPress i inAccept) :=
  kept_ite _ d _ _ ((kept_inFlight _ d d).mpr (.refl d)) (press_kept i d)

/-! ### The station port -/

theorem Device.appendIssue_kept (e : IssueEntry) (d : Device) : d.Kept (d.appendIssue e) := by
  unfold appendIssue
  simp

theorem Device.recallTicket_kept (s : Serial) (d : Device) : d.Kept (d.recallTicket s) := by
  unfold recallTicket
  dsimp only
  split <;> simp

@[simp] theorem Device.applyLock_sck (c : ModeCause) (d : Device) : (d.applyLock c).sck = d.sck := by
  unfold applyLock; extract_lets m d1; simp only [onLif_sck, d1]; split <;> rfl

@[simp] theorem Device.applyLock_fe (c : ModeCause) (d : Device) : (d.applyLock c).fe = d.fe := by
  unfold applyLock; extract_lets m d1; simp only [onLif_fe, d1]; split <;> rfl

/-- What a row leaves when it answers after work that keeps the clock. -/
theorem Device.ClockSafe.answered {d e : Device} (h : d.Kept e) (st : Status) (l : List Byte) :
    d.ClockSafe idle (e.answer st l) := (ClockSafe.ofKept h).trans (answer_clockSafe idle st l e)

theorem Device.configure_clockSafe (p : List Byte) (d : Device) : d.ClockSafe idle (d.configure p) := by
  unfold configure
  (repeat' split) <;> exact .ofSame (by simp [resetUnconfigured]) (by simp [resetUnconfigured])

theorem Device.loadDish_clockSafe (p : List Byte) (d : Device) : d.ClockSafe idle (d.loadDish p) := by
  unfold loadDish
  (repeat' split) <;> exact .ofSame rfl rfl

theorem Device.clearMenu_clockSafe (p : List Byte) (d : Device) : d.ClockSafe idle (d.clearMenu p) := by
  unfold clearMenu
  (repeat' split) <;> exact .ofSame rfl rfl

/-- JOIN is taken in STANDBY alone, where no work is held (R64, R65). -/
theorem Device.join_clockSafe (p : List Byte) (d : Device) : d.ClockSafe idle (d.join p) := by
  refine .ite (fun _ => answer_clockSafe idle _ _ d) (fun hst => ?_)
  have hs : d.fe.station = .standby := by simpa using hst
  refine .ite (fun _ => answer_clockSafe idle _ _ d) (fun _ => .ite (fun _ => answer_clockSafe idle _ _ d) (fun _ => ?_))
  refine .ofRest (by simp [Works, hs]) (fun hr => ?_)
  simp only [answer_sck, enterListen, onLif_sck, applyLock_sck, onSck_sck, onFe_sck]
  exact (hr.update _ _ true _ _ _ hr.markQuiet).restart _

theorem Device.silence_clockSafe (p : List Byte) (d : Device) : d.ClockSafe idle (d.silence p) := by
  unfold silence
  split <;> exact .ofSame rfl rfl

theorem Device.ringBell_clockSafe (p : List Byte) (d : Device) : d.ClockSafe idle (d.ringBell p) := by
  unfold ringBell
  split <;> exact .ofSame rfl rfl

theorem Device.openWave_clockSafe (p : List Byte) (d : Device) : d.ClockSafe idle (d.openWave p) := by
  unfold openWave
  dsimp only
  (repeat' split) <;> exact .ofSame rfl rfl

theorem Device.issueTicket_clockSafe (p : List Byte) (d : Device) : d.ClockSafe idle (d.issueTicket p) := by
  have hr := fun st => answer_clockSafe idle st [] d
  unfold issueTicket
  extract_lets num serial
  refine .ite (fun _ => hr _) fun _ => .ite (fun _ => hr _) fun _ => .ite (fun _ => hr _) fun _ =>
    .ite (fun _ => hr _) fun _ => .ite (fun _ => hr _) fun _ => .ite (fun _ => hr _) fun _ => ?_
  exact .answered (.trans (onTi_kept _ d) (appendIssue_kept _ _)) _ _

theorem Device.voidTicket_clockSafe (p : List Byte) (d : Device) : d.ClockSafe idle (d.voidTicket p) := by
  have hr := fun st => answer_clockSafe idle st [] d
  unfold voidTicket
  extract_lets num serial
  refine .ite (fun _ => hr _) fun _ => .ite (fun _ => hr _) fun _ => ?_
  split
  · exact hr _
  · refine .ite (fun _ => hr _) fun _ => ?_
    split
    · exact hr _
    · refine .ite (fun _ => hr _) fun _ => .ite (fun _ => .answered (recallTicket_kept _ d) _ _) fun _ =>
        .ite (fun _ => hr _) fun _ => ?_
      exact .answered (.trans (onIssue_kept _ _ d) (appendIssue_kept _ _)) _ _

theorem Device.sendPickup_clockSafe (p : List Byte) (d : Device) : d.ClockSafe idle (d.sendPickup p) := by
  have hr := fun st => answer_clockSafe idle st [] d
  unfold sendPickup
  extract_lets num
  refine .ite (fun _ => hr _) fun _ => .ite (fun _ => hr _) fun _ => ?_
  split
  · exact hr _
  · refine .ite (fun _ => hr _) fun _ => .ite (fun _ => hr _) fun _ => ?_
    exact .answered (.trans (onWave_kept _ _ d) (appendIssue_kept _ _)) _ _

theorem Device.readStation_clockSafe {d : Device} (n : Nat) (p : List Byte) (h : d.StepsWhere idle) :
    d.ClockSafe idle (d.readStation n p) := by
  have hp := passIdle_clockSafe n h
  exact .ite (fun _ => hp.trans (answer_clockSafe idle _ _ _)) (fun _ => hp.trans (answer_clockSafe idle _ _ _))

theorem Device.answerPlace_clockSafe {α : Type} (l : List α) (i : Nat) (f : Nat → α → List Byte) (d : Device) :
    d.ClockSafe idle (d.answerPlace l i f) := by
  unfold answerPlace
  split <;> exact .ofSame rfl rfl

theorem Device.readWave_clockSafe (p : List Byte) (d : Device) : d.ClockSafe idle (d.readWave p) := by
  unfold readWave
  dsimp only
  (repeat' split) <;> first | exact answer_clockSafe idle _ _ d | exact answerPlace_clockSafe _ _ _ d

theorem Device.readTicket_clockSafe (p : List Byte) (d : Device) : d.ClockSafe idle (d.readTicket p) := by
  unfold readTicket
  dsimp only
  (repeat' split) <;> first | exact answer_clockSafe idle _ _ d | exact answerPlace_clockSafe _ _ _ d

theorem Device.readBatch_clockSafe (p : List Byte) (d : Device) : d.ClockSafe idle (d.readBatch p) := by
  unfold readBatch
  dsimp only
  (repeat' split) <;> first | exact answer_clockSafe idle _ _ d | exact answerPlace_clockSafe _ _ _ d

theorem Device.readLane_clockSafe (p : List Byte) (d : Device) : d.ClockSafe idle (d.readLane p) := by
  unfold readLane
  (repeat' split) <;> exact answer_clockSafe idle _ _ d

theorem Device.readNotice_clockSafe (p : List Byte) (d : Device) : d.ClockSafe idle (d.readNotice p) := by
  unfold readNotice
  (repeat' split) <;> exact .ofSame rfl rfl

end

/-! ### Ticks -/

/-- A boundary at the clock: the counts, then the length of the tick that begins; the dispatch pass and the evaluation leave
both alone (R1, R2). -/
theorem Device.newTick_sck (d : Device) :
    ∃ due, d.newTick.sck = { (d.sck.countTick (d.fe.station == .onLine)).beginTick with markDue := due } := by
  unfold newTick
  extract_lets d1 d2 d3
  have h3 : d2.Kept d3 := (dispatch_kept d2).trans (evaluate_kept _)
  have h2 : d2.sck = (d.sck.countTick (d.fe.station == .onLine)).beginTick := rfl
  exact ⟨d3.markFalls, by rw [onSck_sck, h3.sck, h2]⟩

@[simp] theorem Sck.beginTick_tick (k : Sck) : k.beginTick.tick = k.tick := by unfold Sck.beginTick; split <;> simp

@[simp] theorem Device.newTick_tick (d : Device) : d.newTick.sck.tick = d.sck.tick + 1 := by
  obtain ⟨due, h⟩ := newTick_sck d
  simp [h, Sck.countTick]

@[simp] theorem Fe.countTick_station (f : Fe) : f.countTick.station = f.station := by
  unfold Fe.countTick; split <;> rfl

@[simp] theorem Device.newTick_station (d : Device) : d.newTick.fe.station = d.fe.station := by
  unfold newTick
  extract_lets d1 d2 d3
  have h3 : d2.Kept d3 := (dispatch_kept d2).trans (evaluate_kept _)
  have h2 : d2.fe = d.fe.countTick := rfl
  rw [onSck_fe, h3.station, h2, Fe.countTick_station]

theorem Device.newTick_inRange {d : Device} (h : d.sck.InRange d.fe.station) :
    d.newTick.sck.InRange d.newTick.fe.station := by
  obtain ⟨due, hk⟩ := newTick_sck d
  rw [hk, newTick_station]
  have hb := (h.countTick (d.fe.station == .onLine)).beginTick
  exact hb.update _ _ _ _ due _ hb.markQuiet

theorem Device.endTick_inRange {d : Device} (h : d.sck.InRange d.fe.station) :
    d.endTick.sck.InRange d.endTick.fe.station := by
  unfold endTick
  exact newTick_inRange ((passSlots_clockSafe True _ d).inRange h)

@[simp] theorem Device.endTick_tick (d : Device) : d.endTick.sck.tick = d.sck.tick + 1 := by simp [endTick]

/-! ### Every command -/

theorem Device.leave_inRange {d : Device} (p : List Byte) (h : d.sck.InRange d.fe.station) :
    (d.leave p).sck.InRange (d.leave p).fe.station := by
  unfold leave
  (repeat' split) <;> try exact h
  exact (h.emptied .standby).update _ _ _ _ _ _ (Nat.zero_le 32)

@[simp] theorem Device.leave_tick (p : List Byte) (d : Device) : (d.leave p).sck.tick = d.sck.tick := by
  unfold leave
  (repeat' split) <;> rfl

/-- A crystal count passes within the tick, or the boundary comes (R1). -/
theorem Device.crystalCount_cases (d : Device) :
    (d.settleBoundary.sck.prescaler < d.settleBoundary.sck.terminal ∧ d.crystalCount = d.settleBoundary.letPass 1) ∨
      (d.settleBoundary.sck.terminal ≤ d.settleBoundary.sck.prescaler ∧ d.crystalCount = d.tickBoundary) := by
  unfold crystalCount
  dsimp only
  split
  · next h => exact .inl ⟨h, rfl⟩
  · next h => exact .inr ⟨Nat.le_of_not_lt h, rfl⟩

/-- What a station settles at one instant: its own steps of the clock stand under the condition that it is idle. -/
theorem Device.settleBoundary_clockSafe_idle (d : Device) : d.ClockSafe (d.idleStation = true) d.settleBoundary :=
  settleBoundary_clockSafe (fun _ h => h)

theorem Device.tickBoundary_inRange {d : Device} (h : d.sck.InRange d.fe.station) :
    d.tickBoundary.sck.InRange d.tickBoundary.fe.station := by
  unfold tickBoundary
  exact endTick_inRange (d.settleBoundary_clockSafe_idle.inRange h)

theorem Device.crystalCount_inRange {d : Device} (h : d.sck.InRange d.fe.station) :
    d.crystalCount.sck.InRange d.crystalCount.fe.station := by
  rcases d.crystalCount_cases with ⟨_, e⟩ | ⟨_, e⟩ <;> rw [e]
  · exact (letPass_clockSafe (idle := True) 1 _).inRange (d.settleBoundary_clockSafe_idle.inRange h)
  · exact tickBoundary_inRange h

section
variable {d : Device} (hi : ¬d.idleStation = true) (hw : d.Works)
include hi hw

/-- At a station that works and is not idle a boundary advances the tick counter by one (R14). -/
theorem Device.tickBoundary_tick : d.tickBoundary.sck.tick = d.sck.tick + 1 := by
  rw [tickBoundary, endTick_tick, (d.settleBoundary_clockSafe_idle.held hi hw).2]

theorem Device.crystalCount_tick : d.crystalCount.sck.tick = d.sck.tick ∨ d.crystalCount.sck.tick = d.sck.tick + 1 := by
  rcases d.crystalCount_cases with ⟨_, e⟩ | ⟨_, e⟩ <;> rw [e]
  · exact .inl ((d.settleBoundary_clockSafe_idle.trans (letPass_clockSafe 1 _)).held hi hw).2
  · exact .inr (tickBoundary_tick hi hw)

end

end Sys2Proof.Machine

namespace Sys2Proof

open Machine Machine.Device

/-- Every command but a RESET, a tick boundary and a LEAVE keeps the clock's ranges, and a working station that is not idle
keeps working with its tick counter untouched. -/
theorem Instr.effect_clockSafe (c : Instr) (d : Device) (hr : ∀ a k, c ≠ .reset a k) (ht : c ≠ .tickBoundary)
    (hl : ∀ p, c ≠ .leave p) : d.ClockSafe (d.idleStation = true) (c.effect d) := by
  have hs : d.StepsWhere (d.idleStation = true) := fun _ h => h
  cases c with
  | reset a k => exact absurd rfl (hr a k)
  | tickBoundary => exact absurd rfl ht
  | leave p => exact absurd rfl (hl p)
  | periodEnd => exact periodEnd_clockSafe id
  | markPlace => exact markPlace_clockSafe d
  | contend start => exact contend_clockSafe start hs
  | arbitrationLost => exact loseArbitration_clockSafe _ d
  | ownBitError inGap line => exact ownBitError_clockSafe _ inGap line d
  | frameCodingViolation wait line => exact codingViolation_clockSafe wait line hs
  | markFrame h => exact receive_clockSafe _ h _ hs
  | readyFrame h => exact receive_clockSafe _ h _ hs
  | slipFrame h => exact receive_clockSafe _ h _ hs
  | offerFrame h rep => exact receive_clockSafe _ h _ hs
  | ticketFrame h => exact receive_clockSafe _ h _ hs
  | voidFrame h => exact receive_clockSafe _ h _ hs
  | pickupFrame h => exact receive_clockSafe _ h _ hs
  | readyFate fate line => exact fateOf_clockSafe _ _ _ _ _ line d
  | slipFate fate line => exact fateOf_clockSafe _ _ _ _ _ line d
  | offerFate fate rep line => exact fateOf_clockSafe _ _ _ _ _ line d
  | markFate fate line => exact fateOf_clockSafe _ _ _ _ _ line d
  | ticketFate fate short line => exact fateOf_clockSafe _ _ _ _ _ line d
  | voidFate fate line => exact fateOf_clockSafe _ _ _ _ _ line d
  | pickupFate fate line => exact fateOf_clockSafe _ _ _ _ _ line d
  | wireFailed wire failure => exact wireFails_clockSafe _ wire failure d
  | lineReturn => exact lineReturn_clockSafe _ d
  | lineDown cause other => exact lineDown_clockSafe _ cause other d
  | frameSeen seen => exact frameSeen_clockSafe _ seen d
  | quietEnd => exact quietEnd_clockSafe d
  | listenEnd => exact listenEnd_clockSafe d
  | waveClose pass num => exact onNamed_clockSafe pass num _ waveClose_kept d
  | waveSettle pass num => exact onNamed_clockSafe pass num _ waveSettle_kept d
  | waveAbandon pass num => exact onNamed_clockSafe pass num _ waveAbandon_kept d
  | passWaveAbandon pass num => exact onNamed_clockSafe pass num _ passAbandon_kept d
  | slipCutoff pass num => exact onNamed_clockSafe pass num _ slipCutoff_kept d
  | batchReleased seq => exact .ofKept (kept_ite _ d _ _ ((dispatch_kept d).trans (evaluate_kept _)) (.refl d))
  | batchBehind seq => exact .ofKept (kept_ite _ d _ _ (evaluate_kept d) (.refl d))
  | offerRetryDue seq => exact .ofKept (kept_ite _ d _ _ (evaluate_kept d) (.refl d))
  | holdExpiry seq => exact .ofKept (holdExpired_kept seq d)
  | turnCompare lane => exact .ofKept (turnCompare_kept lane d)
  | turnFlashEnd lane => exact .ofKept (flashEnd_kept lane d)
  | dueCompare lane => exact .ofKept (dueCompare_kept lane d)
  | callOverdue lane => exact .ofKept (callOverdue_kept lane d)
  | dueOverdue lane => exact .ofKept (dueOverdue_kept lane d)
  | buttonPress lane inAccept => exact .ofKept (buttonPress_kept lane inAccept d)
  | configure p => exact configure_clockSafe p d
  | loadDish p => exact loadDish_clockSafe p d
  | clearMenu p => exact clearMenu_clockSafe p d
  | join p => exact join_clockSafe p d
  | silence p => exact silence_clockSafe p d
  | ring p => exact ringBell_clockSafe p d
  | openWave p => exact openWave_clockSafe p d
  | issueTicket p => exact issueTicket_clockSafe p d
  | voidTicket p => exact voidTicket_clockSafe p d
  | sendPickup p => exact sendPickup_clockSafe p d
  | readStation n p => exact readStation_clockSafe n p hs
  | readWave p => exact readWave_clockSafe p d
  | readTicket p => exact readTicket_clockSafe p d
  | readBatch p => exact readBatch_clockSafe p d
  | readLane p => exact readLane_clockSafe p d
  | readNotice p => exact readNotice_clockSafe p d
  | unknownCommand code p => exact .ite (fun _ => .refl d) (fun _ => answer_clockSafe _ _ _ d)
  | nullSelect p => exact .refl d
  | messageCutShort p => exact .ite (fun _ => answer_clockSafe _ _ _ d) (fun _ => .refl d)

/-- Every command keeps the clock's ranges. -/
theorem Instr.effect_inRange (c : Instr) {d : Device} (h : d.sck.InRange d.fe.station) :
    (c.effect d).sck.InRange (c.effect d).fe.station := by
  by_cases hr : ∃ a k, c = .reset a k
  · obtain ⟨a, k, rfl⟩ := hr
    constructor <;> simp [Instr.effect, Device.reset, Sck.reset]
  by_cases hl : ∃ p, c = .leave p
  · obtain ⟨p, rfl⟩ := hl
    exact leave_inRange p h
  by_cases ht : c = .tickBoundary
  · subst ht
    exact tickBoundary_inRange h
  exact (Instr.effect_clockSafe c d (by simpa using hr) ht (by simpa using hl)).inRange h

/-- At a station that works and is not idle, every command but a RESET leaves the tick counter or advances it by one. -/
theorem Instr.effect_tick (c : Instr) {d : Device} (hr : ∀ a k, c ≠ .reset a k) (hi : ¬d.idleStation = true)
    (hw : d.Works) : (c.effect d).sck.tick = d.sck.tick ∨ (c.effect d).sck.tick = d.sck.tick + 1 := by
  by_cases hl : ∃ p, c = .leave p
  · obtain ⟨p, rfl⟩ := hl
    exact .inl (leave_tick p d)
  by_cases ht : c = .tickBoundary
  · subst ht
    exact .inr (tickBoundary_tick hi hw)
  exact .inl ((Instr.effect_clockSafe c d hr ht (by simpa using hl)).held hi hw).2

/-- Where work is held, the station is ON_LINE or QUIET (R63, R65, R67). -/
theorem Machine.Device.works_of_restOk {d : Device} (h : d.restOk)
    (hw : d.wu.waves ≠ [] ∨ ∃ i : Fin 8, (d.lane i).state ≠ .idle) : d.Works ∧ ¬d.idleStation = true := by
  have hi : ¬d.idleStation = true := by
    rw [idleStation_iff]
    rintro ⟨hn, hl⟩
    rcases hw with hw | ⟨i, hw⟩
    · exact hw hn
    · exact hw (hl i)
  refine ⟨?_, hi⟩
  have hrest : ¬(d.fe.station = .standby ∨ d.fe.station = .listen) := fun hs => by
    obtain ⟨hn, _, _, _, _, _, _, _, hl⟩ := h hs
    exact hi ((idleStation_iff d).mpr ⟨hn, hl⟩)
  unfold Works
  cases hst : d.fe.station <;> simp_all

/-- Settles O50: each command, and each crystal count, keeps the ranges. -/
theorem clockInvariant : Obligations.ClockInvariant := by
  intro s t hs hstep
  rw [clockOk_iff] at hs ⊢
  rcases step_eq_next.mp hstep with ⟨c, rest, _, rfl⟩ | ⟨_, rfl⟩
  · exact c.effect_inRange hs
  · exact crystalCount_inRange hs

/-- Settles O57: only an idle station, or one in LISTEN, steps its clock. -/
theorem clockAdvancesOneTick : Obligations.ClockAdvancesOneTick := by
  intro s t _ hrest hstep hreset hwork
  obtain ⟨hw, hi⟩ := works_of_restOk hrest hwork
  rcases step_eq_next.mp hstep with ⟨c, rest, hp, rfl⟩ | ⟨_, rfl⟩
  · exact c.effect_tick (fun a k hc => hreset a k rest (hc ▸ hp)) hi hw
  · exact crystalCount_tick hi hw

end Sys2Proof
end

section
/-! The tick boundary, the period end, and the counts of the station record (O1, O5 to O9). -/

namespace Sys2Proof.Machine

open Device

/-! ### What stands through an operation -/

/-- A view of the part that each turn of a fold leaves alone stands through the fold. -/
theorem Device.foldl_keeps {α β : Type} (view : Device → β) (f : Device → α → Device)
    (h : ∀ x a, view (f x a) = view x) (l : List α) (d : Device) : view (l.foldl f d) = view d := by
  induction l generalizing d with
  | nil => rfl
  | cons a l ih => rw [List.foldl_cons, ih, h]

/-- The strap record, the setup and the held reply (R56, R58 to R62, R168). -/
def Device.setup (d : Device) : Strap × Configuration × List Dish × Reply :=
  (d.strap, d.sp.config, d.sp.menu, d.sp.reply)

theorem Device.setup_eq_iff {d e : Device} : e.setup = d.setup ↔
    e.strap = d.strap ∧ e.sp.config = d.sp.config ∧ e.sp.menu = d.sp.menu ∧ e.sp.reply = d.sp.reply := by
  simp [setup]

theorem Device.Kept.setup {d e : Device} (h : d.Kept e) : e.setup = d.setup :=
  setup_eq_iff.mpr ⟨h.strap, h.config, h.menu, h.reply⟩

@[simp] theorem Device.onSck_setup (f : Sck → Sck) (d : Device) : (d.onSck f).setup = d.setup := rfl
@[simp] theorem Device.onLif_setup (f : Lif → Lif) (d : Device) : (d.onLif f).setup = d.setup := rfl
@[simp] theorem Device.onFe_setup (f : Fe → Fe) (d : Device) : (d.onFe f).setup = d.setup := rfl
@[simp] theorem Device.onLu_setup (f : Lu → Lu) (d : Device) : (d.onLu f).setup = d.setup := rfl
@[simp] theorem Device.setOutputs_setup (d : Device) : d.setOutputs.setup = d.setup := rfl
@[simp] theorem Device.notify_setup (n : NoticeBody) (d : Device) : (d.notify n).setup = d.setup :=
  (notify_kept n d).setup
@[simp] theorem Device.lineReturn_setup (d : Device) : d.lineReturn.setup = d.setup := by
  unfold lineReturn changeMode; split <;> simp
@[simp] theorem Device.passSlots_setup (n : Nat) (d : Device) : (d.passSlots n).setup = d.setup := by
  unfold passSlots; dsimp only; (repeat' split) <;> rfl

@[simp] theorem Device.periodAction_setup (d : Device) : d.periodAction.setup = d.setup := by
  unfold periodAction meanStep forwardOrCorrect stepClock
  (repeat' split) <;> simp
@[simp] theorem Device.periodEnd_setup (d : Device) : d.periodEnd.setup = d.setup := by
  unfold periodEnd; split <;> simp
@[simp] theorem Device.listenEnd_setup (d : Device) : d.listenEnd.setup = d.setup := by
  unfold listenEnd; split <;> rfl
@[simp] theorem Device.quietEnd_setup (d : Device) : d.quietEnd.setup = d.setup := by
  unfold quietEnd; split <;> rfl
@[simp] theorem Device.markPlace_setup (d : Device) : d.markPlace.setup = d.setup := by
  unfold markPlace; dsimp only; split <;> rfl

@[simp] theorem Device.boundaryEvents_setup (d : Device) : d.boundaryEvents.setup = d.setup := by
  obtain ⟨e, he, hd⟩ := boundaryEvents_eq d
  rw [hd, markPlace_setup, he.setup, quietEnd_setup, listenEnd_setup, periodEnd_setup]

@[simp] theorem Device.settleBoundary_setup (d : Device) : d.settleBoundary.setup = d.setup := by
  unfold settleBoundary; dsimp only; split <;> simp

/-! ### What is settled at a boundary -/

@[simp] theorem Device.periodEnd_periodEndDue (d : Device) : d.periodEnd.sck.periodEndDue = false := by
  unfold periodEnd
  split
  · exact Sck.slew_periodEndDue _
  · next h => simpa using h

theorem Device.periodEnd_of_not_due {d : Device} (h : d.sck.periodEndDue = false) : d.periodEnd = d := by
  simp [periodEnd, h]

theorem Device.listenEnd_of_not {d : Device} (h : ¬(d.fe.station = .listen ∧ d.fe.listenCount = 128)) :
    d.listenEnd = d := by
  exact if_neg (by simpa using h)

theorem Device.listenEnd_periodEndDue {d : Device} (h : d.sck.periodEndDue = false) :
    d.listenEnd.sck.periodEndDue = false := by
  unfold listenEnd
  split
  · exact Sck.restart_periodEndDue _
  · exact h

/-- The end of QUIET at the clock: the MARK quiet count alone (R47). -/
theorem Device.quietEnd_sck (d : Device) : ∃ n, d.quietEnd.sck = { d.sck with markQuiet := n } := by
  unfold quietEnd
  split
  · exact ⟨0, rfl⟩
  · exact ⟨_, rfl⟩

@[simp] theorem Device.markPlace_sck (d : Device) : d.markPlace.sck = { d.sck with markDue := false } := by
  unfold markPlace; dsimp only; split <;> rfl

theorem Device.boundaryEvents_taken (d : Device) :
    d.boundaryEvents.sck.periodEndDue = false ∧ d.boundaryEvents.sck.markDue = false := by
  obtain ⟨e, he, hd⟩ := boundaryEvents_eq d
  obtain ⟨n, hq⟩ := quietEnd_sck d.periodEnd.listenEnd
  rw [hd, markPlace_sck, he.sck, hq]
  exact ⟨listenEnd_periodEndDue (periodEnd_periodEndDue d), rfl⟩

theorem Device.settleBoundary_of_boundary {d : Device} (h : d.sck.atBoundary = true) :
    d.settleBoundary = (d.lineReturn.boundaryEvents).onSck (fun k => { k with atBoundary := false }) := by
  simp [settleBoundary, h]

theorem Device.settleBoundary_of_settled {d : Device} (h : d.sck.atBoundary = false) : d.settleBoundary = d.lineReturn := by
  simp [settleBoundary, h]

/-- Where no period end and no end of LISTEN is to be taken, what is settled moves at the clock the MARK items alone. -/
theorem Device.settleBoundary_sck {d : Device} (hp : d.sck.periodEndDue = false)
    (hl : ¬(d.sck.atBoundary = true ∧ d.fe.station = .listen ∧ d.fe.listenCount = 128)) :
    ∃ n due, d.settleBoundary.sck = { d.sck with markQuiet := n, markDue := due, atBoundary := false } := by
  cases hb : d.sck.atBoundary with
  | false => exact ⟨_, _, by rw [settleBoundary_of_settled hb, lineReturn_sck, ← hb]⟩
  | true =>
    have hl' : ¬(d.lineReturn.fe.station = .listen ∧ d.lineReturn.fe.listenCount = 128) := by
      rw [lineReturn_fe]; exact fun h => hl ⟨hb, h⟩
    obtain ⟨e, he, hd⟩ := boundaryEvents_eq d.lineReturn
    rw [periodEnd_of_not_due (by simpa using hp), listenEnd_of_not hl'] at he
    obtain ⟨n, hq⟩ := quietEnd_sck d.lineReturn
    refine ⟨n, false, ?_⟩
    rw [settleBoundary_of_boundary hb, onSck_sck, hd, markPlace_sck, he.sck, hq, lineReturn_sck]

/-! ### The boundary itself -/

/-- The part as a boundary leaves it before the dispatch pass and the evaluation: the counts, the length of the tick that
begins, the outputs (R1, R2, R15, R16). -/
def Device.tickBegun (d : Device) : Device :=
  (((d.onSck (Sck.countTick (d.fe.station == .onLine))).onFe Fe.countTick).onSck Sck.beginTick).setOutputs

/-- A boundary is the tick begun, the dispatch pass and the evaluation, then the mark of a MARK that falls there. -/
theorem Device.newTick_eq (d : Device) : ∃ e, d.tickBegun.dispatch.evaluate = e ∧
    d.newTick = e.onSck (fun k => { k with markDue := e.markFalls }) := ⟨_, rfl, rfl⟩

theorem Device.tickWork_kept (d : Device) : d.Kept d.dispatch.evaluate := (dispatch_kept d).trans (evaluate_kept _)

@[simp] theorem Device.newTick_setup (d : Device) : d.newTick.setup = d.setup := by
  obtain ⟨e, he, hd⟩ := newTick_eq d
  have hk : d.tickBegun.Kept e := he ▸ tickWork_kept _
  rw [hd, onSck_setup, hk.setup]
  rfl

/-- What a boundary leaves of the Frame Engine's state and counts (R47, R66). -/
theorem Device.newTick_fe (d : Device) :
    d.newTick.fe.viewFrom = d.fe.viewFrom ∧
      d.newTick.fe.listenCount =
        (if d.fe.station = .listen then min 128 (d.fe.listenCount + 1) else d.fe.listenCount) ∧
      d.newTick.fe.quietCount = (if d.fe.station = .quiet then min 128 (d.fe.quietCount + 1) else d.fe.quietCount) := by
  obtain ⟨e, he, hd⟩ := newTick_eq d
  have hk : d.tickBegun.Kept e := he ▸ tickWork_kept _
  have hb : d.tickBegun.fe = d.fe.countTick := rfl
  rw [hd, onSck_fe, hk.viewFrom, hk.listenCount, hk.quietCount, hb]
  unfold Fe.countTick
  cases hs : d.fe.station <;> simp

/-- A MARK waits in the queue (R15, R35). -/
theorem Device.waiting_mark_iff (d : Device) : d.waiting .mark = true ↔ .mark ∈ d.fe.txq := by
  unfold waiting
  rw [List.any_eq_true]
  constructor
  · rintro ⟨e, he, hk⟩
    cases e <;> first | exact he | exact absurd hk (by simp [TxEntry.sameKey])
  · exact fun h => ⟨_, h, rfl⟩

theorem Device.not_waiting_mark_iff (d : Device) : d.waiting .mark = false ↔ ∀ e ∈ d.fe.txq, e ≠ .mark := by
  rw [← Bool.not_eq_true, waiting_mark_iff]
  exact ⟨fun h e he hm => h (hm ▸ he), fun h hm => h _ hm rfl⟩

/-- A MARK falls at a boundary where the station is ON_LINE, its quiet count stands at 32 and none waits (R15). -/
theorem Device.newTick_markDue (d : Device) : d.newTick.sck.markDue = true ↔
    d.fe.station = .onLine ∧ d.newTick.sck.markQuiet = 32 ∧ ∀ e ∈ d.newTick.fe.txq, e ≠ .mark := by
  have hs := newTick_station d
  obtain ⟨e, _, hd⟩ := newTick_eq d
  rw [hd] at hs ⊢
  rw [← not_waiting_mark_iff, ← hs]
  show e.markFalls = true ↔ e.fe.station = .onLine ∧ e.sck.markQuiet = 32 ∧ e.waiting .mark = false
  simp [markFalls, and_assoc]

/-- C and the length of a tick by the slewing of R2. -/
theorem Sck.slew_eq (k : Sck) : k.slew = { k with
    terminal := if 0 < k.corr then 4095 - 16 * min k.corr.natAbs 4
      else if k.corr < 0 then 4095 + 16 * min k.corr.natAbs 4 else 4095
    corr := if 0 < k.corr then k.corr - (min k.corr.natAbs 4 : Nat)
      else if k.corr < 0 then k.corr + (min k.corr.natAbs 4 : Nat) else 0 } := by
  unfold Sck.slew slewAmount
  dsimp only
  split
  · rfl
  · split
    · rfl
    · have h0 : k.corr = 0 := by omega
      rw [← h0]

/-- The length of a tick fixed leaves the other items (R2). -/
theorem Sck.beginTick_keeps (k : Sck) :
    k.beginTick = { k with terminal := k.beginTick.terminal, corr := k.beginTick.corr } := by
  unfold Sck.beginTick
  split
  · rfl
  · exact k.slew_keeps

/-- One crystal count within the tick (R1). -/
theorem Device.letPass_one {d : Device} (h : d.sck.prescaler < d.sck.terminal) : d.letPass 1 =
    { d.passSlots (slotsBetween d.sck.prescaler (d.sck.prescaler + 1)) with
      sck := { d.sck with prescaler := d.sck.prescaler + 1 } } := by
  have hk : d.sck.advance 1 = { d.sck with prescaler := d.sck.prescaler + 1 } := by
    rw [Sck.advance, min_eq_right (by omega), max_eq_right (by omega)]
  rw [letPass, hk]
  rfl

/-- Slot times passed leave the length counts and the view-from time. -/
theorem Device.passSlots_fe (n : Nat) (d : Device) : (d.passSlots n).fe.viewFrom = d.fe.viewFrom ∧
    (d.passSlots n).fe.listenCount = d.fe.listenCount ∧ (d.passSlots n).fe.quietCount = d.fe.quietCount := by
  unfold passSlots
  dsimp only
  (repeat' split) <;> exact ⟨rfl, rfl, rfl⟩

/-- A tick boundary is the new tick of a part that stands as what was settled left it, but for the slot times passed. -/
theorem Device.tickBoundary_eq (d : Device) : ∃ e : Device, d.tickBoundary = e.newTick ∧
    e.sck = d.settleBoundary.sck ∧ e.lu = d.settleBoundary.lu ∧ e.setup = d.setup ∧
    e.fe.station = d.settleBoundary.fe.station ∧ e.fe.viewFrom = d.settleBoundary.fe.viewFrom ∧
    e.fe.listenCount = d.settleBoundary.fe.listenCount ∧ e.fe.quietCount = d.settleBoundary.fe.quietCount := by
  rw [tickBoundary, endTick, ← settleBoundary_setup d]
  generalize d.settleBoundary = x
  exact ⟨_, rfl, passSlots_sck _ x, passSlots_lu _ x, passSlots_setup _ x, passSlots_station _ x, passSlots_fe _ x⟩

@[simp] theorem Device.tickBoundary_setup (d : Device) : d.tickBoundary.setup = d.setup := by
  obtain ⟨e, he, _, _, hs, _⟩ := tickBoundary_eq d
  rw [he, newTick_setup, hs]

/-- A boundary with nothing of an earlier one to be taken: the station, its length counts and the MARK items (R15, R47,
R66). -/
theorem Device.tickBoundary_counts {d : Device} (hb : d.sck.atBoundary = false) :
    d.tickBoundary.fe.station = d.fe.station ∧ d.tickBoundary.fe.viewFrom = d.fe.viewFrom ∧
      d.tickBoundary.fe.listenCount =
        (if d.fe.station = .listen then min 128 (d.fe.listenCount + 1) else d.fe.listenCount) ∧
      d.tickBoundary.fe.quietCount =
        (if d.fe.station = .quiet then min 128 (d.fe.quietCount + 1) else d.fe.quietCount) ∧
      d.tickBoundary.sck.markQuiet = (if d.fe.station = .onLine then min 32 (d.sck.markQuiet + 1) else 0) ∧
      (d.tickBoundary.sck.markDue = true ↔
        d.fe.station = .onLine ∧ 31 ≤ d.sck.markQuiet ∧ ∀ e ∈ d.tickBoundary.fe.txq, e ≠ .mark) := by
  obtain ⟨e, he, hk, -, -, hst, hv, hl, hq⟩ := tickBoundary_eq d
  rw [settleBoundary_of_settled hb, lineReturn_fe] at hst hv hl hq
  rw [settleBoundary_of_settled hb, lineReturn_sck] at hk
  obtain ⟨hv', hl', hq'⟩ := newTick_fe e
  have hm : e.newTick.sck.markQuiet = if d.fe.station = .onLine then min 32 (d.sck.markQuiet + 1) else 0 := by
    obtain ⟨due, hs⟩ := newTick_sck e
    rw [hs, Sck.beginTick_keeps]
    simp [Sck.countTick, hst, hk]
  rw [he, newTick_station, hv', hl', hq', newTick_markDue, hm, hst, hv, hl, hq]
  refine ⟨rfl, rfl, rfl, rfl, rfl, and_congr_right fun ho => and_congr_left fun _ => ?_⟩
  rw [if_pos ho]
  omega

/-! ### Lamps and the BELL (R16, R138, R139) -/

@[simp] theorem Device.setOutputs_lane (d : Device) (i : Fin 8) :
    d.setOutputs.lane i = { d.lane i with lamp := d.configured i && lampFor d.now (d.lane i) } := by
  simp [setOutputs, lane]

/-- A call changes no output: they stand until the next boundary (R16). -/
theorem Device.dispatchLane_outputs (i j : Fin 8) (d : Device) :
    ((d.dispatchLane i).lane j).lamp = (d.lane j).lamp ∧ (d.dispatchLane i).lu.bell = d.lu.bell := by
  have hcall : ∀ b : Batch, ((d.callBatch i b).lane j).lamp = (d.lane j).lamp ∧ (d.callBatch i b).lu.bell = d.lu.bell := by
    intro b
    have hl : (d.callBatch i b).lane j = if i = j then Lane.call b.bid d.now (d.lane i) else d.lane j :=
      onLane_lane i j _ _
    refine ⟨?_, rfl⟩
    rw [hl]
    split
    · next h => rw [← h]; rfl
    · rfl
  unfold dispatchLane
  split
  · split
    · exact hcall _
    · exact ⟨rfl, rfl⟩
  · exact ⟨rfl, rfl⟩

theorem Device.dispatch_lamp (i : Fin 8) (d : Device) : (d.dispatch.lane i).lamp = (d.lane i).lamp :=
  foldl_keeps (fun x => (x.lane i).lamp) _ (fun x j => (dispatchLane_outputs j i x).1) _ d

theorem Device.dispatch_bell (d : Device) : d.dispatch.lu.bell = d.lu.bell := by
  unfold dispatch
  exact foldl_keeps (fun x => x.lu.bell) (fun x i => x.dispatchLane i) (fun x j => (dispatchLane_outputs j j x).2) _ d

/-- The evaluation reads the lanes and changes none (R90). -/
@[simp] theorem Device.evaluate_lu (d : Device) : d.evaluate.lu = d.lu := by
  have ha : ∀ (x : Device) (r : Nat), (x.announce r).lu = x.lu := by
    intro x r; unfold announce; (repeat' split) <;> rfl
  have hs : ∀ (x : Device) (r : Nat), (x.slipEval r).lu = x.lu := by
    intro x r; unfold slipEval; (repeat' split) <;> rfl
  have hm : ∀ (x : Device) (b : Nat), (x.markLate b).lu = x.lu := by
    intro x b; unfold markLate; (repeat' split) <;> rfl
  have ho : ∀ x : Device, x.offerEval.lu = x.lu := by
    intro x; unfold offerEval; (repeat' split) <;> rfl
  unfold evaluate
  dsimp only
  split
  · rfl
  · rw [ho, foldl_keeps Device.lu _ hm, foldl_keeps Device.lu _ hs, foldl_keeps Device.lu _ ha]
    rfl

/-- The outputs a boundary leaves are those set when the tick began. -/
theorem Device.newTick_outputs (d : Device) :
    (∀ i, (d.newTick.lane i).lamp = (d.configured i && lampFor (d.sck.tick + 1) (d.lane i))) ∧
      d.newTick.lu.bell = (d.bellActive && fastTap (d.sck.tick + 1)) := by
  obtain ⟨e, he, hd⟩ := newTick_eq d
  have hnow : ((d.onSck (Sck.countTick (d.fe.station == .onLine))).onFe Fe.countTick |>.onSck Sck.beginTick).now =
      d.sck.tick + 1 := by
    rw [now, onSck_sck, Sck.beginTick_keeps]; rfl
  refine ⟨fun i => ?_, ?_⟩
  · have hl : (d.newTick.lane i).lamp = (d.tickBegun.lane i).lamp := by
      rw [hd]
      show (e.lane i).lamp = _
      rw [← he, lane, evaluate_lu]
      exact dispatch_lamp i _
    rw [hl, tickBegun, setOutputs_lane, hnow]
    rfl
  · have hb : d.newTick.lu.bell = d.tickBegun.lu.bell := by
      rw [hd, onSck_lu, ← he, evaluate_lu, dispatch_bell]
    have hbell : d.tickBegun.lu.bell = (d.bellActive && fastTap
        ((d.onSck (Sck.countTick (d.fe.station == .onLine))).onFe Fe.countTick |>.onSck Sck.beginTick).now) := rfl
    rw [hb, hbell, hnow]

theorem Device.configured_iff (d : Device) (i : Fin 8) : d.configured i = true ↔ i.val < d.sp.config.laneCount :=
  decide_eq_true_iff

/-- The bell rings for a configured lane with an overdue cause unacknowledged, or for the ring marker (R139). -/
theorem Device.bellActive_iff (d : Device) : d.bellActive = true ↔
    d.lu.ring = true ∨ ∃ i : Fin 8, i.val < d.sp.config.laneCount ∧ (d.lane i).overdue ≠ .none ∧ (d.lane i).ack = false := by
  simp [bellActive, Lane.ringing, configured_iff, or_comm]

end Sys2Proof.Machine

namespace Sys2Proof

open Machine Machine.Device

/-- Settles O1. -/
theorem stepTakesFront : Obligations.StepTakesFront := by
  refine ⟨fun c rest s h => by simp only [step, h], fun s settled hp hs => ?_, fun d hb => ?_, fun d hb hr => ?_⟩
  · have hstep : step s = .next (s.onDev crystalCount) := by simp only [step, hp]
    rcases s.dev.crystalCount_cases with ⟨hlt, hc⟩ | ⟨hle, hc⟩ <;> rw [← hs] at *
    · refine ⟨fun _ => ?_, fun h => absurd hlt (Nat.not_lt.mpr h)⟩
      rw [hstep, State.onDev, hc, letPass_one hlt]
    · refine ⟨fun h => absurd hle (Nat.not_le.mpr h), fun _ => ?_⟩
      rw [hstep, exec_eq, Instr.effect, State.onDev, State.onDev, hc]
  · obtain ⟨hp, hm⟩ := boundaryEvents_taken d.lineReturn
    simp [settleBoundary_of_boundary hb, hp, hm]
  · rw [settleBoundary_of_settled hb, lineReturn_of_not_due hr]

/-- The row at which a tick boundary comes. -/
theorem Machine.exec_tickBoundary (s : State) :
    exec .tickBoundary s = .next { s with dev := s.dev.tickBoundary } := exec_eq _ s

/-- Settles O5: what an earlier boundary leaves to be taken moves only the MARK items; then the counts of the new tick. -/
theorem tickBoundaryAdvances : Obligations.TickBoundaryAdvances := by
  intro s hp hl
  refine ⟨_, exec_tickBoundary s, rfl, ?_⟩
  obtain ⟨n, due, hk⟩ := settleBoundary_sck hp hl
  obtain ⟨e, he, hs, -⟩ := tickBoundary_eq s.dev
  obtain ⟨due', ht⟩ := newTick_sck e
  rw [← he, hs, hk] at ht
  obtain ⟨hst, hcfg, hmenu, hrep⟩ := setup_eq_iff.mp (tickBoundary_setup s.dev)
  have hc := fun hb => tickBoundary_counts (d := s.dev) hb
  dsimp only
  generalize s.dev.tickBoundary = t at *
  have hkeep := Sck.beginTick_keeps (Sck.countTick (e.fe.station == .onLine) { s.dev.sck with
    markQuiet := n, markDue := due, atBoundary := false })
  refine ⟨?_, ?_, fun hlt => ?_, fun heq => ?_, ?_, ?_, ?_, hc, hst, hcfg, hmenu, hrep⟩
  · rw [ht, hkeep]; rfl
  · rw [ht, hkeep]; rfl
  · have hd : ¬63 ≤ s.dev.sck.periodCount := by omega
    rw [ht]
    simp only [Sck.countTick, Sck.beginTick, hd, decide_false, if_false, Bool.false_eq_true, Sck.slew_eq]
    refine ⟨trivial, trivial, fun hpos => ?_, fun hneg => ?_, fun hz => ?_⟩
    · simp [hpos]
    · simp [hneg, not_lt_of_gt hneg]
    · simp [hz]
  · rw [ht]
    simp [Sck.countTick, Sck.beginTick, heq]
  · rw [ht, hkeep]; rfl
  · rw [ht, hkeep]; rfl
  · rw [ht, hkeep]; rfl

/-- Settles O6: the outputs are set from the lanes as they were settled, and the rest of the boundary changes none. -/
theorem outputsAtBoundary : Obligations.OutputsAtBoundary := by
  intro s
  refine ⟨_, exec_tickBoundary s, rfl, ?_⟩
  obtain ⟨e, he, -, hlu, hsetup, -⟩ := tickBoundary_eq s.dev
  obtain ⟨-, hcfg, -, -⟩ := setup_eq_iff.mp hsetup
  obtain ⟨hlamp, hbell⟩ := newTick_outputs e
  have htick := newTick_tick e
  have hlane : ∀ i, s.dev.settleBoundary.lane i = e.lane i := fun i => by rw [lane, lane, hlu]
  dsimp only
  rw [he, ← hlu, ← hcfg]
  simp only [hlane]
  refine ⟨fun i => ?_, ?_⟩
  · rw [hlamp, htick, configured, cfg, lampFor]
    cases (e.lane i).state <;> rfl
  · rw [hbell, htick, Bool.and_eq_true, bellActive_iff, and_comm, fastTap, beq_iff_eq]

end Sys2Proof
end

section
/-! The period end, the ends of LISTEN and QUIET, JOIN and LEAVE (O7, O8, O9, O46). -/

namespace Sys2Proof.Machine

open Device

/-! ### The period end (R8, R12, R13) -/

/-- What a period end leaves, its action by the station state taken: the list emptied, the tick that begins fixed. -/
theorem Device.periodEnd_of_due {d : Device} (h : d.sck.periodEndDue = true) : d.periodEnd =
    (d.periodAction.onSck (fun k => Sck.slew { k with samples := [], periodEndDue := false })).setOutputs := by
  simp [periodEnd, h]

/-- With C at 0 the tick that begins has 4096 counts (R2). -/
theorem Sck.slew_of_zero {k : Sck} (h : k.corr = 0) : k.slew = { k with terminal := 4095 } := by simp [Sck.slew, h]

theorem Device.setOutputs_frame (d : Device) :
    (∀ i : Fin 8, { d.setOutputs.lane i with lamp := (d.lane i).lamp } = d.lane i) ∧ d.setOutputs.lu.ring = d.lu.ring :=
  ⟨fun i => by rw [setOutputs_lane], rfl⟩

/-- The correction C that a period end without a step leaves before the tick begins (the table of R8). -/
def Device.unsteppedCorr (d : Device) (c : Int) : Prop :=
  ((d.fe.station = .standby ∨ (d.fe.station = .listen ∧ d.sck.firstStep = true)) ∧ c = d.sck.corr) ∨
    ((d.fe.station = .quiet ∨
        (d.fe.station = .onLine ∧ ¬(d.idleStation = true ∧ ∃ m, d.sck.median = some m ∧ 1024 < m))) ∧
      c = (match d.sck.mean with
        | some m => m.tdiv 2
        | none => d.sck.corr))

/-- The correction of the table of R8 is the one the clock takes. -/
theorem Sck.correct_eq (k : Sck) : k.correct = { k with corr := match k.mean with
    | some m => m.tdiv 2
    | none => k.corr } := by
  unfold Sck.correct
  cases k.mean <;> rfl

theorem Device.periodAction_unstepped {d : Device} {c : Int} (h : d.unsteppedCorr c) :
    d.periodAction = d.onSck (fun k => { k with corr := c }) := by
  unfold periodAction
  rcases h with ⟨hs | ⟨hs, hf⟩, rfl⟩ | ⟨hs | ⟨hs, hi⟩, rfl⟩
  · simp only [hs]; rfl
  · simp only [hs, hf, if_true]; rfl
  · simp only [hs, onSck, Sck.correct_eq]
  · have hc : d.onSck Sck.correct = d.onSck (fun k => { k with corr := match d.sck.mean with
        | some m => m.tdiv 2
        | none => d.sck.corr }) := by simp only [onSck, Sck.correct_eq]
    simp only [hs, forwardOrCorrect]
    split
    · next m hm =>
      rw [if_neg, hc]
      exact fun hb => hi ⟨by simp_all, m, hm, by simp_all⟩
    · exact hc

/-- A step of the clock with its notice, at the station's period end (R12, R13, R14). -/
theorem Device.periodAction_stepped {d : Device} {m : Int} {kind : StepKind}
    (h : (d.fe.station = .listen ∧ d.sck.firstStep = false ∧ d.sck.mean = some m ∧ m ≠ 0 ∧ d.sck.corr = 0 ∧
        kind = .mean) ∨
      (d.fe.station = .onLine ∧ d.wu.waves = [] ∧ (∀ i : Fin 8, (d.lane i).state = .idle) ∧ d.sck.median = some m ∧
        1024 < m ∧ kind = .forward)) :
    d.periodAction = (d.stepClock kind m).onSck (fun k => { k with corr := 0 }) := by
  unfold periodAction
  rcases h with ⟨hs, hf, hm, hz, hc, rfl⟩ | ⟨hs, hw, hl, hm, hgt, rfl⟩
  · have hk : (d.stepClock .mean m).sck = { (d.stepClock .mean m).sck with corr := 0 } := by
      rw [← hc]; rfl
    simp only [hs, hf, meanStep, hm, beq_iff_eq, hz, if_false, Bool.false_eq_true]
    rw [onSck, ← hk]
  · have hi : d.idleStation = true := (idleStation_iff d).mpr ⟨hw, hl⟩
    simp [hs, forwardOrCorrect, hm, hi, hgt]

/-- In LISTEN after the first step no mean, or a mean of zero, steps nothing (R12). -/
theorem Device.periodAction_listen {d : Device} (hs : d.fe.station = .listen) (hf : d.sck.firstStep = false)
    (hm : d.sck.mean = none ∨ d.sck.mean = some 0) : d.periodAction = d := by
  rcases hm with hm | hm <;> simp [periodAction, hs, hf, meanStep, hm]

/-! ### The queue (R35) -/

/-- An entry placed where none of its key waits joins the queue at its end. -/
theorem Device.placeEntry_of_not_waiting {d : Device} {e : TxEntry} (h : d.waiting e = false) :
    placeEntry e d.fe.txq = d.fe.txq ++ [e] := by
  have hn : ∀ x ∈ d.fe.txq, x.sameKey e = false := by simpa [waiting] using h
  rw [placeEntry, List.filter_eq_self.mpr (fun x hx => by simp [hn x hx])]

/-! ### The line lock and the kinds of lanes (R53, R64) -/

theorem Device.kindConfigured_iff (d : Device) (k : Nat) :
    d.kindConfigured k = true ↔ ∃ i : Fin 8, i.val < d.sp.config.laneCount ∧ d.laneKind i = k := by
  simp [kindConfigured, configured_iff]

theorem Device.isPass_iff (d : Device) : d.isPass = true ↔ d.strap.cls = 0 := beq_iff_eq

/-- What JOIN asks of the setup (R64). -/
theorem Device.joinOk_iff (d : Device) : d.joinOk = true ↔
    d.strap.addr ≠ 0 ∧ d.strap.addr ≠ 63 ∧ (d.strap.cls = 0 ∨ (1 ≤ d.sp.config.laneCount ∧ d.sp.menu ≠ [] ∧
      ∀ x ∈ d.sp.menu, ∃ i : Fin 8, i.val < d.sp.config.laneCount ∧ d.laneKind i = x.kind)) := by
  have hl : decide (1 ≤ d.cfg.laneCount) = true ↔ 1 ≤ d.sp.config.laneCount := decide_eq_true_iff
  simp only [joinOk, addrOk, Bool.and_eq_true, Bool.or_eq_true, isPass_iff, hl, List.all_eq_true, kindConfigured_iff]
  simp [and_assoc]

/-- A JOIN that passes at a boundary whose period end is taken, or between boundaries (R17, R19, R53, R65). -/
theorem Device.enterListen_eq {d : Device} {m : LineMode} (hp : d.sck.periodEndDue = false)
    (hm : m = if d.sp.config.lock = .auto then .dual else if d.sp.config.lock = .aOnly then .aOnly else .bOnly) :
    d.enterListen = { d with
      sck := { d.sck with firstStep := true, periodCount := 0, samples := [] }
      lif :=
        { mode := m
          wireA := if d.sp.config.lock = .bOnly then .failed else .good
          wireB := if d.sp.config.lock = .aOnly then .failed else .good
          silenceA := 0
          silenceB := 0
          cleanCount := 0 }
      fe := { d.fe with
        station := .listen, listenCount := 0, viewFrom := none, idleCount := 0, tecCount := 0, recCount := 0 }
      sp := if d.lif.mode = m then d.sp else d.sp.queueNotice d.sck.tick (.lineMode d.lif.mode m .join) } := by
  have hl : lockMode d.sp.config.lock = m := by rw [hm]; cases d.sp.config.lock <;> rfl
  have hk : Sck.restart { d.sck with firstStep := true } =
      { d.sck with firstStep := true, periodCount := 0, samples := [] } := by simp [Sck.restart, hp]
  by_cases he : d.lif.mode = m
  · simp [enterListen, applyLock, cfg, hl, he, hk, onSck, onFe, onLif]
  · simp [enterListen, applyLock, cfg, hl, he, hk, onSck, onFe, onLif, changeMode, notify, onSp, now]

end Sys2Proof.Machine

namespace Sys2Proof

open Machine Machine.Device

theorem Machine.exec_periodEnd (s : State) : exec .periodEnd s = .next { s with dev := s.dev.periodEnd } := exec_eq _ s

/-- Settles O7: the mean by the order of the offsets, then the table of R8. -/
theorem periodEndCorrects : Obligations.PeriodEndCorrects := by
  refine ⟨fun l => ⟨fun h => h ▸ trimmedMean_nil, trimmedMean_few, fun hi lo => trimmedMean_many⟩, ?_⟩
  intro s c hdue hc
  refine ⟨_, exec_periodEnd s, rfl, ?_⟩
  rw [periodEnd_of_due hdue, periodAction_unstepped hc]
  refine ⟨?_, rfl, (setOutputs_frame _).1, rfl⟩
  exact Sck.slew_eq _

/-- Settles O8: the step, then the tick that begins, whose C of 0 leaves its length at 4096 counts. -/
theorem periodEndSteps : Obligations.PeriodEndSteps := by
  refine ⟨fun s m kind hdue h => ⟨_, exec_periodEnd s, rfl, ?_⟩, fun s hdue hs hf hc hm => ⟨_, exec_periodEnd s, rfl, ?_⟩⟩
  · rw [periodEnd_of_due hdue, periodAction_stepped h]
    exact ⟨Sck.slew_of_zero (k := { Sck.stepBy m s.dev.sck with corr := 0, samples := [], periodEndDue := false }) rfl, rfl,
      rfl⟩
  · rw [periodEnd_of_due hdue, periodAction_listen hs hf hm]
    exact ⟨Sck.slew_of_zero hc, rfl⟩

/-- Settles O9. -/
theorem stationCounts : Obligations.StationCounts := by
  refine ⟨fun s hd hs hq hm => ?_, fun s hs hc hp => ?_, fun s hs hc => ?_⟩
  · have hw : s.dev.waiting .mark = false := (not_waiting_mark_iff s.dev).mpr hm
    have hq' := placeEntry_of_not_waiting hw
    rw [exec_eq, Instr.effect, State.onDev]
    simp [markPlace, hd, hs, hq, hw, place, onFe, onSck, hq']
  · rw [exec_eq, Instr.effect, State.onDev]
    simp [listenEnd, hs, hc, onFe, onSck, Sck.restart, hp, now]
  · rw [exec_eq, Instr.effect, State.onDev]
    simp [quietEnd, hs, hc, onFe, onSck]

/-- Settles O46. -/
theorem joinAndLeave : Obligations.JoinAndLeave := by
  refine ⟨fun s m hs hp hm => ?_, fun s hs => ?_⟩
  · split
    · next hok =>
      have hj : s.dev.joinOk = true := (joinOk_iff s.dev).mpr hok
      rw [exec_eq, Instr.effect, State.onDev]
      simp [join, hs, hj, enterListen_eq hp hm, answer, onSp]
    · next hok =>
      have hj : s.dev.joinOk = false := Bool.eq_false_iff.mpr (fun h => hok ((joinOk_iff s.dev).mp h))
      rw [exec_eq, Instr.effect, State.onDev]
      simp [join, hs, hj, State.replied, answer, onSp]
  · have hl : s.dev.leave [] = (s.dev.leaveAll.notify
        (.stationLeft s.dev.fe.station s.dev.wu.waves.length s.dev.bp.batches.length
          (s.dev.ti.tickets.length + s.dev.ti.issues.length))).answer .ok [] := by
      simp [leave, hs]
    refine ⟨_, exec_eq _ s, rfl, ?_⟩
    simp only [Instr.effect, State.onDev, hl]
    have hlane : ∀ i, s.dev.leaveAll.lane i = (s.dev.lane i).left := fun i => by simp [lane, leaveAll]
    repeat refine ⟨rfl, ?_⟩
    exact ⟨hlane, rfl, rfl, rfl⟩

end Sys2Proof
end

section
/-! Frames heard to their end by a station whose blocks decide nothing about them, and what they leave at the clock (O18,
O19). -/

namespace Sys2Proof.Machine

open Device

/-! ### Bodies by kind -/

/-- A body read by a row is of the row's kind (R22, R23). -/
theorem readBody_kind {k : Kind} {bytes : List Byte} {b : Body} (h : readBody k bytes = some b) : b.kind = k := by
  unfold readBody at h
  split at h
  all_goals try simp only [readEstimateBody, readOffer, readTicketBody, readVoid] at h
  all_goals repeat' split at h
  all_goals cases h
  all_goals rfl

theorem framed_kind {k : Kind} {raw : RawFrame} {b : Body} (h : framed k raw = some b) : b.kind = k := by
  unfold framed at h
  split at h
  · exact readBody_kind h
  · cases h

/-! ### Time that passes where nothing is to be taken -/

@[simp] theorem Sck.advance_zero (k : Sck) : k.advance 0 = k := by
  have h : max k.prescaler (min k.terminal (k.prescaler + 0)) = k.prescaler := by omega
  rw [Sck.advance, h]

theorem Device.pass_eq {d : Device} (n : Nat) (hr : d.returnDue = false) (hb : n = 0 ∨ d.sck.atBoundary = false) :
    d.pass n = d.onSck (Sck.advance n) := by
  rcases hb with rfl | hb
  · rw [pass_zero, onSck, Sck.advance_zero]
  · rw [pass_of_settled n d hr hb]
    split
    · next h => rw [h, onSck, Sck.advance_zero]
    · rfl

/-- What passes before a start slot at a station that follows the Link with no frame in hand and nothing to be taken. -/
theorem Device.untilStart_eq {d : Device} (w : Wait) (hs : d.fe.station ≠ .standby) (hm : d.lif.mode ≠ .down)
    (hx : d.fe.rx = none) (hf : d.fe.inFlight = none) (hr : d.returnDue = false)
    (hb : w.elapsed = 0 ∨ d.sck.atBoundary = false) :
    d.untilStart w = { d with
      sck := d.sck.advance w.elapsed
      lif := d.lif.passSlots w.slots
      fe := { d.fe with idleCount := min 11 (d.fe.idleCount + w.slots), drove := [] } } := by
  have hp : d.quietLine.passSlots w.slots = { d with
      lif := d.lif.passSlots w.slots
      fe := { d.fe with idleCount := min 11 (d.fe.idleCount + w.slots), drove := [] } } := by
    simp [passSlots, frameInHand, follows, quietLine, onFe, onLif, hs, hm, hx, hf]
  rw [untilStart, lineReturn_of_not_due hr, hp]
  exact pass_eq w.elapsed hr hb

/-! ### A frame followed (R20, R25, R28, R33) -/

/-- What the end of a frame's accept slot leaves at the clock, the line and the Frame Engine of a station that followed it,
before its finding is counted and its time is taken (R4, R19, R48, R50). -/
def Device.frameHeard (h : Heard) (d : Device) : Device :=
  { d with
    sck := (Sck.advance h.lasted { d.sck.advance h.elapsed with capture := some (d.sck.advance h.elapsed).reading })
    lif := d.heardLine h.toFollowed
    fe := { d.fe with idleCount := 0, drove := [] } }

@[simp] theorem Device.frameHeard_station (h : Heard) (d : Device) : (d.frameHeard h).fe.station = d.fe.station := rfl

@[simp] theorem Device.frameHeard_firstStep (h : Heard) (d : Device) :
    (d.frameHeard h).sck.firstStep = d.sck.firstStep := rfl

/-- What a station holds of a frame it follows, whose blocks have decided nothing. -/
def Device.follower (k : Kind) (h : Heard) (stage : RxStage) (d : Device) : Rx :=
  { startState := d.fe.station, frame := some (k, h.frame), stage := stage, bad := false, ticket := .disregard,
    taker := .notTaker }

/-- The part while it follows a frame that no block has decided about. -/
def Device.following (k : Kind) (h : Heard) (stage : RxStage) (d : Device) : Device :=
  { d with
    sck := (Sck.advance h.lasted { d.sck.advance h.elapsed with capture := some (d.sck.advance h.elapsed).reading })
    lif := d.lif.hear h.toSilences
    fe := { d.fe with idleCount := 0, drove := [], rx := some (d.follower k h stage) } }

/-- A frame heard to its end is taken stage by stage from its start slot. -/
theorem Device.receive_of_hears {d : Device} {h : Heard} (k : Kind) (rep : OfferReply) (hh : d.hears h)
    (hu : h.upTo = .accept) : d.receive k h rep =
      (((d.following k h .start).rxBody k h.frame).rxReply k h.frame h.gapFault rep).rxAccept k h.frame h.lateFault
        h.accept h.agree := by
  obtain ⟨hs, hm, hx, hf, hr, hi, hbr, hb⟩ := hh
  have hwait : h.elapsed = 0 ∨ d.sck.atBoundary = false := hb.imp And.left id
  have hlast : h.lasted = 0 ∨ d.sck.atBoundary = false := hb.imp And.right id
  have hstart : d.rxStart h.toWait = { d with
      sck := { d.sck.advance h.elapsed with capture := some (d.sck.advance h.elapsed).reading }
      lif := d.lif.passSlots h.slots
      fe := { d.fe with
        idleCount := 0
        drove := []
        rx := some { startState := d.fe.station, frame := none, stage := .start, bad := false, ticket := .disregard,
                     taker := .notTaker } } } := by
    simp [rxStart, listens, frameInHand, untilStart_eq h.toWait hs hm hx hf hr hwait, follows, hs, hm, hx, hf, onFe,
      onSck, edge, show ¬d.fe.idleCount + h.slots < 11 by omega]
  have hpass := pass_eq (d := d.rxStart h.toWait) h.lasted (by rw [hstart]; exact hr) (by rw [hstart]; exact hlast)
  have hfollow : (((d.rxStart h.toWait).pass h.lasted).hear h.toSilences).onRx
      (fun x => { x with frame := some (k, h.frame) }) = d.following k h .start := by
    rw [hpass, hstart]
    simp [hear, hs, onSck, onRx, onFe, onLif, following, follower, Lif.hear, Lif.passSlots]
  unfold receive
  simp only [hfollow, hu]
  rw [hstart]
  simp [hbr, stageRank]

/-- A station whose blocks decide nothing about a body at its end (R28, R72, R150). -/
def Device.undecided (k : Kind) (h : Heard) (b : Body) (d : Device) : Prop :=
  (d.following k h .start).atBodyEnd h.frame (d.follower k h .bodyEnd) b = d.follower k h .bodyEnd

theorem Device.rxBody_undecided {d : Device} {k : Kind} {h : Heard} {b : Body} (hf : framed k h.frame = some b)
    (hu : d.undecided k h b) : (d.following k h .start).rxBody k h.frame = d.following k h .bodyEnd := by
  have hrx : (d.following k h .start).rxBody k h.frame = (d.following k h .start).onFe (fun x =>
      { x with rx := some ((d.following k h .start).atBodyEnd h.frame (d.follower k h .bodyEnd) b) }) := by
    rw [rxBody, hf]
    rfl
  rw [hrx, hu]
  rfl

/-- A reply field with nothing bad in it, at a station that decided nothing, drives nothing and takes nothing. -/
theorem Device.rxReply_undecided {d : Device} {k : Kind} {h : Heard} {rep : OfferReply} {b : Body}
    (hg : heardGood h k rep b) :
    (d.following k h .bodyEnd).rxReply k h.frame h.gapFault rep = d.following k h .reply := by
  obtain ⟨-, hf, hc, hgap, -, -, hrep⟩ := hg
  have hd : (d.following k h .bodyEnd).onRx (fun x =>
      { x with stage := .reply, bad := x.bad || h.gapFault || crcError h.frame }) = d.following k h .reply := by
    simp [hc, hgap, onRx, onFe, following, follower]
  have hdrop : (d.following k h .reply).dropQualified = d.following k h .reply := rfl
  unfold rxReply
  simp only [hd, hf]
  cases b with
  | ticket => rfl
  | offer =>
      obtain ⟨hcheck, hfault⟩ := hrep (framed_kind hf).symm
      rw [hcheck, hfault]
      rfl
  | ready => exact hdrop
  | slip => exact hdrop
  | void => exact hdrop
  | pickup => exact hdrop
  | mark => exact hdrop

/-- What an accepted frame leaves before the blocks of its kind take it (R4, R6, R11, R44). -/
def Device.frameTaken (h : Heard) (d : Device) : Device :=
  (((d.frameHeard h).countHeard false).takeTime h.frame).onSck (fun k => { k with capture := none })

theorem Device.closeRx_following {d : Device} {k : Kind} {h : Heard} {stage : RxStage} (hx : d.fe.rx = none) :
    (d.following k h stage).closeRx h.agree = d.frameHeard h := by
  simp [closeRx, following, frameHeard, onFe, onLif, heardLine, cfg, hx]

/-- A frame heard good by a station that decided nothing about it reaches the clock, and the blocks of its kind where the
station takes part (R20, R33). -/
theorem Device.receive_undecided {d : Device} {k : Kind} {h : Heard} {rep : OfferReply} {b : Body} (hh : d.hears h)
    (hg : heardGood h k rep b) (hu : d.undecided k h b) :
    d.receive k h rep = if d.fe.station.applies then (d.frameTaken h).deliver h.frame (d.follower k h .reply) b
      else d.frameTaken h := by
  have hx : d.fe.rx = none := hh.2.2.1
  have hf : framed k h.frame = some b := hg.2.1
  rw [receive_of_hears k rep hh hg.1, rxBody_undecided hf hu, rxReply_undecided hg]
  obtain ⟨-, -, -, -, hlate, hacc, -⟩ := hg
  unfold rxAccept
  rw [show (d.following k h .reply).fe.rx = some (d.follower k h .reply) from rfl, hlate, hacc, hf]
  simp only [follower, Bool.or_false, Bool.false_and, Bool.false_eq_true, if_false, closeRx_following hx]
  cases d.fe.station.applies <;> rfl

theorem Device.quietIfDue_of_below {d : Device} (h : d.fe.station = .onLine → d.fe.tecCount < 128 ∧ d.fe.recCount < 128) :
    d.quietIfDue = d := by
  unfold quietIfDue
  cases hs : d.fe.station with
  | onLine =>
      obtain ⟨ht, hr⟩ := h hs
      simp [Nat.not_le.mpr ht, Nat.not_le.mpr hr]
  | standby => rfl
  | listen => rfl
  | quiet => rfl

theorem Device.countHeard_good_of_not_onLine {d : Device} (h : d.fe.station ≠ .onLine) : d.countHeard false = d := by
  unfold countHeard
  cases hs : d.fe.station with
  | onLine => exact absurd hs h
  | standby => rfl
  | listen => rfl
  | quiet => rfl

/-- A frame found good is counted in REC alone, which brings no QUIET (R44). -/
theorem Device.countHeard_good {d : Device} (h : d.fe.station = .onLine → d.fe.tecCount < 128 ∧ d.fe.recCount < 128) :
    d.countHeard false = d.onFe (fun f => { f with
      recCount := if f.station = .onLine then f.recCount - 1 else f.recCount }) := by
  by_cases hs : d.fe.station = .onLine
  · obtain ⟨ht, hr⟩ := h hs
    have hbelow : (d.onFe (fun f => { f with recCount := f.recCount - 1 })).quietIfDue
        = d.onFe (fun f => { f with recCount := f.recCount - 1 }) :=
      quietIfDue_of_below fun _ => ⟨ht, show d.fe.recCount - 1 < 128 by omega⟩
    simpa [countHeard, hs, onFe] using hbelow
  · rw [countHeard_good_of_not_onLine hs]
    simp [onFe, hs]

/-! ### Samples (R6, R7) -/

/-- Without a first step pending, a good frame leaves one sample at the clock (R6, R44). -/
theorem Device.frameTaken_of_sample {d : Device} {h : Heard} (hfirst : ¬(d.fe.station = .listen ∧ d.sck.firstStep = true))
    (hlow : d.fe.station = .onLine → d.fe.tecCount < 128 ∧ d.fe.recCount < 128) :
    d.frameTaken h = d.heardFrame h := by
  have hcount : (d.frameHeard h).countHeard false = _ := countHeard_good (d := d.frameHeard h) hlow
  have htake : ((d.frameHeard h).countHeard false).takeTime h.frame =
      ((d.frameHeard h).countHeard false).onSck (Sck.sample d.fe.station h.frame.sender h.frame.stamp) := by
    rw [hcount, takeTime, if_neg]
    · rfl
    · simpa [onFe] using hfirst
  rw [frameTaken, htake, hcount]
  rfl

theorem enterSample_eq (x : Sample) (l : List Sample) : enterSample x l =
    if ∃ y ∈ l, y.sender = x.sender then l.map (fun y => if y.sender = x.sender then x else y)
    else if l.length < 16 then l ++ [x] else l := by
  simp [enterSample, Config.sampleCapacity]
  rfl

/-! ### The first step (R11, R14) -/

theorem Sck.stepFirst_eq (stamp : Stamp) (k : Sck) : k.stepFirst stamp = { k with
    tick := stampTick stamp
    prescaler := (stampFrac stamp).toNat * 16
    terminal := 4095
    corr := 0
    firstStep := false
    periodCount := 0
    samples := []
    periodEndDue := false } := by
  unfold stepFirst restart
  cases hdue : k.periodEndDue with
  | true => simp [slew_of_zero]
  | false => simp

/-- A good frame in LISTEN with the first step pending sets the clock and queues its step (R11, R14). -/
theorem Device.frameTaken_of_firstStep {d : Device} {h : Heard} (hs : d.fe.station = .listen)
    (hfirst : d.sck.firstStep = true) :
    d.frameTaken h = { d with
      sck := { d.sck with
        tick := stampTick h.frame.stamp
        prescaler := (stampFrac h.frame.stamp).toNat * 16
        terminal := 4095
        corr := 0
        firstStep := false
        periodCount := 0
        samples := []
        capture := none
        periodEndDue := false }
      lif := d.heardLine h.toFollowed
      fe := { d.fe with idleCount := 0, drove := [] }
      sp := if (h.frame.stamp - ((d.sck.advance h.elapsed).advance h.lasted).reading).toInt = 0 then d.sp
        else d.sp.queueNotice (stampTick h.frame.stamp) (.clockStep .first
          (h.frame.stamp - ((d.sck.advance h.elapsed).advance h.lasted).reading).toInt) } := by
  have hcount : (d.frameHeard h).countHeard false = d.frameHeard h := by
    simp [countHeard, hs]
  have hdue : (d.frameHeard h).fe.station == .listen && (d.frameHeard h).sck.firstStep := by
    simp [hs, hfirst]
  have hsize : (d.frameHeard h).sck.firstSize h.frame.stamp =
      (h.frame.stamp - ((d.sck.advance h.elapsed).advance h.lasted).reading).toInt := rfl
  rw [frameTaken, hcount, takeTime, if_pos hdue]
  simp only [hsize]
  generalize (h.frame.stamp - ((d.sck.advance h.elapsed).advance h.lasted).reading).toInt = size
  by_cases hz : size = 0
  · simp only [hz, BEq.rfl, if_true, onSck, Sck.stepFirst_eq]
    rfl
  · simp only [beq_eq_false_iff_ne.mpr hz, Bool.false_eq_true, if_false, hz, onSck, Sck.stepFirst_eq]
    rfl

/-! ### O18 and O19 -/

/-- Settles O18: a MARK decides nothing, so it reaches the clock alone. -/
theorem markFrameSamples : Obligations.MarkFrameSamples := by
  intro s h offset x hh hg hfirst hlow hoffset hx
  have hmark : s.dev.receive .mark h noTakerReply = s.dev.heardFrame h := by
    rw [receive_undecided hh hg rfl, frameTaken_of_sample hfirst hlow]
    exact ite_self _
  rw [exec_eq]
  simp only [Instr.effect, State.onDev, hmark]
  subst hx hoffset
  simp only [heardFrame, Sck.sample, enterSample_eq]
  rfl

/-- The row of a kind brings its frame; only an OFFER has a reply field with taker slots. -/
theorem effect_frameCommand (k : Kind) (h : Heard) (rep : OfferReply) :
    (frameCommand k h rep).effect = Device.receive k h (if k = .offer then rep else noTakerReply) := by
  cases k <;> rfl

theorem heardGood.row {h : Heard} {k : Kind} {rep : OfferReply} {b : Body} (hg : heardGood h k rep b) :
    heardGood h k (if k = .offer then rep else noTakerReply) b := by
  obtain ⟨hu, hf, hc, hgap, hlate, hacc, hrep⟩ := hg
  exact ⟨hu, hf, hc, hgap, hlate, hacc, fun hk => by simpa [hk] using hrep hk⟩

/-- A station in LISTEN decides nothing about any frame (R20). -/
theorem Device.undecided_of_listen {d : Device} (k : Kind) (h : Heard) (b : Body) (hs : d.fe.station = .listen) :
    d.undecided k h b := by
  cases b <;> simp [undecided, atBodyEnd, follower, hs, StationState.applies, mayDrive]

/-- Settles O19: a station in LISTEN decides nothing about a frame, whose stamp sets its clock. -/
theorem firstStepFromAnyFrame : Obligations.FirstStepFromAnyFrame := by
  intro s k h rep b size hh hs hfirst hg hsize
  rw [exec_eq, effect_frameCommand]
  simp only [State.onDev, receive_undecided hh hg.row (undecided_of_listen k h b hs), hs, StationState.applies,
    frameTaken_of_firstStep hs hfirst, hsize]
  rfl

end Sys2Proof.Machine
end

section
/-! The queue keeps its MARK entry through every fate of another frame, and the fates of own frames (O15). -/

namespace Sys2Proof.Machine

open Device

/-! ### Only the Service Clock places and withdraws a MARK (R15, R35)

One lemma for each operation the placers' parts of a fate and a deferred press are made of. -/

@[simp] theorem TxEntry.sameKey_mark (x : TxEntry) : x.sameKey .mark = (x == .mark) := by
  cases x <;> rfl

theorem TxEntry.other_and_mark {x : TxEntry} (hx : x ≠ .mark) (y : TxEntry) :
    (!y.sameKey x && y == .mark) = (y == .mark) := by
  cases y <;> cases x <;> simp_all [TxEntry.sameKey]

@[simp] theorem Device.waiting_mark_inFlight (g : InFlight → InFlight) (d : Device) :
    (d.onFe (fun f => { f with inFlight := f.inFlight.map g })).waiting .mark = d.waiting .mark := rfl

@[simp] theorem Device.waiting_mark_ite (c : Prop) [Decidable c] (a b : Device) :
    (if c then a else b).waiting .mark = if c then a.waiting .mark else b.waiting .mark :=
  apply_ite (·.waiting .mark) c a b

@[simp] theorem Device.waiting_mark_foldl {α : Type} (f : Device → α → Device)
    (h : ∀ x a, (f x a).waiting .mark = x.waiting .mark) (l : List α) (d : Device) :
    (l.foldl f d).waiting .mark = d.waiting .mark := foldl_keeps (fun x => x.waiting .mark) f h l d

/-! Changes of a record, of the index or of a queue other than the Link's. -/

@[simp] theorem Device.waiting_mark_onWu (f : Wu → Wu) (d : Device) :
    (d.onWu f).waiting .mark = d.waiting .mark := rfl

@[simp] theorem Device.waiting_mark_onWave (r : Nat) (f : Wave → Wave) (d : Device) :
    (d.onWave r f).waiting .mark = d.waiting .mark := rfl

@[simp] theorem Device.waiting_mark_notify (n : NoticeBody) (d : Device) :
    (d.notify n).waiting .mark = d.waiting .mark := rfl

@[simp] theorem Device.waiting_mark_onBp (f : Bp → Bp) (d : Device) :
    (d.onBp f).waiting .mark = d.waiting .mark := rfl

@[simp] theorem Device.waiting_mark_reorderFire (d : Device) :
    d.reorderFire.waiting .mark = d.waiting .mark := rfl

@[simp] theorem Device.waiting_mark_retime (r : Nat) (d : Device) :
    (d.retime r).waiting .mark = d.waiting .mark := rfl

@[simp] theorem Device.waiting_mark_leaveFire (b : Nat) (d : Device) :
    (d.leaveFire b).waiting .mark = d.waiting .mark := rfl

@[simp] theorem Device.waiting_mark_onBatch (b : Nat) (f : Batch → Batch) (d : Device) :
    (d.onBatch b f).waiting .mark = d.waiting .mark := rfl

@[simp] theorem Device.waiting_mark_onLu (f : Lu → Lu) (d : Device) :
    (d.onLu f).waiting .mark = d.waiting .mark := rfl

@[simp] theorem Device.waiting_mark_onLane (i : Fin 8) (f : Lane → Lane) (d : Device) :
    (d.onLane i f).waiting .mark = d.waiting .mark := rfl

@[simp] theorem Device.waiting_mark_beginCall (i : Fin 8) (b : Nat) (d : Device) :
    (d.beginCall i b).waiting .mark = d.waiting .mark := rfl

@[simp] theorem Device.waiting_mark_callBatch (i : Fin 8) (b : Batch) (d : Device) :
    (d.callBatch i b).waiting .mark = d.waiting .mark := rfl

@[simp] theorem Device.waiting_mark_recompute (d : Device) :
    d.recompute.waiting .mark = d.waiting .mark := rfl

@[simp] theorem Device.waiting_mark_onTi (f : Ti → Ti) (d : Device) :
    (d.onTi f).waiting .mark = d.waiting .mark := rfl

@[simp] theorem Device.waiting_mark_lowerDemand (r : Nat) (c : Byte) (n : Nat) (d : Device) :
    (d.lowerDemand r c n).waiting .mark = d.waiting .mark := rfl

@[simp] theorem Device.waiting_mark_claimSpares (r : Nat) (c : Byte) (d : Device) :
    (d.claimSpares r c).waiting .mark = d.waiting .mark := rfl

@[simp] theorem Device.waiting_mark_fillBatch (r : Nat) (c : Byte) (b : Batch) (d : Device) :
    (d.fillBatch r c b).waiting .mark = d.waiting .mark := rfl

@[simp] theorem Device.waiting_mark_addBatch (b : Batch) (d : Device) :
    (d.addBatch b).waiting .mark = d.waiting .mark := rfl

@[simp] theorem Device.waiting_mark_dropFiled (r : Nat) (d : Device) :
    (d.dropFiled r).waiting .mark = d.waiting .mark := rfl

@[simp] theorem Device.waiting_mark_onIu (f : Iu → Iu) (d : Device) :
    (d.onIu f).waiting .mark = d.waiting .mark := rfl

@[simp] theorem Device.waiting_mark_dropHead (d : Device) :
    d.dropHead.waiting .mark = d.waiting .mark := rfl

@[simp] theorem Device.waiting_mark_onIssue (s : Serial) (f : Issue → Issue) (d : Device) :
    (d.onIssue s f).waiting .mark = d.waiting .mark := rfl

@[simp] theorem Device.waiting_mark_dropIssue (s : Serial) (d : Device) :
    (d.dropIssue s).waiting .mark = d.waiting .mark := rfl

@[simp] theorem Device.waiting_mark_startPress (i : Fin 8) (b : Batch) (d : Device) :
    (d.startPress i b).waiting .mark = d.waiting .mark := rfl

/-! The queue itself, and the announcements, SLIPs and OFFERs an evaluation places (R90, R95, R105, R146). -/

@[simp] theorem Device.waiting_mark_place (x : TxEntry) (d : Device) (hx : x ≠ .mark) :
    (d.place x).waiting .mark = d.waiting .mark := by
  simp [waiting, place, placeEntry, onFe, List.any_filter, TxEntry.other_and_mark hx, hx]

@[simp] theorem Device.waiting_mark_withdraw (x : TxEntry) (d : Device) (hx : x ≠ .mark) :
    (d.withdraw x).waiting .mark = d.waiting .mark := by
  simp [waiting, withdraw, withdrawEntry, onFe, List.any_filter, TxEntry.other_and_mark hx]

@[simp] theorem Device.waiting_mark_applyReady (a : Addr) (st : Tick) (n : Byte) (p : Addr) (off : BitVec 15)
    (far wd : Bool) (d : Device) :
    (d.applyReady a st n p off far wd).waiting .mark = d.waiting .mark := by
  unfold applyReady
  (repeat' split) <;> simp

@[simp] theorem Device.waiting_mark_announce (r : Nat) (d : Device) :
    (d.announce r).waiting .mark = d.waiting .mark := by
  unfold announce
  (repeat' split) <;> simp

@[simp] theorem Device.waiting_mark_readyFate (r : Nat) (f : Frame) (n : Byte) (p : Addr) (off : BitVec 15)
    (far wd : Bool) (x : Fate) (d : Device) :
    (d.readyFate r f n p off far wd x).waiting .mark = d.waiting .mark := by
  unfold readyFate
  (repeat' split) <;> simp

@[simp] theorem Device.waiting_mark_slipNotices (w : Wave) (a : Addr) (t : Tick) (far : Bool) (d : Device) :
    (d.slipNotices w a t far).waiting .mark = d.waiting .mark := by
  unfold slipNotices
  (repeat' split) <;> simp

@[simp] theorem Device.waiting_mark_dispatchLane (i : Fin 8) (d : Device) :
    (d.dispatchLane i).waiting .mark = d.waiting .mark := by
  unfold dispatchLane
  (repeat' split) <;> simp

@[simp] theorem Device.waiting_mark_dispatch (d : Device) :
    d.dispatch.waiting .mark = d.waiting .mark := by
  simp [dispatch]

@[simp] theorem Device.waiting_mark_slipEval (r : Nat) (d : Device) :
    (d.slipEval r).waiting .mark = d.waiting .mark := by
  unfold slipEval
  (repeat' split) <;> simp

@[simp] theorem Device.waiting_mark_markLate (b : Nat) (d : Device) :
    (d.markLate b).waiting .mark = d.waiting .mark := by
  unfold markLate
  (repeat' split) <;> simp

@[simp] theorem Device.waiting_mark_offerEval (d : Device) :
    d.offerEval.waiting .mark = d.waiting .mark := by
  unfold offerEval
  (repeat' split) <;> simp

@[simp] theorem Device.waiting_mark_evaluate (d : Device) :
    d.evaluate.waiting .mark = d.waiting .mark := by
  unfold evaluate
  (repeat' split) <;> simp

@[simp] theorem Device.waiting_mark_applySlip (a : Addr) (st : Tick) (n : Byte) (p : Addr) (off : BitVec 15)
    (far : Bool) (d : Device) :
    (d.applySlip a st n p off far).waiting .mark = d.waiting .mark := by
  unfold applySlip
  (repeat' split) <;> simp

@[simp] theorem Device.waiting_mark_slipFate (r : Nat) (f : Frame) (n : Byte) (p : Addr) (off : BitVec 15)
    (far : Bool) (x : Fate) (d : Device) :
    (d.slipFate r f n p off far x).waiting .mark = d.waiting .mark := by
  unfold slipFate
  (repeat' split) <;> simp

/-! Batches formed and freed, waves retired (R77 to R87, R113). -/

@[simp] theorem Device.waiting_mark_removeBatch (b : Batch) (d : Device) :
    (d.removeBatch b).waiting .mark = d.waiting .mark := by
  unfold removeBatch
  (repeat' split) <;> simp

@[simp] theorem Device.waiting_mark_fillFormed (r : Nat) (c : Byte) (d : Device) :
    (d.fillFormed r c).waiting .mark = d.waiting .mark :=
  waiting_mark_foldl _ (fun x b => waiting_mark_fillBatch r c b x) _ d

@[simp] theorem Device.waiting_mark_joinFire (b : Nat) (d : Device) :
    (d.joinFire b).waiting .mark = d.waiting .mark := by
  unfold joinFire
  (repeat' split) <;> simp

@[simp] theorem Device.waiting_mark_createBatches (r : Nat) (c : Byte) (n : Nat) (d : Device) :
    (d.createBatches r c n).waiting .mark = d.waiting .mark := by
  induction n generalizing d with
  | zero => rfl
  | succ n ih =>
    simp only [createBatches]
    split
    · rfl
    · simp [ih]

@[simp] theorem Device.waiting_mark_formDish (r : Nat) (c : Byte) (d : Device) :
    (d.formDish r c).waiting .mark = d.waiting .mark := by
  simp [formDish]

@[simp] theorem Device.waiting_mark_formLines (w : Wave) (d : Device) :
    (d.formLines w).waiting .mark = d.waiting .mark := by
  simp [formLines]

@[simp] theorem Device.waiting_mark_formationPass (r : Nat) (d : Device) :
    (d.formationPass r).waiting .mark = d.waiting .mark := by
  unfold formationPass
  (repeat' split) <;> simp

@[simp] theorem Device.waiting_mark_formOthers (o : Option Nat) (d : Device) :
    (d.formOthers o).waiting .mark = d.waiting .mark := by
  simp [formOthers]

@[simp] theorem Device.waiting_mark_afterFree (o : Option Nat) (i : Bool) (d : Device) :
    (d.afterFree o i).waiting .mark = d.waiting .mark := by
  unfold afterFree
  (repeat' split) <;> simp

@[simp] theorem Device.waiting_mark_freeBatch (b : Batch) (d : Device) :
    (d.freeBatch b).waiting .mark = d.waiting .mark := by
  simp [freeBatch]

@[simp] theorem Device.waiting_mark_withdrawWave (r : Nat) (d : Device) :
    (d.withdrawWave r).waiting .mark = d.waiting .mark := by
  simp [withdrawWave]

@[simp] theorem Device.waiting_mark_retire (r : Nat) (d : Device) :
    (d.retire r).waiting .mark = d.waiting .mark := by
  simp [retire]

@[simp] theorem Device.waiting_mark_testNoWork (r : Nat) (d : Device) :
    (d.testNoWork r).waiting .mark = d.waiting .mark := by
  unfold testNoWork
  (repeat' split) <;> simp

@[simp] theorem Device.waiting_mark_offererCommit (a : Addr) (b : Batch) (d : Device) :
    (d.offererCommit a b).waiting .mark = d.waiting .mark := by
  simp [offererCommit]

@[simp] theorem Device.waiting_mark_offerFate (b : Nat) (x : Fate) (a : Addr) (d : Device) :
    (d.offerFate b x a).waiting .mark = d.waiting .mark := by
  unfold offerFate
  dsimp only
  (repeat' split) <;> simp

/-! The issue queue (R160, R163 to R166). -/

@[simp] theorem Device.waiting_mark_placeHead (d : Device) :
    d.placeHead.waiting .mark = d.waiting .mark := by
  unfold placeHead
  (repeat' split) <;> simp

@[simp] theorem Device.waiting_mark_issueAccepted (e : IssueEntry) (b : Bool) (d : Device) :
    (d.issueAccepted e b).waiting .mark = d.waiting .mark := by
  unfold issueAccepted
  (repeat' split) <;> simp

@[simp] theorem Device.waiting_mark_issueFails (e : IssueEntry) (d : Device) :
    (d.issueFails e).waiting .mark = d.waiting .mark := by
  unfold issueFails
  dsimp only
  (repeat' split) <;> simp

@[simp] theorem Device.waiting_mark_issueFate (f : Fate) (b s : Bool) (d : Device) :
    (d.issueFate f b s).waiting .mark = d.waiting .mark := by
  unfold issueFate
  (repeat' split) <;> simp

/-! Presses (R129 to R133, R148). -/

@[simp] theorem Device.waiting_mark_takeOff (b : Batch) (d : Device) :
    (d.takeOff b).waiting .mark = d.waiting .mark := by
  unfold takeOff
  (repeat' split) <;> simp

@[simp] theorem Device.waiting_mark_laneDone (i : Fin 8) (d : Device) :
    (d.laneDone i).waiting .mark = d.waiting .mark := by
  unfold laneDone
  (repeat' split) <;> simp

@[simp] theorem Device.waiting_mark_retireIfRunOut (r : Nat) (d : Device) :
    (d.retireIfRunOut r).waiting .mark = d.waiting .mark := by
  unfold retireIfRunOut
  (repeat' split) <;> simp

@[simp] theorem Device.waiting_mark_donePress (i : Fin 8) (b : Batch) (d : Device) :
    (d.donePress i b).waiting .mark = d.waiting .mark := by
  unfold donePress
  (repeat' split) <;> simp

@[simp] theorem Device.waiting_mark_pressAct (i : Fin 8) (d : Device) :
    (d.pressAct i).waiting .mark = d.waiting .mark := by
  unfold pressAct
  (repeat' split) <;> simp

@[simp] theorem Device.waiting_mark_press (i : Fin 8) (d : Device) :
    (d.press i).waiting .mark = d.waiting .mark := by
  unfold press
  (repeat' split) <;> simp

@[simp] theorem Device.waiting_mark_takeDeferred (p : Option (Fin 8)) (d : Device) :
    (d.takeDeferred p).waiting .mark = d.waiting .mark := by
  unfold takeDeferred
  (repeat' split) <;> simp

@[simp] theorem Device.waiting_mark_placerFate (f : InFlight) (x : Fate) (b s : Bool) (a : Addr) (d : Device) :
    (d.placerFate f x b s a).waiting .mark = d.waiting .mark := by
  unfold placerFate
  (repeat' split) <;> simp

/-! ### The FE's part of a fate (R15, R39, R42, R43) -/

/-- What the fate of an own frame leaves at the Frame Engine and the Service Clock, and the setup it does not touch. -/
structure Device.FateCounted (fate : Fate) (d e : Device) : Prop where
  flight   : e.fe.inFlight.isSome = false
  capture  : e.sck.capture = none
  tick     : e.sck.tick = d.sck.tick
  tecCount : e.fe.tecCount = tecAfter fate false d.fe.tecCount
  recCount : e.fe.recCount = d.fe.recCount
  setup    : e.setup = d.setup
  mark     : fate = .accepted → e.sck.markQuiet = 0 ∧ e.waiting .mark = false

/-- What the blocks do afterwards keeps it, where they leave the MARK entry alone. -/
theorem Device.FateCounted.keep {fate : Fate} {d e e' : Device} (h : d.FateCounted fate e) (k : e.Kept e')
    (hw : e'.waiting .mark = e.waiting .mark) : d.FateCounted fate e' where
  flight := k.flight.trans h.flight
  capture := by rw [k.sck, h.capture]
  tick := by rw [k.sck, h.tick]
  tecCount := k.tecCount.trans h.tecCount
  recCount := k.recCount.trans h.recCount
  setup := k.setup.trans h.setup
  mark hf := by rw [k.sck, hw]; exact h.mark hf

theorem Device.waiting_mark_withdraw_mark (d : Device) : (d.withdraw .mark).waiting .mark = false := by
  simp [waiting, withdraw, withdrawEntry, onFe, List.any_filter]

/-- QUIET is entered with the counts as they are; its own withdrawal of the MARK entry is a second one here (R40, R46). -/
theorem Device.FateCounted.enterQuiet {fate : Fate} {d e : Device} (h : d.FateCounted fate e) :
    d.FateCounted fate e.enterQuiet := by
  obtain ⟨n, hn⟩ : ∃ n, e.enterQuiet = ((((((e.notify n).withdrawOffer).withdraw .mark).onFe
      (fun f => { f with station := .quiet, quietCount := 0 })).onSck
      (fun k => { k with markQuiet := 0, markDue := false })).markPartial) := ⟨_, rfl⟩
  have k : e.Kept (((e.notify n).withdrawOffer).withdraw .mark) := by simp
  have hw : ∀ x : Device, x.markPartial.waiting .mark = x.waiting .mark := fun x => rfl
  rw [hn]
  refine .keep (e := (((((e.notify n).withdrawOffer).withdraw .mark).onFe
      (fun f => { f with station := .quiet, quietCount := 0 })).onSck
      (fun k => { k with markQuiet := 0, markDue := false }))) ?_ (markPartial_kept _) (hw _)
  exact {
    flight := k.flight.trans h.flight
    capture := (congrArg Sck.capture k.sck).trans h.capture
    tick := (congrArg Sck.tick k.sck).trans h.tick
    tecCount := k.tecCount.trans h.tecCount
    recCount := k.recCount.trans h.recCount
    setup := k.setup.trans h.setup
    mark := fun _ => ⟨rfl, waiting_mark_withdraw_mark _⟩ }

theorem Device.endOwnFrame_counted (fate : Fate) (agree : Bool) (d : Device) :
    d.FateCounted fate (d.endOwnFrame fate false agree) := by
  have hquiet : ∀ e : Device, d.FateCounted fate e → d.FateCounted fate e.quietIfDue := by
    intro e h
    unfold quietIfDue
    split
    · exact h.enterQuiet
    · exact h
  refine hquiet _ ?_
  cases fate with
  | accepted => exact ⟨rfl, rfl, rfl, rfl, rfl, rfl, fun _ => ⟨rfl, waiting_mark_withdraw_mark _⟩⟩
  | rejected => exact ⟨rfl, rfl, rfl, rfl, rfl, rfl, nofun⟩
  | brokenOff => exact ⟨rfl, rfl, rfl, rfl, rfl, rfl, nofun⟩

theorem Device.reportFate_counted (f : InFlight) (fate : Fate) (short : Bool) (taker : Addr) (agree : Bool) (d : Device) :
    d.FateCounted fate (d.reportFate f fate false short taker agree) :=
  ((endOwnFrame_counted fate agree d).keep (placerFate_kept f fate false short taker _)
    (waiting_mark_placerFate ..)).keep (takeDeferred_kept f.deferred _) (waiting_mark_takeDeferred ..)

/-- What a fate row does before it reports changes neither the clock nor the counts (R32, R42, R48). -/
theorem Device.FateCounted.of_same {fate : Fate} {d d' e : Device} (h : d'.FateCounted fate e) (hs : d'.sck = d.sck)
    (ht : d'.fe.tecCount = d.fe.tecCount) (hr : d'.fe.recCount = d.fe.recCount) (hset : d'.setup = d.setup) :
    d.FateCounted fate e where
  flight := h.flight
  capture := h.capture
  tick := by rw [h.tick, hs]
  tecCount := by rw [h.tecCount, ht]
  recCount := by rw [h.recCount, hr]
  setup := h.setup.trans hset
  mark := h.mark

@[simp] theorem Device.hear_setup (q : Silences) (d : Device) : (d.hear q).setup = d.setup := by
  unfold hear
  split <;> rfl

/-- A fate row ends the frame in flight of its kind by the fate as the sender itself decides it. -/
theorem Device.fateOf_counted {d : Device} {f : InFlight} (fate : Fate) (rep : OfferReply) (short : SlotReading)
    (line : Followed) (hf : d.fe.inFlight = some f) :
    d.FateCounted (f.settles (f.refuses rep short) fate) (d.fateOf f.frame.body.kind fate rep short line) := by
  unfold fateOf
  simp only [hf, BEq.rfl, if_true]
  split
  · refine (reportFate_counted f _ _ _ _ _).of_same ?_ ?_ ?_ ?_ <;> simp only [hear_sck, hear_fe, hear_setup] <;> rfl
  · refine (reportFate_counted f _ _ _ _ _).of_same ?_ ?_ ?_ ?_ <;> simp only [hear_sck, hear_fe, hear_setup] <;> rfl

/-! ### O15 -/

/-- The row of a kind reports its fate; only an OFFER has taker slots and only a TICKET has a SHORT slot. -/
theorem effect_fateCommand (k : Kind) (fate : Fate) (rep : OfferReply) (short : Slot) (line : Followed) :
    (fateCommand k fate rep short line).effect = Device.fateOf k fate (if k = .offer then rep else noTakerReply)
      (if k = .ticket then short.read .shared else .one) line := by
  cases k <;> rfl

/-- The reasons for which a sender rejects its own frame, by its kind (R25, R31, R32). -/
theorem InFlight.refuses_iff (f : InFlight) (rep : OfferReply) (short : SlotReading) : f.refuses rep short = true ↔
    f.frame.body.kind = .offer ∧ (f.rejectReq = true ∨ replyCheckError rep = true ∨ rep.fault = true) ∨
      f.frame.body.kind = .ticket ∧ short = .violation := by
  unfold InFlight.refuses
  cases f.frame.body.kind <;> simp [or_assoc]

theorem InFlight.settles_eq (f : InFlight) (refuses : Bool) (fate : Fate) : f.settles refuses fate =
    if f.gapError = true then .brokenOff else if fate = .accepted ∧ refuses = true then .rejected else fate := by
  cases fate <;> simp [InFlight.settles]

/-- Settles O15: a fate row reports the fate that the sender's own rejects leave. -/
theorem fatesCount : Obligations.FatesCount := by
  intro s k fate rep short line f final hf hk _ hfinal
  have hc := fateOf_counted fate (if k = .offer then rep else noTakerReply)
    (if k = .ticket then short.read .shared else .one) line hf
  have hfate : f.settles (f.refuses (if k = .offer then rep else noTakerReply)
      (if k = .ticket then short.read .shared else .one)) fate = final := by
    simp only [InFlight.settles_eq, InFlight.refuses_iff, hk, hfinal]
    cases k <;> simp
  rw [hfate, hk] at hc
  obtain ⟨hflight, hcapture, htick, htec, hrec, hsetup, hmark⟩ := hc
  obtain ⟨hstrap, hconfig, hmenu, hreply⟩ := setup_eq_iff.mp hsetup
  refine ⟨_, exec_eq _ s, rfl, ?_⟩
  rw [State.onDev, effect_fateCommand]
  refine ⟨by simpa using hflight, hcapture, htick, ?_, hrec, fun h => ?_, hstrap, hconfig, hmenu, hreply⟩
  · rw [htec]
    cases final <;> rfl
  · obtain ⟨hquiet, hwait⟩ := hmark h
    exact ⟨hquiet, (not_waiting_mark_iff _).mp hwait⟩

end Sys2Proof.Machine
end

section
/-! The start-slot choice (O10). -/

namespace Sys2Proof.Machine

open Device

/-! ### Lists in a strict order -/

theorem pairwise_insertBy {α : Type} {lt : α → α → Bool} {x : α} {l : List α}
    (total : ∀ y ∈ l, lt x y = false → lt y x = true)
    (trans : ∀ y ∈ l, ∀ z ∈ l, lt x y = true → lt y z = true → lt x z = true)
    (h : l.Pairwise (fun a b => lt a b = true)) : (insertBy lt x l).Pairwise (fun a b => lt a b = true) := by
  induction l with
  | nil => exact List.pairwise_singleton _ x
  | cons y ys ih =>
      obtain ⟨hy, hys⟩ := List.pairwise_cons.mp h
      unfold insertBy
      split
      · next hxy =>
        refine List.pairwise_cons.mpr ⟨fun z hz => ?_, h⟩
        rcases List.mem_cons.mp hz with rfl | hz'
        · exact hxy
        · exact trans y (by simp) z hz hxy (hy z hz')
      · next hxy =>
        have hyx : lt y x = true := total y (by simp) (Bool.not_eq_true _ ▸ hxy)
        refine List.pairwise_cons.mpr ⟨fun z hz => ?_, ih (fun z hz => total z (by simp [hz]))
          (fun a ha b hb => trans a (by simp [ha]) b (by simp [hb])) hys⟩
        rcases List.mem_cons.mp ((insertBy_perm lt x ys).mem_iff.mp hz) with rfl | hz'
        · exact hyx
        · exact hy z hz'

theorem pairwise_foldl_insertBy {α : Type} {lt : α → α → Bool} {p : α → Prop}
    (total : ∀ x, p x → ∀ y, p y → x ≠ y → lt x y = false → lt y x = true)
    (trans : ∀ x, p x → ∀ y, p y → ∀ z, p z → lt x y = true → lt y z = true → lt x z = true) (l acc : List α)
    (hp : ∀ x ∈ acc ++ l, p x) (hn : (acc ++ l).Nodup) (h : acc.Pairwise (fun a b => lt a b = true)) :
    (l.foldl (fun acc x => insertBy lt x acc) acc).Pairwise (fun a b => lt a b = true) := by
  induction l generalizing acc with
  | nil => exact h
  | cons x l ih =>
      have hperm : (insertBy lt x acc ++ l).Perm (acc ++ x :: l) :=
        ((insertBy_perm lt x acc).append_right l).trans List.perm_middle.symm
      have hx : p x := hp x (by simp)
      have hacc : ∀ y ∈ acc, p y := fun y hy => hp y (by simp [hy])
      have hne : ∀ y ∈ acc, x ≠ y := fun y hy => by
        have hdisj := (List.nodup_append.mp hn).2.2 y hy x (by simp)
        exact hdisj.symm
      exact ih _ (fun y hy => hp y (hperm.mem_iff.mp hy)) (hperm.nodup_iff.mpr hn)
        (pairwise_insertBy (fun y hy => total x hx y (hacc y hy) (hne y hy))
          (fun y hy z hz => trans x hx y (hacc y hy) z (hacc z hz)) h)

/-- A list without repetition, sorted by an order that is total and transitive on its entries, is in that order. -/
theorem pairwise_sortBy {α : Type} {lt : α → α → Bool} {l : List α}
    (total : ∀ x ∈ l, ∀ y ∈ l, x ≠ y → lt x y = false → lt y x = true)
    (trans : ∀ x ∈ l, ∀ y ∈ l, ∀ z ∈ l, lt x y = true → lt y z = true → lt x z = true) (hn : l.Nodup) :
    (sortBy lt l).Pairwise (fun a b => lt a b = true) :=
  pairwise_foldl_insertBy total trans l [] (fun _ h => h) hn .nil

/-- An entry of such a list stands after exactly those that precede it in the order. -/
theorem sortBy_split {α : Type} {lt : α → α → Bool} {l : List α} {e : α} (he : e ∈ l)
    (total : ∀ x ∈ l, ∀ y ∈ l, x ≠ y → (lt x y = true ↔ lt y x = false))
    (trans : ∀ x ∈ l, ∀ y ∈ l, ∀ z ∈ l, lt x y = true → lt y z = true → lt x z = true) (hn : l.Nodup) :
    ∃ pre post, sortBy lt l = pre ++ e :: post ∧ ∀ x, x ∈ pre ↔ x ∈ l ∧ x ≠ e ∧ lt x e = true := by
  have hmem : ∀ x, x ∈ sortBy lt l ↔ x ∈ l := mem_sortBy lt l
  have hsorted : (sortBy lt l).Pairwise (fun a b => lt a b = true) :=
    pairwise_sortBy (fun x hx y hy hne h => (total y hy x hx (Ne.symm hne)).mpr h) trans hn
  have hnodup : (sortBy lt l).Nodup := (sortBy_perm lt l).nodup_iff.mpr hn
  obtain ⟨pre, post, hsplit⟩ := List.append_of_mem ((hmem e).mpr he)
  rw [hsplit] at hmem hsorted hnodup
  obtain ⟨-, hafter, hbefore⟩ := List.pairwise_append.mp hsorted
  refine ⟨pre, post, hsplit, fun x => ⟨fun hx => ⟨(hmem x).mp (by simp [hx]), ?_, hbefore x hx e (by simp)⟩, ?_⟩⟩
  · rintro rfl
    exact (List.nodup_append.mp hnodup).2.2 x hx x (by simp) rfl
  · rintro ⟨hx, hne, hlt⟩
    rcases List.mem_append.mp ((hmem x).mpr hx) with h | h
    · exact h
    · rcases List.mem_cons.mp h with rfl | h
      · exact absurd rfl hne
      · have hex : lt e x = true := (List.pairwise_cons.mp hafter).1 x h
        have hxe := (total e he x hx (Ne.symm hne)).mp hex
        exact absurd hlt (by simp [hxe])

/-! ### The choice (R36) -/

/-- Entries that are withdrawn or held are passed over. -/
theorem Device.choose_append (d : Device) (stamp : Tick) (rest : List TxEntry) {pre : List TxEntry}
    (h : ∀ x ∈ pre, d.fillEntry stamp x = .withdraw ∨ d.fillEntry stamp x = .hold) :
    d.choose stamp (pre ++ rest) = ((d.choose stamp rest).1,
      pre.filter (fun x => decide (d.fillEntry stamp x = .withdraw)) ++ (d.choose stamp rest).2) := by
  induction pre with
  | nil => rfl
  | cons x xs ih =>
      have ih := ih (fun y hy => h y (by simp [hy]))
      rcases h x (by simp) with hx | hx <;> simp [choose, hx, ih]

theorem Device.choose_none {d : Device} {stamp : Tick} {l : List TxEntry}
    (h : ∀ x ∈ l, d.fillEntry stamp x = .withdraw ∨ d.fillEntry stamp x = .hold) :
    d.choose stamp l = (none, l.filter (fun x => decide (d.fillEntry stamp x = .withdraw))) := by
  have hc := d.choose_append stamp [] h
  simpa [choose] using hc

theorem Device.choose_some {d : Device} {stamp : Tick} {pre post : List TxEntry} {e : TxEntry} {b : Body}
    (h : ∀ x ∈ pre, d.fillEntry stamp x = .withdraw ∨ d.fillEntry stamp x = .hold) (he : d.fillEntry stamp e = .fill b) :
    d.choose stamp (pre ++ e :: post) =
      (some (e, b), pre.filter (fun x => decide (d.fillEntry stamp x = .withdraw))) := by
  have hc := d.choose_append stamp (e :: post) h
  simpa [choose, he] using hc

/-! ### Keys (R35) -/

@[simp] theorem TxEntry.sameKey_self (x : TxEntry) : x.sameKey x = true := by
  cases x <;> simp [TxEntry.sameKey]

theorem TxEntry.sameKey_comm (x y : TxEntry) : x.sameKey y = y.sameKey x := by
  cases x <;> cases y <;> simp [TxEntry.sameKey, Bool.beq_comm]

/-- There is one OFFER key. -/
theorem TxEntry.sameKey_offer (x : TxEntry) (k : Nat) : x.sameKey (.offer k) = x.sameKey (.offer 0) := by
  cases x <;> rfl

/-- A queue without the entries whose keys are those of a list. -/
def dropKeys (ws q : List TxEntry) : List TxEntry := q.filter (fun x => ws.all (fun w => !x.sameKey w))

theorem dropKeys_nil (q : List TxEntry) : dropKeys [] q = q := by
  simp [dropKeys]

theorem dropKeys_withdrawEntry (w : TxEntry) (ws q : List TxEntry) :
    dropKeys ws (withdrawEntry w q) = dropKeys (w :: ws) q := by
  simp [dropKeys, withdrawEntry, List.filter_filter, Bool.and_comm]

theorem withdrawEntry_dropKeys (w : TxEntry) (ws q : List TxEntry) :
    withdrawEntry w (dropKeys ws q) = dropKeys (w :: ws) q := by
  simp [dropKeys, withdrawEntry, List.filter_filter]

/-- Where no two entries share a key, the entries of given keys are the given entries. -/
theorem all_other_keys_iff {q ws : List TxEntry} (hq : q.Pairwise (fun a b => a.sameKey b = false))
    (hws : ∀ w ∈ ws, w ∈ q) {x : TxEntry} (hx : x ∈ q) : (ws.all fun w => !x.sameKey w) = true ↔ x ∉ ws := by
  have hsymm : Std.Symm (fun a b : TxEntry => a.sameKey b = false) := ⟨fun a b h => (TxEntry.sameKey_comm b a).trans h⟩
  have hkey : ∀ w ∈ q, x ≠ w → x.sameKey w = false := fun w hw hne =>
    hq.forall hx hw hne
  constructor
  · intro h hmem
    simpa using List.all_eq_true.mp h x hmem
  · intro h
    refine List.all_eq_true.mpr fun w hw => ?_
    simp [hkey w (hws w hw) (fun heq => h (heq ▸ hw))]

theorem mem_dropKeys {q ws : List TxEntry} (hq : q.Pairwise (fun a b => a.sameKey b = false)) (hws : ∀ w ∈ ws, w ∈ q)
    {x : TxEntry} (hx : x ∈ q) : x ∈ dropKeys ws q ↔ x ∉ ws := by
  rw [dropKeys, List.mem_filter, all_other_keys_iff hq hws hx]
  simp [hx]

theorem dropKeys_eq_filter {q ws : List TxEntry} {p : TxEntry → Bool} (hq : q.Pairwise (fun a b => a.sameKey b = false))
    (hws : ∀ w ∈ ws, w ∈ q) (hp : ∀ x ∈ q, x ∉ ws ↔ p x = true) : dropKeys ws q = q.filter p :=
  List.filter_congr fun x hx => Bool.eq_iff_iff.mpr ((all_other_keys_iff hq hws hx).trans (hp x hx))

/-! ### What the choice changes: the queue, and the Batch Planner's marker of an OFFER (R36, R147) -/

/-- The part with its queue replaced, and its Batch Planner. -/
def Device.requeued (bp : Bp) (q : List TxEntry) (d : Device) : Device :=
  { d with bp := bp, fe := { d.fe with txq := q } }

theorem Device.foldl_bp (f : Device → TxEntry → Device) (hf : ∀ x e, ∃ bp, f x e = { x with bp := bp })
    (l : List TxEntry) (d : Device) : ∃ bp, l.foldl f d = { d with bp := bp } := by
  induction l generalizing d with
  | nil => exact ⟨d.bp, rfl⟩
  | cons e l ih =>
      obtain ⟨bp, h⟩ := hf d e
      obtain ⟨bp', h'⟩ := ih { d with bp := bp }
      exact ⟨bp', by rw [List.foldl_cons, h, h']⟩

theorem Device.withdraw_foldl_bp (f : Device → TxEntry → Device) (hf : ∀ x e, ∃ bp, f x e = { x with bp := bp })
    (l : List TxEntry) (e : TxEntry) (d : Device) :
    ∃ bp, (l.foldl f d).withdraw e = d.requeued bp (withdrawEntry e d.fe.txq) :=
  (foldl_bp f hf l d).imp fun _ h => congrArg (withdraw e) h

theorem Device.withdrawOffer_eq (d : Device) :
    ∃ bp, d.withdrawOffer = d.requeued bp (withdrawEntry (.offer 0) d.fe.txq) := by
  unfold withdrawOffer
  exact withdraw_foldl_bp _ (fun x e => by cases e <;> exact ⟨_, rfl⟩) _ _ d

theorem Device.dropAsked_cons (w : TxEntry) (ws : List TxEntry) (d : Device) :
    ∃ bp, d.dropAsked (w :: ws) = (d.requeued bp (withdrawEntry w d.fe.txq)).dropAsked ws ∧
      (w.sameKey (.offer 0) = false → bp = d.bp) := by
  cases w with
  | offer k =>
      obtain ⟨bp, h⟩ := d.withdrawOffer_eq
      have hkey : withdrawEntry (.offer k) d.fe.txq = withdrawEntry (.offer 0) d.fe.txq := by
        simp only [withdrawEntry, TxEntry.sameKey_offer _ k]
      exact ⟨bp, by rw [hkey, ← h]; rfl, nofun⟩
  | ready r => exact ⟨d.bp, rfl, fun _ => rfl⟩
  | slip r => exact ⟨d.bp, rfl, fun _ => rfl⟩
  | mark => exact ⟨d.bp, rfl, fun _ => rfl⟩
  | issue => exact ⟨d.bp, rfl, fun _ => rfl⟩

theorem Device.dropAsked_eq (ws : List TxEntry) (d : Device) :
    ∃ bp, d.dropAsked ws = d.requeued bp (dropKeys ws d.fe.txq) ∧
      ((∀ w ∈ ws, w.sameKey (.offer 0) = false) → bp = d.bp) := by
  induction ws generalizing d with
  | nil => exact ⟨d.bp, by rw [dropKeys_nil]; rfl, fun _ => rfl⟩
  | cons w ws ih =>
      obtain ⟨bp, hcons, hbp⟩ := d.dropAsked_cons w ws
      obtain ⟨bp', hws, hbp'⟩ := ih (d.requeued bp (withdrawEntry w d.fe.txq))
      refine ⟨bp', ?_, fun h => (hbp' fun x hx => h x (by simp [hx])).trans (hbp (h w (by simp)))⟩
      rw [hcons, hws, ← dropKeys_withdrawEntry]
      rfl

/-- A queue an OFFER evaluation leaves: the same, or with an OFFER placed (R146). -/
def OfferedQueue (q q' : List TxEntry) : Prop := q' = q ∨ ∃ k, q' = placeEntry (.offer k) q

theorem mem_offeredQueue {q q' : List TxEntry} (h : OfferedQueue q q') {x : TxEntry} (hx : x.sameKey (.offer 0) = false) :
    x ∈ q' ↔ x ∈ q := by
  rcases h with rfl | ⟨k, rfl⟩
  · rfl
  · have hne : x ≠ .offer k := by rintro rfl; simp [TxEntry.sameKey] at hx
    simp [placeEntry, TxEntry.sameKey_offer _ k, hx, hne]

theorem mem_or_offer_of_offeredQueue {q q' : List TxEntry} (h : OfferedQueue q q') {x : TxEntry} (hx : x ∈ q') :
    x ∈ q ∨ x.sameKey (.offer 0) = true := by
  by_cases hk : x.sameKey (.offer 0) = true
  · exact .inr hk
  · exact .inl ((mem_offeredQueue h (Bool.not_eq_true _ ▸ hk)).mp hx)

theorem Device.offerEval_eq (d : Device) : ∃ bp q, d.offerEval = d.requeued bp q ∧ OfferedQueue d.fe.txq q ∧
    (d.flying (.offer 0) = true → q = d.fe.txq) := by
  have hsame : d = d.requeued d.bp d.fe.txq := rfl
  unfold offerEval
  split
  · next h =>
    cases d.topCandidate with
    | none => exact ⟨_, _, hsame, .inl rfl, fun _ => rfl⟩
    | some b => exact ⟨_, _, rfl, .inr ⟨b.bid, rfl⟩, fun hf => by simp [hf] at h⟩
  · exact ⟨_, _, hsame, .inl rfl, fun _ => rfl⟩

/-! ### CONTEND (R26, R36) -/

/-- The queue that CONTEND leaves before an OFFER evaluation: without the entries withdrawn, and then without the one
filled. Where no OFFER is withdrawn there is no evaluation (R36, R146). -/
structure Device.Contended (d : Device) (gone asked : List TxEntry) (bp : Bp) (q : List TxEntry) : Prop where
  queue : OfferedQueue (dropKeys gone d.fe.txq) q
  quiet : (∀ w ∈ asked, w.sameKey (.offer 0) = false) → bp = d.bp ∧ q = dropKeys gone d.fe.txq

theorem any_offer_eq_false {ws : List TxEntry} (h : ∀ w ∈ ws, w.sameKey (.offer 0) = false) :
    ws.any (fun e => e.sameKey (.offer 0)) = false := by
  simpa using h

/-- Where no entry is filled, those withdrawn leave the queue and no frame begins. -/
theorem Device.contend_none {s d : Device} {start : OwnStart} {ws : List TxEntry} (hd : s.untilStart start.toWait = d)
    (hm : d.mayContend = true)
    (hc : d.choose (stampTick d.sck.reading) (sortBy d.chosenBefore d.fe.txq) = (none, ws)) :
    ∃ bp q, s.contend start = d.requeued bp q ∧ d.Contended ws ws bp q := by
  obtain ⟨bp, hdrop, hbp⟩ := d.dropAsked_eq ws
  obtain ⟨bp', q, heval, hq, -⟩ := (d.requeued bp (dropKeys ws d.fe.txq)).offerEval_eq
  have hcontend : s.contend start = if ws.any (fun e => e.sameKey (.offer 0))
      then d.requeued bp' q else d.requeued bp (dropKeys ws d.fe.txq) := by
    unfold contend
    simp only [hd, hm, hc, hdrop, heval]
    rfl
  cases hany : ws.any (fun e => e.sameKey (.offer 0)) with
  | true =>
      refine ⟨bp', q, by rw [hcontend, hany]; rfl, hq, fun h => ?_⟩
      exact absurd hany (by simp [any_offer_eq_false h])
  | false => exact ⟨bp, _, by rw [hcontend, hany]; rfl, .inl rfl, fun h => ⟨hbp h, rfl⟩⟩

/-- What CONTEND leaves when a placer has filled an entry: its frame in flight at its start slot (R5, R19, R26, R48). -/
def Device.began (e : TxEntry) (b : Body) (start : OwnStart) (bp : Bp) (q : List TxEntry) (d : Device) : Device :=
  { d with
    sck := { d.sck with capture := some d.sck.reading }
    lif := d.lif.hear start.toSilences
    bp := bp
    fe := { d.fe with
      idleCount := 0
      drove := d.fe.drove ++ [⟨.startSlot, d.lif.mode.wires⟩]
      txq := q
      inFlight := some
        { entry := e
          frame := { sender := d.strap.addr, cls := d.strap.cls, stamp := d.sck.reading, body := b }
          gapError := false
          rejectReq := false
          deferred := none } } }

/-- Where an entry is filled, it and those withdrawn before it leave the queue, and its frame begins. While it is an OFFER
no other is placed (R146). -/
theorem Device.contend_began {s d : Device} {start : OwnStart} {ws : List TxEntry} {e : TxEntry} {b : Body}
    (hd : s.untilStart start.toWait = d) (hm : d.mayContend = true) (hs : d.fe.station = .onLine)
    (hc : d.choose (stampTick d.sck.reading) (sortBy d.chosenBefore d.fe.txq) = (some (e, b), ws)) :
    ∃ bp q, s.contend start = d.began e b start bp q ∧ d.Contended (e :: ws) ws bp q ∧
      (e.sameKey (.offer 0) = true → q = dropKeys (e :: ws) d.fe.txq) := by
  obtain ⟨bp, hdrop, hbp⟩ := d.dropAsked_eq ws
  have hbegin : ((d.requeued bp (dropKeys ws d.fe.txq)).beginFrame d.sck.reading e b).hear start.toSilences =
      d.began e b start bp (dropKeys (e :: ws) d.fe.txq) := by
    rw [hear, if_neg (by simp [beginFrame, requeued, hs, withdraw, drive, edge, onFe, onSck]), ← withdrawEntry_dropKeys]
    rfl
  obtain ⟨bp', q, heval, hq, hfly⟩ := (d.began e b start bp (dropKeys (e :: ws) d.fe.txq)).offerEval_eq
  have hcontend : s.contend start = if ws.any (fun e => e.sameKey (.offer 0))
      then d.began e b start bp' q else d.began e b start bp (dropKeys (e :: ws) d.fe.txq) := by
    unfold contend
    simp only [hd, hm, hc, hdrop, hbegin, heval]
    rfl
  cases hany : ws.any (fun e => e.sameKey (.offer 0)) with
  | true =>
      refine ⟨bp', q, by rw [hcontend, hany]; rfl, ⟨hq, fun h => ?_⟩, hfly⟩
      exact absurd hany (by simp [any_offer_eq_false h])
  | false => exact ⟨bp, _, by rw [hcontend, hany]; rfl, ⟨.inl rfl, fun h => ⟨hbp h, rfl⟩⟩, fun _ => rfl⟩

/-! ### The order of choice (R36) -/

theorem idBefore_iff (a b : WaveId) : idBefore a b = true ↔
    a.pass.toNat < b.pass.toNat ∨ a.pass = b.pass ∧ a.num.toNat < b.num.toNat := by
  simp [idBefore]

theorem waveBefore_iff (time : Wave → Tick) (v w : Wave) : waveBefore time (some v) (some w) = true ↔
    before (time v) (time w) = true ∨ time v = time w ∧
      (v.noticeId.pass.toNat < w.noticeId.pass.toNat ∨
        v.noticeId.pass = w.noticeId.pass ∧ v.noticeId.num.toNat < w.noticeId.num.toNat) := by
  simp [waveBefore, idBefore_iff]

/-- A lower kind goes first, whatever the waves. -/
theorem Device.chosenBefore_of_kind {d : Device} {a b : TxEntry} (h : d.entryKind a < d.entryKind b) :
    d.chosenBefore a b = true ∧ d.chosenBefore b a = false := by
  have hab : d.chosenBefore a b = true := by simp [chosenBefore, h]
  have hba : ¬d.entryKind b < d.entryKind a := by omega
  refine ⟨hab, ?_⟩
  cases a <;> cases b <;> simp [chosenBefore, hba] <;> exact absurd h (by simp [entryKind])

theorem Device.chosenBefore_ready (d : Device) (x y : Nat) : d.chosenBefore (.ready x) (.ready y) =
    waveBefore (fun w => w.close.getD 0) (d.wave? x) (d.wave? y) := by
  simp [chosenBefore, entryKind]

theorem Device.chosenBefore_slip (d : Device) (x y : Nat) : d.chosenBefore (.slip x) (.slip y) =
    waveBefore (fun w => w.go.getD 0) (d.wave? x) (d.wave? y) := by
  simp [chosenBefore, entryKind]

/-! ### O10 -/

/-- The part as the start slot finds it, at a station that may contend (R19, R26). -/
def Device.atStart (start : OwnStart) (d : Device) : Device :=
  { d with
    sck := d.sck.advance start.elapsed
    lif := d.lif.passSlots start.slots
    fe := { d.fe with idleCount := 11, drove := [] } }

/-- ON_LINE, no frame in hand, the idle count at 11 by the start slot, an entry queued (R26). -/
structure Device.Contends (start : OwnStart) (d : Device) : Prop where
  onLine   : d.fe.station = .onLine
  notDown  : d.lif.mode ≠ .down
  inFlight : d.fe.inFlight = none
  rx       : d.fe.rx = none
  settled  : d.returnDue = false
  idle     : 11 ≤ d.fe.idleCount + start.slots
  passing  : start.elapsed = 0 ∨ d.sck.atBoundary = false
  queued   : d.fe.txq ≠ []

theorem Device.Contends.untilStart {start : OwnStart} {d : Device} (h : d.Contends start) :
    d.untilStart start.toWait = d.atStart start := by
  have hidle : min 11 (d.fe.idleCount + start.slots) = 11 := by have := h.idle; omega
  rw [untilStart_eq start.toWait (by simp [h.onLine]) h.notDown h.rx h.inFlight h.settled h.passing, hidle]
  rfl

theorem Device.Contends.mayContend {start : OwnStart} {d : Device} (h : d.Contends start) :
    (d.atStart start).mayContend = true := by
  have hwires : (d.atStart start).lif.mode.wires.isEmpty = false := by
    have hmode : (d.atStart start).lif.mode = d.lif.mode := rfl
    rw [hmode]
    have hdown := h.notDown
    cases hm : d.lif.mode <;> simp_all [LineMode.wires]
  have hqueue : d.fe.txq.isEmpty = false := by simpa using h.queued
  have hdrive : (d.atStart start).mayDrive .onLine = true := by
    rw [mayDrive, hwires]
    simp [atStart, h.onLine]
  rw [Device.mayContend, hdrive]
  simp [frameInHand, atStart, h.inFlight, h.rx, hqueue]

theorem not_sameKey_nodup {q : List TxEntry} (hq : q.Pairwise (fun a b => a.sameKey b = false)) : q.Nodup :=
  hq.imp fun {a b} h => by rintro rfl; simp at h

/-- In a queue that the order of choice puts in one order, `e` is the first entry that its placer fills (R36). -/
structure Device.FirstFilled (d : Device) (q : List TxEntry) (e : TxEntry) (b : Body) : Prop where
  mem   : e ∈ q
  fill  : d.fillEntry (stampTick d.sck.reading) e = .fill b
  total : ∀ x ∈ q, ∀ y ∈ q, x ≠ y → (d.chosenBefore x y = true ↔ d.chosenBefore y x = false)
  trans : ∀ x ∈ q, ∀ y ∈ q, ∀ z ∈ q,
    d.chosenBefore x y = true → d.chosenBefore y z = true → d.chosenBefore x z = true
  pass  : ∀ x ∈ q, x ≠ e → d.chosenBefore x e = true →
    d.fillEntry (stampTick d.sck.reading) x = .withdraw ∨ d.fillEntry (stampTick d.sck.reading) x = .hold

section
variable {s d : Device} {start : OwnStart} (h : s.Contends start) (hd : d = s.atStart start)
  (hq : s.fe.txq.Pairwise (fun a b => a.sameKey b = false))
include h hd hq

/-- The entries asked before the one filled are those in front of it in the order of choice. -/
theorem Device.contend_fills {e : TxEntry} {b : Body} (hfirst : d.FirstFilled s.fe.txq e b) :
    ∃ ws bp q, (∀ x, x ∈ ws ↔ x ∈ s.fe.txq ∧ x ≠ e ∧ d.chosenBefore x e = true ∧
        d.fillEntry (stampTick d.sck.reading) x = .withdraw) ∧
      s.contend start = d.began e b start bp q ∧ d.Contended (e :: ws) ws bp q ∧
      (e.sameKey (.offer 0) = true → q = dropKeys (e :: ws) d.fe.txq) := by
  have htxq : d.fe.txq = s.fe.txq := by rw [hd]; rfl
  obtain ⟨pre, post, hsort, hpre⟩ := sortBy_split hfirst.mem hfirst.total hfirst.trans (not_sameKey_nodup hq)
  have hchoose : d.choose (stampTick d.sck.reading) (sortBy d.chosenBefore d.fe.txq) = (some (e, b),
      pre.filter (fun x => decide (d.fillEntry (stampTick d.sck.reading) x = .withdraw))) := by
    rw [htxq, hsort]
    refine choose_some (fun x hx => ?_) hfirst.fill
    obtain ⟨hmem, hne, hbefore⟩ := (hpre x).mp hx
    exact hfirst.pass x hmem hne hbefore
  obtain ⟨bp, q, hcontend, hleft, hoffer⟩ := contend_began (by rw [h.untilStart, hd]) (by rw [hd]; exact h.mayContend)
    (by rw [hd]; exact h.onLine) hchoose
  refine ⟨_, bp, q, fun x => ?_, hcontend, hleft, hoffer⟩
  simp [hpre, and_assoc]

/-- The queue after the choice: the entry filled has left it, and with it those withdrawn (R36, R146). -/
theorem Device.contend_queue {e : TxEntry} {b : Body} (hfirst : d.FirstFilled s.fe.txq e b) :
    ∃ bp q, s.contend start = d.began e b start bp q ∧ e ∉ q ∧
      (∀ x ∈ s.fe.txq, x ≠ e → x.sameKey (.offer 0) = false →
        (x ∈ q ↔ ¬(d.chosenBefore x e = true ∧ d.fillEntry (stampTick d.sck.reading) x = .withdraw))) ∧
      (∀ x ∈ q, x ∈ s.fe.txq ∨ x.sameKey (.offer 0) = true) ∧
      ((∀ x ∈ s.fe.txq, x.sameKey (.offer 0) = true → d.chosenBefore x e = true →
          d.fillEntry (stampTick d.sck.reading) x = .hold) →
        bp = s.bp ∧ q = s.fe.txq.filter (fun x => decide (x ≠ e) &&
          !(d.chosenBefore x e && decide (d.fillEntry (stampTick d.sck.reading) x = .withdraw)))) := by
  have htxq : d.fe.txq = s.fe.txq := by rw [hd]; rfl
  have hbp : d.bp = s.bp := by rw [hd]; rfl
  obtain ⟨ws, bp, q, hws, hcontend, ⟨hqueue, hquiet⟩, hoffer⟩ := contend_fills h hd hq hfirst
  rw [htxq] at hqueue hquiet hoffer
  have hmem : ∀ w ∈ e :: ws, w ∈ s.fe.txq := by simp +contextual [hfirst.mem, hws]
  have hleft : ∀ x ∈ s.fe.txq, x ∉ e :: ws ↔ x ≠ e ∧
      ¬(d.chosenBefore x e = true ∧ d.fillEntry (stampTick d.sck.reading) x = .withdraw) := by
    simp +contextual [hws]
  have hgone := fun x hx => (mem_dropKeys hq hmem (x := x) hx).trans (hleft x hx)
  refine ⟨bp, q, hcontend, fun hin => ?_, fun x hx hne hk => ?_, fun x hx => ?_, fun hh => ?_⟩
  · have hin' : e ∈ dropKeys (e :: ws) s.fe.txq := by
      cases hk : e.sameKey (.offer 0) with
      | true => rwa [← hoffer hk]
      | false => exact (mem_offeredQueue hqueue hk).mp hin
    exact ((hgone e hfirst.mem).mp hin').1 rfl
  · exact (mem_offeredQueue hqueue hk).trans ((hgone x hx).trans (and_iff_right hne))
  · exact (mem_or_offer_of_offeredQueue hqueue hx).imp_left fun h => (List.mem_filter.mp h).1
  · obtain ⟨hbp', hq'⟩ := hquiet fun w hw => by
      obtain ⟨hwq, -, hbefore, hwith⟩ := (hws w).mp hw
      by_contra hk
      have hhold := hh w hwq (Bool.not_eq_false _ ▸ hk) hbefore
      simp [hwith] at hhold
    refine ⟨hbp'.trans hbp, hq'.trans (dropKeys_eq_filter hq hmem fun x hx => (hleft x hx).trans ?_)⟩
    simp only [ne_eq, Bool.and_eq_true, decide_eq_true_eq, Bool.not_eq_true', ← Bool.not_eq_true]

/-- Where every entry is withdrawn or held, those held stay and no frame begins (R36, R146). -/
theorem Device.contend_passes (hall : ∀ x ∈ s.fe.txq, d.fillEntry (stampTick d.sck.reading) x = .withdraw ∨
      d.fillEntry (stampTick d.sck.reading) x = .hold) :
    ∃ bp q, s.contend start = d.requeued bp q ∧ ∀ x ∈ s.fe.txq, x.sameKey (.offer 0) = false →
      (x ∈ q ↔ d.fillEntry (stampTick d.sck.reading) x = .hold) := by
  have htxq : d.fe.txq = s.fe.txq := by rw [hd]; rfl
  have hchoose := choose_none (d := d) (stamp := stampTick d.sck.reading) (l := sortBy d.chosenBefore d.fe.txq)
    (fun x hx => hall x (htxq ▸ (mem_sortBy _ _ x).mp hx))
  obtain ⟨bp, q, hcontend, hqueue, -⟩ := contend_none (by rw [h.untilStart, hd]) (by rw [hd]; exact h.mayContend) hchoose
  rw [htxq] at hqueue
  refine ⟨bp, q, hcontend, fun x hx hk => ?_⟩
  refine (mem_offeredQueue hqueue hk).trans ((mem_dropKeys hq (fun w hw => ?_) hx).trans ?_)
  · exact (mem_sortBy _ _ w).mp (List.mem_filter.mp hw).1
  · rcases hall x hx with h | h <;> simp [h, hx]

end

/-- Settles O10. -/
theorem contendBeginsFrame : Obligations.ContendBeginsFrame := by
  refine ⟨fun s start d r ask hs hm hf hx hr hi hb hne hq hd hstamp hask => ?_, fun d x y v w hv hw => ?_⟩
  · have hcan : s.dev.Contends start := ⟨hs, hm, hf, hx, hr, hi, hb, hne⟩
    have heffect : (Instr.contend start).effect = Device.contend start := rfl
    subst hstamp hask
    refine ⟨fun e b he hfill total trans hpass => ?_, fun hall => ?_⟩
    · obtain ⟨bp, q, hcontend, hfilled, hkept, hnew, hexact⟩ := contend_queue hcan hd hq
        ⟨he, hfill, total, trans, hpass⟩
      refine ⟨_, exec_eq _ s, rfl, ?_⟩
      rw [State.onDev, heffect, hcontend]
      subst hd
      refine ⟨rfl, rfl, rfl, rfl, rfl, rfl, rfl, rfl, rfl, rfl, rfl, hfilled, hkept, hnew, fun hh => ?_⟩
      obtain ⟨hbp, hfilter⟩ := hexact hh
      rw [← hfilter]
      exact ⟨hbp, rfl⟩
    · obtain ⟨bp, q, hcontend, hheld⟩ := contend_passes hcan hd hq hall
      refine ⟨_, exec_eq _ s, rfl, ?_⟩
      rw [State.onDev, heffect, hcontend]
      subst hd
      exact ⟨rfl, rfl, hf, rfl, rfl, hheld⟩
  · refine ⟨rfl, rfl, rfl, rfl, fun e he => ?_, fun a b => chosenBefore_of_kind, ?_, ?_⟩
    · cases hk : e.kind <;> simp [entryKind, he, hk, IssueKind.kind, Kind.code]
    · rw [chosenBefore_ready, hv, hw]
      exact waveBefore_iff _ v w
    · rw [chosenBefore_slip, hv, hw]
      exact waveBefore_iff _ v w

end Sys2Proof.Machine
end

section
/-! What drives the Link (O58): the passing of time drives nothing, and what drives does so ON_LINE on the wires of the mode. -/

namespace Sys2Proof.Machine

open Device

/-! ### Rows that leave the line alone -/

/-- What every row but those of the Link, the clock and the setup leaves alone: the clock, the line, and the Frame Engine's
state, its counts, what it receives and drives, and whether a frame is in flight. -/
structure Device.LineKept (d e : Device) : Prop where
  sck         : e.sck = d.sck
  lif         : e.lif = d.lif
  station     : e.fe.station = d.fe.station
  tecCount    : e.fe.tecCount = d.fe.tecCount
  recCount    : e.fe.recCount = d.fe.recCount
  idleCount   : e.fe.idleCount = d.fe.idleCount
  drove       : e.fe.drove = d.fe.drove
  rx          : e.fe.rx = d.fe.rx
  flight      : e.fe.inFlight.isSome = d.fe.inFlight.isSome

theorem Device.LineKept.ofKept {d e : Device} (h : d.Kept e) : d.LineKept e :=
  ⟨h.sck, h.lif, h.station, h.tecCount, h.recCount, h.idleCount, h.drove, h.rx, h.flight⟩

theorem Device.LineKept.refl (d : Device) : d.LineKept d := .ofKept (.refl d)

theorem Device.LineKept.answered {d e : Device} (h : d.Kept e) (st : Status) (l : List Byte) :
    d.LineKept (e.answer st l) :=
  ⟨h.sck, h.lif, h.station, h.tecCount, h.recCount, h.idleCount, h.drove, h.rx, h.flight⟩

theorem Device.LineKept.answer (st : Status) (l : List Byte) (d : Device) : d.LineKept (d.answer st l) :=
  .answered (.refl d) st l

theorem Device.LineKept.ite {c : Prop} [Decidable c] {d x y : Device} (hx : d.LineKept x) (hy : d.LineKept y) :
    d.LineKept (if c then x else y) := by
  split
  · exact hx
  · exact hy

/-- The setup and the notices changed alone. -/
theorem Device.LineKept.onSp (f : Sp → Sp) (st : Status) (l : List Byte) (d : Device) :
    d.LineKept ((d.onSp f).answer st l) := ⟨rfl, rfl, rfl, rfl, rfl, rfl, rfl, rfl, rfl⟩

theorem Device.loadDish_lineKept (p : List Byte) (d : Device) : d.LineKept (d.loadDish p) := by
  unfold loadDish
  (repeat' split) <;> first | exact .answer _ _ d | exact .onSp _ _ _ d

theorem Device.clearMenu_lineKept (p : List Byte) (d : Device) : d.LineKept (d.clearMenu p) := by
  unfold clearMenu
  (repeat' split) <;> first | exact .answer _ _ d | exact .onSp _ _ _ d

theorem Device.silence_lineKept (p : List Byte) (d : Device) : d.LineKept (d.silence p) :=
  .ite (.answer _ _ d) (.answered (onLu_kept _ d) _ _)

theorem Device.ringBell_lineKept (p : List Byte) (d : Device) : d.LineKept (d.ringBell p) :=
  .ite (.answer _ _ d) (.answered (onLu_kept _ d) _ _)

theorem Device.openWave_lineKept (p : List Byte) (d : Device) : d.LineKept (d.openWave p) := by
  unfold openWave
  dsimp only
  (repeat' split) <;> first | exact .answer _ _ d | exact .answered (addWave_kept _ d) _ _

theorem Device.issueTicket_lineKept (p : List Byte) (d : Device) : d.LineKept (d.issueTicket p) := by
  unfold issueTicket
  dsimp only
  (repeat' split) <;>
    first | exact .answer _ _ d | exact .answered ((onTi_kept _ d).trans (appendIssue_kept _ _)) _ _

theorem Device.voidTicket_lineKept (p : List Byte) (d : Device) : d.LineKept (d.voidTicket p) := by
  unfold voidTicket
  refine .ite (.answer _ _ d) (.ite (.answer _ _ d) ?_)
  split
  · exact .answer _ _ d
  · refine .ite (.answer _ _ d) ?_
    split
    · exact .answer _ _ d
    · refine .ite (.answer _ _ d) (.ite (.answered (recallTicket_kept _ d) _ _) (.ite (.answer _ _ d) ?_))
      exact .answered ((onIssue_kept _ _ d).trans (appendIssue_kept _ _)) _ _

theorem Device.sendPickup_lineKept (p : List Byte) (d : Device) : d.LineKept (d.sendPickup p) := by
  unfold sendPickup
  dsimp only
  (repeat' split) <;>
    first | exact .answer _ _ d | exact .answered ((onWave_kept _ _ d).trans (appendIssue_kept _ _)) _ _

theorem Device.answerPlace_lineKept {α : Type} (l : List α) (i : Nat) (f : Nat → α → List Byte) (d : Device) :
    d.LineKept (d.answerPlace l i f) := by
  unfold answerPlace
  split <;> exact .answer _ _ d

theorem Device.readWave_lineKept (p : List Byte) (d : Device) : d.LineKept (d.readWave p) := by
  unfold readWave
  dsimp only
  (repeat' split) <;> first | exact .answer _ _ d | exact answerPlace_lineKept _ _ _ d

theorem Device.readTicket_lineKept (p : List Byte) (d : Device) : d.LineKept (d.readTicket p) := by
  unfold readTicket
  dsimp only
  (repeat' split) <;> first | exact .answer _ _ d | exact answerPlace_lineKept _ _ _ d

theorem Device.readBatch_lineKept (p : List Byte) (d : Device) : d.LineKept (d.readBatch p) := by
  unfold readBatch
  dsimp only
  (repeat' split) <;> first | exact .answer _ _ d | exact answerPlace_lineKept _ _ _ d

theorem Device.readLane_lineKept (p : List Byte) (d : Device) : d.LineKept (d.readLane p) := by
  unfold readLane
  (repeat' split) <;> exact .answer _ _ d

theorem Device.readNotice_lineKept (p : List Byte) (d : Device) : d.LineKept (d.readNotice p) := by
  unfold readNotice
  (repeat' split) <;> first | exact .answer _ _ d | exact .onSp _ _ _ d

theorem Device.onNamed_kept (pass : Addr) (num : Byte) (f : Nat → Device → Device)
    (h : ∀ r (d : Device), d.Kept (f r d)) (d : Device) : d.Kept (d.onNamed pass num f) := by
  unfold onNamed
  split
  · exact h _ d
  · exact .refl d

end Sys2Proof.Machine

namespace Sys2Proof

open Machine Machine.Device

/-- The rows that leave the line alone: those of the waves, the batches, the lanes and the station port, but for
READ_STATION, CONFIGURE, JOIN and LEAVE. -/
def Instr.offLine : Instr → Bool
  | .waveClose .. | .waveSettle .. | .waveAbandon .. | .passWaveAbandon .. | .batchReleased _ | .batchBehind _
  | .offerRetryDue _ | .slipCutoff .. | .holdExpiry _ | .turnCompare _ | .turnFlashEnd _ | .dueCompare _
  | .callOverdue _ | .dueOverdue _ | .buttonPress .. | .loadDish _ | .clearMenu _ | .silence _ | .ring _
  | .openWave _ | .issueTicket _ | .voidTicket _ | .sendPickup _ | .readWave _ | .readTicket _ | .readBatch _
  | .readLane _ | .readNotice _ | .unknownCommand .. | .nullSelect _ | .messageCutShort _ => true
  | _ => false

theorem Instr.effect_lineKept {c : Instr} (hc : c.offLine = true) (d : Device) : d.LineKept (c.effect d) := by
  cases c with
  | waveClose pass num => exact .ofKept (onNamed_kept pass num _ waveClose_kept d)
  | waveSettle pass num => exact .ofKept (onNamed_kept pass num _ waveSettle_kept d)
  | waveAbandon pass num => exact .ofKept (onNamed_kept pass num _ waveAbandon_kept d)
  | passWaveAbandon pass num => exact .ofKept (onNamed_kept pass num _ passAbandon_kept d)
  | slipCutoff pass num => exact .ofKept (onNamed_kept pass num _ slipCutoff_kept d)
  | batchReleased seq => exact .ofKept (kept_ite _ d _ _ ((dispatch_kept d).trans (evaluate_kept _)) (.refl d))
  | batchBehind seq => exact .ofKept (kept_ite _ d _ _ (evaluate_kept d) (.refl d))
  | offerRetryDue seq => exact .ofKept (kept_ite _ d _ _ (evaluate_kept d) (.refl d))
  | holdExpiry seq => exact .ofKept (holdExpired_kept seq d)
  | turnCompare lane => exact .ofKept (turnCompare_kept lane d)
  | turnFlashEnd lane => exact .ofKept (flashEnd_kept lane d)
  | dueCompare lane => exact .ofKept (dueCompare_kept lane d)
  | callOverdue lane => exact .ofKept (callOverdue_kept lane d)
  | dueOverdue lane => exact .ofKept (dueOverdue_kept lane d)
  | buttonPress lane inAccept => exact .ofKept (buttonPress_kept lane inAccept d)
  | loadDish p => exact loadDish_lineKept p d
  | clearMenu p => exact clearMenu_lineKept p d
  | silence p => exact silence_lineKept p d
  | ring p => exact ringBell_lineKept p d
  | openWave p => exact openWave_lineKept p d
  | issueTicket p => exact issueTicket_lineKept p d
  | voidTicket p => exact voidTicket_lineKept p d
  | sendPickup p => exact sendPickup_lineKept p d
  | readWave p => exact readWave_lineKept p d
  | readTicket p => exact readTicket_lineKept p d
  | readBatch p => exact readBatch_lineKept p d
  | readLane p => exact readLane_lineKept p d
  | readNotice p => exact readNotice_lineKept p d
  | unknownCommand code p => exact .ite (.refl d) (.answer _ _ d)
  | nullSelect p => exact .refl d
  | messageCutShort p => exact .ite (.answer _ _ d) (.refl d)
  | _ => exact absurd hc nofun

end Sys2Proof
end

section
/-! QUIET entered, as one equation (R40, R46, R55). -/

namespace Sys2Proof.Machine

open Device

/-- The offer-pending markers of the batches that the OFFER entries of a queue name cleared (R145). -/
def Bp.unmark (q : List TxEntry) (p : Bp) : Bp :=
  { p with batches := p.batches.map (fun b => if .offer b.bid ∈ q then { b with offerPending := false } else b) }

theorem Bp.unmark_nil (p : Bp) : p.unmark [] = p := by simp [unmark]

theorem Bp.unmark_cons (e : TxEntry) (q : List TxEntry) (p : Bp) : (p.unmark [e]).unmark q = p.unmark (e :: q) := by
  simp only [unmark, List.map_map]
  congr 1
  refine List.map_congr_left fun b _ => ?_
  by_cases he : .offer b.bid = e <;> by_cases hq : .offer b.bid ∈ q <;> simp [he, hq]

theorem Device.foldl_unmark (f : Device → TxEntry → Device) (hf : ∀ x e, f x e = x.onBp (Bp.unmark [e]))
    (q : List TxEntry) (d : Device) : q.foldl f d = d.onBp (Bp.unmark q) := by
  induction q generalizing d with
  | nil => rw [onBp, Bp.unmark_nil]; rfl
  | cons e q ih => rw [List.foldl_cons, ih, hf, ← funext (Bp.unmark_cons e q)]; rfl

theorem Device.withdrawOffer_unmark (d : Device) : d.withdrawOffer =
    d.requeued (d.bp.unmark d.fe.txq) (withdrawEntry (.offer 0) d.fe.txq) := by
  unfold withdrawOffer
  rw [foldl_unmark _ fun x e => ?_]
  · rfl
  · cases e <;> simp [onBatch, Bp.unmark, onBp]

/-- The OPEN and SETTLING records of a wave table marked partial (R55). -/
def Wu.markPartial (u : Wu) : Wu :=
  { u with waves := u.waves.map (fun w =>
      if w.state = .opened ∨ w.state = .settling then { w with partialMark := true } else w) }

theorem Device.markPartial_eq (d : Device) : d.markPartial = d.onWu Wu.markPartial := by
  simp [markPartial, onWu, Wu.markPartial]

/-- What QUIET leaves (R17, R40, R46, R55). -/
theorem Device.enterQuiet_eq (d : Device) : d.enterQuiet = { d with
    sck := { d.sck with markQuiet := 0, markDue := false }
    fe := { d.fe with
      station := .quiet
      quietCount := 0
      txq := withdrawEntry .mark (withdrawEntry (.offer 0) d.fe.txq) }
    wu := d.wu.markPartial
    bp := d.bp.unmark d.fe.txq
    sp := d.sp.queueNotice d.now
      (.linkQuiet d.fe.tecCount d.fe.recCount (decide (128 ≤ d.fe.tecCount)) (decide (128 ≤ d.fe.recCount))) } := by
  unfold enterQuiet
  rw [markPartial_eq, withdrawOffer_unmark]
  rfl

end Sys2Proof.Machine
end

section
/-! What drives the Link (O58): time that passes drives nothing, and a station drives while ON_LINE on the wires of its
mode. -/

namespace Sys2Proof.Machine

open Device

/-! ### The taker slots (R30, R31, R151) -/

/-- The reservation of a lane (R151). -/
def Device.reserve (lane : Option (Fin 8)) (d : Device) : Device :=
  match lane with
  | some i => d.onLane i (fun l => { l with reserved := true })
  | none => d

theorem Device.reserve_mayDrive (lane : Option (Fin 8)) (start : StationState) (d : Device) :
    (d.reserve lane).mayDrive start = d.mayDrive start := by
  cases lane <;> rfl

theorem Device.reserve_kept (lane : Option (Fin 8)) (d : Device) : d.Kept (d.reserve lane) := by
  cases lane with
  | some i => exact onLane_kept i _ d
  | none => exact .refl d

/-- A qualifier that has won reserves its lane and drives its reply-check slots (R31, R151). -/
def Device.winSlots (rep : OfferReply) (dish : Byte) (d : Device) : Device :=
  let d1 : Device := d.drive (.takerSlots (takerDriven d.strap.addr rep.taker))
  ((d1.onRx (fun x => { x with taker := .won (d1.laneToReserve dish) })).reserve (d1.laneToReserve dish)).drive
    (.checkSlots (~~~(d.strap.addr.extractLsb' 0 2)))

/-- What a station does in the taker slots: nothing where it does not qualify; it gives up where it may not drive; else it
drives its address, and gives up or wins by the taker address as read (R30, R31, R151). -/
theorem Device.takerSlots_cases (rep : OfferReply) (dish : Byte) (d : Device) :
    d.takerSlots rep dish = d ∨ d.takerSlots rep dish = d.dropQualified ∨
      ∃ r, d.fe.rx = some r ∧ r.taker = .qualified ∧ d.mayDrive r.startState = true ∧ r.bad = false ∧
        (rep.taker ≠ d.strap.addr ∧ d.takerSlots rep dish =
            (d.drive (.takerSlots (takerDriven d.strap.addr rep.taker))).dropQualified ∨
          rep.taker = d.strap.addr ∧ d.takerSlots rep dish = d.winSlots rep dish) := by
  unfold takerSlots
  split
  · exact .inl rfl
  · next r hr =>
    split
    · exact .inl rfl
    · next hq =>
      split
      · exact .inr (.inl rfl)
      · next hm =>
        have hmay : d.mayDrive r.startState = true ∧ r.bad = false := by simpa using hm
        refine .inr (.inr ⟨r, hr, by simpa using hq, hmay.1, hmay.2, ?_⟩)
        by_cases ht : rep.taker = d.strap.addr
        · exact .inr ⟨ht, by rw [if_pos (beq_iff_eq.mpr ht)]; rfl⟩
        · exact .inl ⟨ht, by rw [if_neg (mt beq_iff_eq.mp ht)]⟩

/-! ### Driving -/

/-- From `d` to `e` the line mode stays, a station does not come ON_LINE, and what is driven comes from an ON_LINE station
on the wires of its mode; what was driven before is kept or cleared (R20, R48). -/
structure Device.Drives (d e : Device) : Prop where
  mode    : e.lif.mode = d.lif.mode
  station : e.fe.station = .onLine → d.fe.station = .onLine
  drove   : e.fe.drove = d.fe.drove ∨ e.fe.drove = [] ∨ (d.fe.station = .onLine ∧ d.lif.mode ≠ .down ∧
    ∀ x ∈ e.fe.drove, x ∈ d.fe.drove ∨ x.wires = d.lif.mode.wires)

namespace Device.Drives

variable {a b c d e : Device}

/-- Nothing driven, the station as it was. -/
theorem ofSame (hm : e.lif.mode = d.lif.mode) (hs : e.fe.station = d.fe.station) (hd : e.fe.drove = d.fe.drove) :
    d.Drives e := ⟨hm, fun h => hs ▸ h, .inl hd⟩

theorem refl (d : Device) : d.Drives d := .ofSame rfl rfl rfl

theorem ofKept (h : d.Kept e) : d.Drives e := .ofSame (congrArg Lif.mode h.lif) h.station h.drove

theorem trans (h : a.Drives b) (k : b.Drives c) : a.Drives c where
  mode := k.mode.trans h.mode
  station := h.station ∘ k.station
  drove := by
    rcases k.drove with hc | hc | ⟨hon, hup, hc⟩
    · simpa only [hc] using h.drove
    · exact .inr (.inl hc)
    · refine .inr (.inr ⟨h.station hon, h.mode ▸ hup, fun x hx => ?_⟩)
      rcases hc x hx with hx | hx
      · rcases h.drove with hb | hb | ⟨-, -, hb⟩
        · exact .inl (hb ▸ hx)
        · rw [hb] at hx; cases hx
        · exact hb x hx
      · exact .inr (h.mode ▸ hx)

theorem ite {p : Prop} [Decidable p] {x y : Device} (hx : p → d.Drives x) (hy : ¬p → d.Drives y) :
    d.Drives (if p then x else y) := by
  split
  · next h => exact hx h
  · next h => exact hy h

end Device.Drives

theorem Device.mayDrive_iff (start : StationState) (d : Device) : d.mayDrive start = true ↔
    start = .onLine ∧ d.fe.station = .onLine ∧ d.lif.mode ≠ .down := by
  simp [mayDrive, and_assoc]

/-- An act of a station that may drive, and else nothing of the line changed (R20, R48). -/
theorem Device.Drives.ofDriven {start : StationState} {d e : Device} (a : LineAct) (h : d.mayDrive start = true)
    (hm : e.lif.mode = d.lif.mode) (hs : e.fe.station = d.fe.station) (hd : e.fe.drove = d.fe.drove ++ [d.driven a]) :
    d.Drives e := by
  obtain ⟨-, hon, hup⟩ := (mayDrive_iff start d).mp h
  refine ⟨hm, fun hs' => hs ▸ hs', .inr (.inr ⟨hon, hup, fun x hx => ?_⟩)⟩
  rcases List.mem_append.mp (hd ▸ hx) with hx | hx
  · exact .inl hx
  · exact .inr (by rw [List.mem_singleton.mp hx]; rfl)

theorem Device.drive_drives {start : StationState} {d : Device} (a : LineAct) (h : d.mayDrive start = true) :
    d.Drives (d.drive a) := .ofDriven a h rfl rfl rfl

theorem Device.quietLine_drives (d : Device) : d.Drives d.quietLine := ⟨rfl, id, .inr (.inl rfl)⟩

@[simp] theorem Device.hear_mode (q : Silences) (d : Device) : (d.hear q).lif.mode = d.lif.mode := by
  unfold hear
  split <;> rfl

theorem Device.hear_drives (q : Silences) (d : Device) : d.Drives (d.hear q) :=
  .ofSame (by simp) (by simp) (by simp)

theorem Device.onRx_drives (f : Rx → Rx) (d : Device) : d.Drives (d.onRx f) := .ofSame rfl rfl rfl
theorem Device.onSck_drives (f : Sck → Sck) (d : Device) : d.Drives (d.onSck f) := .ofSame rfl rfl rfl
theorem Device.closeRx_drives (agree : Bool) (d : Device) : d.Drives (d.closeRx agree) := .ofSame rfl rfl rfl

/-! ### Error counts and own frames -/

/-- QUIET is entered: nothing is driven, the line stays (R46). -/
theorem Device.enterQuiet_drives (d : Device) : d.Drives d.enterQuiet := by
  rw [enterQuiet_eq]
  exact ⟨rfl, nofun, .inl rfl⟩

theorem Device.quietIfDue_drives (d : Device) : d.Drives d.quietIfDue :=
  .ite (fun _ => enterQuiet_drives d) (fun _ => .refl d)

theorem Device.countHeard_drives (bad : Bool) (d : Device) : d.Drives (d.countHeard bad) := by
  unfold countHeard
  split
  · exact .trans (b := d.onFe _) (.ofSame rfl rfl rfl) (quietIfDue_drives _)
  · exact .ite (fun _ => .ofKept (markPartial_kept d)) (fun _ => .refl d)
  · exact .refl d
  · exact .refl d

theorem Device.endOwnFrame_drives (fate : Fate) (byDown agree : Bool) (d : Device) :
    d.Drives (d.endOwnFrame fate byDown agree) := by
  unfold endOwnFrame
  dsimp only
  refine .trans ?_ (quietIfDue_drives _)
  split
  · exact .ofSame rfl rfl rfl
  · exact .ofSame rfl rfl rfl

theorem Device.reportFate_drives (f : InFlight) (fate : Fate) (byDown short : Bool) (taker : Addr) (agree : Bool)
    (d : Device) : d.Drives (d.reportFate f fate byDown short taker agree) :=
  (endOwnFrame_drives fate byDown agree d).trans
    (.ofKept ((placerFate_kept f fate byDown short taker _).trans (takeDeferred_kept f.deferred _)))

theorem Device.fateOf_drives (k : Kind) (fate : Fate) (rep : OfferReply) (short : SlotReading) (line : Followed)
    (d : Device) : d.Drives (d.fateOf k fate rep short line) := by
  unfold fateOf
  split
  · refine .ite (fun _ => ?_) (fun _ => .refl d)
    extract_lets drives d1
    have h1 : d.Drives d1 := by
      refine .ite (fun h => ?_) (fun _ => quietLine_drives d)
      exact (quietLine_drives d).trans (drive_drives (start := .onLine) _ (Bool.and_eq_true_iff.mp h).2)
    exact (h1.trans (hear_drives _ d1)).trans (reportFate_drives _ _ _ _ _ _ _)
  · exact .refl d

theorem Device.loseArbitration_drives (d : Device) : d.Drives d.loseArbitration := by
  unfold loseArbitration
  split
  · exact .refl d
  · exact (quietLine_drives d).trans (.ite (fun _ => .ofSame rfl rfl rfl) (fun _ => .ofSame rfl rfl rfl))

theorem Device.bitError_drives (inGap agree : Bool) (d : Device) : d.Drives (d.bitError inGap agree) := by
  unfold bitError
  split
  · exact .refl d
  · refine .ite (fun _ => .ofSame rfl rfl rfl) (fun _ => ?_)
    extract_lets d1
    have h1 : d.Drives d1 :=
      .ite (fun h => (quietLine_drives d).trans (drive_drives (start := .onLine) _ h)) (fun _ => quietLine_drives d)
    exact h1.trans (reportFate_drives _ _ _ _ _ _ d1)

theorem Device.ownBitError_drives (inGap : Bool) (line : Followed) (d : Device) :
    d.Drives (d.ownBitError inGap line) :=
  .ite (fun _ => (hear_drives _ d).trans (bitError_drives _ _ _)) (fun _ => .refl d)

/-! ### Received frames, from their start slot on -/

theorem Device.dropQualified_drives (d : Device) : d.Drives d.dropQualified := by
  unfold dropQualified
  split
  · exact .ite (fun _ => (onRx_drives _ d).trans (.ofKept ((formWaiting_kept _).trans (evaluateSince_kept d _))))
      (fun _ => .refl d)
  · exact .refl d

theorem Device.rxBody_drives (k : Kind) (raw : RawFrame) (d : Device) : d.Drives (d.rxBody k raw) := by
  unfold rxBody
  split <;> exact onRx_drives _ d

theorem Device.driveShort_drives (r : Rx) (d : Device) : d.Drives (d.driveShort r) := by
  unfold driveShort
  split
  · exact .ite (fun h => drive_drives _ (Bool.and_eq_true_iff.mp h).1) (fun _ => .refl d)
  · exact .refl d

theorem Device.takerSlots_drives (rep : OfferReply) (dish : Byte) (d : Device) : d.Drives (d.takerSlots rep dish) := by
  rcases takerSlots_cases rep dish d with h | h | ⟨r, -, -, hmay, -, h | h⟩
  · rw [h]; exact .refl d
  · rw [h]; exact dropQualified_drives d
  · rw [h.2]; exact (drive_drives _ hmay).trans (dropQualified_drives _)
  · rw [h.2]
    unfold winSlots
    extract_lets d1
    have h1 : d.Drives d1 := drive_drives _ hmay
    have h2 := (onRx_drives (fun x => { x with taker := .won (d1.laneToReserve dish) }) d1).trans
      (.ofKept (reserve_kept (d1.laneToReserve dish) _))
    exact (h1.trans h2).trans (drive_drives (start := r.startState) _ (by rwa [reserve_mayDrive]))

theorem Device.rxReply_drives (k : Kind) (raw : RawFrame) (gapFault : Bool) (rep : OfferReply) (d : Device) :
    d.Drives (d.rxReply k raw gapFault rep) := by
  unfold rxReply
  extract_lets d1
  refine .trans (b := d1) (onRx_drives _ d) ?_
  split
  · exact driveShort_drives _ d1
  · exact .trans (.ite (fun _ => dropQualified_drives d1) (fun _ => takerSlots_drives rep _ d1)) (onRx_drives _ _)
  · exact dropQualified_drives d1

theorem Device.takeTime_drives (raw : RawFrame) (d : Device) : d.Drives (d.takeTime raw) := by
  refine .ite (fun _ => ?_) (fun _ => onSck_drives _ d)
  dsimp only
  split
  · exact onSck_drives _ d
  · exact (onSck_drives _ d).trans (.ofKept (notify_kept _ _))

theorem Device.rxAccept_drives (k : Kind) (raw : RawFrame) (lateFault : Bool) (acc : SlotReading) (agree : Bool)
    (d : Device) : d.Drives (d.rxAccept k raw lateFault acc agree) := by
  unfold rxAccept
  split
  · exact .refl d
  · extract_lets found bad d1 d2 taken d3
    have h1 : d.Drives d1 := .ite (fun h => drive_drives _ (Bool.and_eq_true_iff.mp h).2) (fun _ => .refl d)
    have h2 : d1.Drives d2 := (closeRx_drives _ d1).trans (countHeard_drives _ _)
    have h3 : d2.Drives d3 := .trans (.ite (fun _ => takeTime_drives raw d2) (fun _ => .refl d2)) (onSck_drives _ _)
    refine ((h1.trans h2).trans h3).trans ?_
    split
    · refine .ite (fun _ => .ofKept (deliver_kept _ _ _ d3)) (fun _ => ?_)
      split
      · exact .ofKept (releaseTaker_kept _ d3)
      · exact .refl d3
    · exact .refl d3

/-! ### Time that passes (R1, R20, R47, R50, R66) -/

/-- A LISTEN or QUIET ends at the boundary still to be taken (R47, R66). -/
def Device.WaitEnds (d : Device) : Prop :=
  d.sck.atBoundary = true ∧
    (d.fe.station = .listen ∧ d.fe.listenCount = 128 ∨ d.fe.station = .quiet ∧ d.fe.quietCount = 128)

/-- From `d` to `e` time has passed: nothing is driven, the station comes ON_LINE only by the end of its LISTEN or QUIET,
and the line mode changes only by the return to DUAL. -/
structure Device.Waits (d e : Device) : Prop where
  drove   : e.fe.drove = d.fe.drove ∨ e.fe.drove = []
  station : e.fe.station = .onLine → d.fe.station = .onLine ∨ d.WaitEnds
  ends    : e.WaitEnds → d.WaitEnds
  mode    : e.lif.mode = d.lif.mode ∨ d.returnDue = true ∧ e.lif.mode = .dual
  returns : e.returnDue = true → d.returnDue = true

namespace Device.Waits

variable {a b c d e : Device}

theorem refl (d : Device) : d.Waits d := ⟨.inl rfl, .inl, id, .inl rfl, id⟩

theorem trans (h : a.Waits b) (k : b.Waits c) : a.Waits c where
  drove := k.drove.elim (fun e => by simpa only [e] using h.drove) .inr
  station hc := (k.station hc).elim h.station (.inr ∘ h.ends)
  ends := h.ends ∘ k.ends
  mode := k.mode.elim (fun e => by simpa only [e] using h.mode) (fun ⟨hr, hm⟩ => .inr ⟨h.returns hr, hm⟩)
  returns := h.returns ∘ k.returns

theorem ite {p : Prop} [Decidable p] {x y : Device} (hx : p → d.Waits x) (hy : ¬p → d.Waits y) :
    d.Waits (if p then x else y) := by
  split
  · next h => exact hx h
  · next h => exact hy h

/-- The mode, the setup, the station and its length counts as they were, with no boundary to be taken but the same. -/
theorem ofSame (hb : e.sck.atBoundary = d.sck.atBoundary) (hs : e.fe.station = d.fe.station)
    (hl : e.fe.listenCount = d.fe.listenCount) (hq : e.fe.quietCount = d.fe.quietCount) (hm : e.lif.mode = d.lif.mode)
    (hc : e.lif.cleanCount = d.lif.cleanCount) (hk : e.sp.config = d.sp.config)
    (hd : e.fe.drove = d.fe.drove ∨ e.fe.drove = []) : d.Waits e where
  drove := hd
  station h := .inl (hs ▸ h)
  ends h := by simpa only [WaitEnds, hb, hs, hl, hq] using h
  mode := .inl hm
  returns h := by simpa only [returnDue, cfg, hs, hm, hc, hk] using h

end Device.Waits

theorem Device.lineReturn_waits (d : Device) : d.Waits d.lineReturn := by
  refine .ite (fun h => ?_) (fun _ => .refl d)
  exact ⟨.inl rfl, .inl, id, .inr ⟨h, rfl⟩, fun hr => by simp [returnDue, onLif, changeMode, LineMode.single] at hr⟩

theorem Device.passSlots_waits (n : Nat) (d : Device) : d.Waits (d.passSlots n) := by
  refine .ite (fun _ => .refl d) (fun _ => ?_)
  extract_lets d1
  have h1 : d.Waits d1 := .ite (fun _ => .ofSame rfl rfl rfl rfl rfl rfl rfl (.inl rfl)) (fun _ => .refl d)
  exact h1.trans (.ite (fun _ => .refl d1) (fun _ => .ofSame rfl rfl rfl rfl rfl rfl rfl (.inl rfl)))

/-- A period end moves the clock, the outputs and the notices alone (R8, R16). -/
theorem Device.periodEnd_line (d : Device) : d.periodEnd.fe = d.fe ∧ d.periodEnd.lif = d.lif ∧
    d.periodEnd.sck.atBoundary = d.sck.atBoundary := by
  have hact : d.periodAction.fe = d.fe ∧ d.periodAction.lif = d.lif ∧
      d.periodAction.sck.atBoundary = d.sck.atBoundary := by
    unfold periodAction meanStep forwardOrCorrect stepClock Sck.stepBy
    (repeat' split) <;> simp
  unfold periodEnd setOutputs
  split
  · simpa using hact
  · exact ⟨rfl, rfl, rfl⟩

theorem Device.periodEnd_waits (d : Device) : d.Waits d.periodEnd := by
  obtain ⟨hfe, hlif, hb⟩ := periodEnd_line d
  obtain ⟨-, hcfg, -, -⟩ := setup_eq_iff.mp (periodEnd_setup d)
  exact .ofSame hb (by rw [hfe]) (by rw [hfe]) (by rw [hfe]) (by rw [hlif]) (by rw [hlif]) hcfg (.inl (by rw [hfe]))

theorem Device.returnDue_iff (d : Device) : d.returnDue = true ↔ d.fe.station ≠ .standby ∧ d.lif.mode.single = true ∧
    d.sp.config.lock = .auto ∧ 64 ≤ d.lif.cleanCount := by
  simp [returnDue, cfg, and_assoc]

theorem Device.listenEnd_waits {d : Device} (hb : d.sck.atBoundary = true) : d.Waits d.listenEnd := by
  refine .ite (fun h => ?_) (fun _ => .refl d)
  have hl : d.fe.station = .listen ∧ d.fe.listenCount = 128 := by simpa using h
  exact ⟨.inl rfl, fun _ => .inr ⟨hb, .inl hl⟩, fun ⟨_, he⟩ => by simp [onFe, onSck] at he, .inl rfl,
    fun hr => (returnDue_iff d).mpr ⟨by simp [hl.1], ((returnDue_iff _).mp hr).2⟩⟩

theorem Device.quietEnd_waits {d : Device} (hb : d.sck.atBoundary = true) : d.Waits d.quietEnd := by
  refine .ite (fun h => ?_) (fun _ => .refl d)
  have hq : d.fe.station = .quiet ∧ d.fe.quietCount = 128 := by simpa using h
  exact ⟨.inl rfl, fun _ => .inr ⟨hb, .inr hq⟩, fun ⟨_, he⟩ => by simp [onFe, onSck] at he, .inl rfl,
    fun hr => (returnDue_iff d).mpr ⟨by simp [hq.1], ((returnDue_iff _).mp hr).2⟩⟩

theorem Device.listenEnd_atBoundary (d : Device) : d.listenEnd.sck.atBoundary = d.sck.atBoundary := by
  unfold listenEnd
  split
  · simp
  · rfl

theorem Device.Waits.ofKept {d e : Device} (h : d.Kept e) : d.Waits e :=
  .ofSame (by rw [h.sck]) h.station h.listenCount h.quietCount (by rw [h.lif]) (by rw [h.lif]) h.config (.inl h.drove)

theorem Device.boundaryEvents_waits {d : Device} (hb : d.sck.atBoundary = true) : d.Waits d.boundaryEvents := by
  obtain ⟨e, he, hd⟩ := boundaryEvents_eq d
  have hp : d.periodEnd.sck.atBoundary = true := (periodEnd_line d).2.2.trans hb
  have hl : d.periodEnd.listenEnd.sck.atBoundary = true := (listenEnd_atBoundary _).trans hp
  rw [hd]
  refine ((((periodEnd_waits d).trans (listenEnd_waits hp)).trans (quietEnd_waits hl)).trans (.ofKept he)).trans ?_
  exact .ite (fun _ => .ofSame rfl rfl rfl rfl rfl rfl rfl (.inl rfl))
    (fun _ => .ofSame rfl rfl rfl rfl rfl rfl rfl (.inl rfl))

theorem Device.leaveBoundary_waits (d : Device) : d.Waits (d.onSck (fun k => { k with atBoundary := false })) :=
  ⟨.inl rfl, .inl, fun ⟨h, _⟩ => by simp at h, .inl rfl, id⟩

theorem Device.settleBoundary_waits (d : Device) : d.Waits d.settleBoundary := by
  unfold settleBoundary
  extract_lets d1
  exact (lineReturn_waits d).trans
    (.ite (fun hb => (boundaryEvents_waits hb).trans (leaveBoundary_waits _)) (fun _ => .refl d1))

theorem Device.pass_waits (n : Nat) (d : Device) : d.Waits (d.pass n) :=
  .ite (fun _ => .refl d)
    (fun _ => (settleBoundary_waits d).trans (.ofSame rfl rfl rfl rfl rfl rfl rfl (.inl rfl)))

theorem Device.untilStart_waits (w : Wait) (d : Device) : d.Waits (d.untilStart w) :=
  (((lineReturn_waits d).trans (.ofSame (e := d.lineReturn.quietLine) rfl rfl rfl rfl rfl rfl rfl (.inr rfl))).trans
    (passSlots_waits _ _)).trans (pass_waits _ _)

theorem Device.rxStart_waits (w : Wait) (d : Device) : d.Waits (d.rxStart w) := by
  refine .ite (fun _ => (untilStart_waits w d).trans ?_) (fun _ => .refl d)
  exact .ite (fun _ => .ofSame rfl rfl rfl rfl rfl rfl rfl (.inl rfl))
    (fun _ => .ofSame rfl rfl rfl rfl rfl rfl rfl (.inl rfl))

/-! ### What a station has driven after a step -/

/-- What O58 says of a part after a step. -/
def Device.DroveOnLine (d e : Device) : Prop :=
  e.fe.drove = d.fe.drove ∨ e.fe.drove = [] ∨
    ((d.fe.station = .onLine ∨ d.settleBoundary.fe.station = .onLine) ∧ d.lif.mode ≠ .down ∧
      ∀ x ∈ e.fe.drove, x ∈ d.fe.drove ∨ (x.wires ≠ [] ∧
        (x.wires = d.lif.mode.wires ∨ x.wires = d.settleBoundary.lif.mode.wires ∨ x.wires = e.lif.mode.wires)))

theorem LineMode.wires_eq_nil_iff (m : LineMode) : m.wires = [] ↔ m = .down := by cases m <;> decide

/-- A LISTEN or QUIET that ends as time passes has ended in what is settled first. -/
theorem Device.settleBoundary_station_of_waitEnds {d : Device} (h : d.WaitEnds) :
    d.settleBoundary.fe.station = .onLine := by
  obtain ⟨hb, he⟩ := h
  obtain ⟨e, hk, hd⟩ := boundaryEvents_eq d.lineReturn
  have hfe : d.lineReturn.periodEnd.fe = d.fe := (periodEnd_line _).1.trans (lineReturn_fe d)
  have hmark : e.markPlace.fe.station = e.fe.station := by unfold markPlace; split <;> rfl
  rw [settleBoundary_of_boundary hb, onSck_fe, hd, hmark, hk.station]
  rcases he with ⟨hs, hc⟩ | ⟨hs, hc⟩ <;> simp [listenEnd, quietEnd, hfe, hs, hc]

theorem Device.boundaryEvents_lif (d : Device) : d.boundaryEvents.lif = d.lif := by
  obtain ⟨e, hk, hd⟩ := boundaryEvents_eq d
  have hmark : e.markPlace.lif = e.lif := by unfold markPlace; split <;> rfl
  have hlisten : ∀ x : Device, x.listenEnd.lif = x.lif := fun x => by unfold listenEnd; split <;> rfl
  have hquiet : ∀ x : Device, x.quietEnd.lif = x.lif := fun x => by unfold quietEnd; split <;> rfl
  rw [hd, hmark, hk.lif, hquiet, hlisten, (periodEnd_line d).2.1]

@[simp] theorem Device.settleBoundary_lif (d : Device) : d.settleBoundary.lif = d.lineReturn.lif := by
  cases hb : d.sck.atBoundary with
  | false => rw [settleBoundary_of_settled hb]
  | true => rw [settleBoundary_of_boundary hb, onSck_lif, boundaryEvents_lif]

theorem Device.lineReturn_mode_of_due {d : Device} (h : d.returnDue = true) : d.lineReturn.lif.mode = .dual := by
  simp [lineReturn, h, changeMode]

/-- Time passes, and then a station drives: it was ON_LINE by then, on the wires of the mode that time left (R20, R48). -/
theorem Device.Waits.thenDrives {d e f : Device} (h : d.Waits e) (k : e.Drives f) : d.DroveOnLine f := by
  rcases k.drove with hf | hf | ⟨hon, hup, hf⟩
  · rcases h.drove with he | he
    · exact .inl (hf.trans he)
    · exact .inr (.inl (hf.trans he))
  · exact .inr (.inl hf)
  · have hmode : d.lif.mode ≠ .down := fun hd => by
      rcases h.mode with hm | ⟨hr, -⟩
      · exact hup (hm.trans hd)
      · simp [returnDue, hd, LineMode.single] at hr
    refine .inr (.inr ⟨(h.station hon).imp_right settleBoundary_station_of_waitEnds, hmode, fun x hx => ?_⟩)
    rcases hf x hx with hx | hx
    · rcases h.drove with he | he
      · exact .inl (he ▸ hx)
      · rw [he] at hx; cases hx
    · refine .inr ⟨by rwa [hx, ne_eq, LineMode.wires_eq_nil_iff], ?_⟩
      rcases h.mode with hm | ⟨hr, hm⟩
      · exact .inl (by rw [hx, hm])
      · exact .inr (.inl (by rw [hx, hm, settleBoundary_lif, lineReturn_mode_of_due hr]))

/-! ### The rows of the Link -/

theorem Device.Drives.droveOnLine {d e : Device} (h : d.Drives e) : d.DroveOnLine e := (Waits.refl d).thenDrives h

theorem Device.Waits.droveOnLine {d e : Device} (h : d.Waits e) : d.DroveOnLine e := h.thenDrives (.refl e)

theorem Device.beginFrame_drives {d : Device} (stamp : Stamp) (e : TxEntry) (b : Body)
    (h : d.mayDrive .onLine = true) : d.Drives (d.beginFrame stamp e b) :=
  .ofDriven .startSlot h rfl rfl rfl

theorem Device.contend_droveOnLine (start : OwnStart) (d : Device) : d.DroveOnLine (d.contend start) := by
  unfold contend
  extract_lets d1 stamp r d2 d3
  split
  · exact .inl rfl
  · next hmay =>
    have hmay : d1.mayContend = true := by simpa using hmay
    have hd : d1.mayDrive .onLine = true := by
      simp only [mayContend, Bool.and_eq_true, and_assoc] at hmay
      exact hmay.1
    have hk : d1.Kept d2 := dropAsked_kept r.2 d1
    have h3 : d1.Drives d3 := by
      simp only [d3]
      split
      · next x _ =>
        have hd2 : d2.mayDrive .onLine = true := by rwa [mayDrive, hk.station, hk.lif]
        refine (Drives.ofKept hk).trans (.trans ?_ (hear_drives _ _))
        exact beginFrame_drives stamp x.1 x.2 hd2
      · exact .ofKept hk
    refine (untilStart_waits _ d).thenDrives (h3.trans ?_)
    exact .ite (fun _ => .ofKept (offerEval_kept d3)) (fun _ => .refl d3)

/-- A frame in hand is not begun again. -/
theorem Device.rxStart_of_rx {d : Device} {r : Rx} (wait : Wait) (h : d.fe.rx = some r) : d.rxStart wait = d := by
  simp [rxStart, listens, frameInHand, h]

/-- A coding violation in the frame that a station follows (R25, R44). -/
theorem Device.codingViolation_drives {d : Device} {r : Rx} (wait : Wait) (line : Followed)
    (hr : (d.rxStart wait).fe.rx = some r) (hs : stageRank r.stage < 2) :
    (d.rxStart wait).Drives (d.codingViolation wait line) := by
  unfold codingViolation
  extract_lets d0
  split
  · next hn => rw [hn] at hr; cases hr
  · next r' hr' =>
    obtain rfl : r' = r := Option.some.inj (hr'.symm.trans hr)
    rw [if_neg (by omega)]
    extract_lets d1 d2
    have h1 : d0.Drives d1 := .ite (fun h => drive_drives _ h) (fun _ => .refl d0)
    have h2 : d1.Drives d2 := (((hear_drives _ d1).trans (closeRx_drives _ _)).trans (countHeard_drives true _)).trans
      (onSck_drives _ _)
    refine (h1.trans h2).trans (.ite (fun _ => .ofKept ?_) (fun _ => .refl d2))
    exact (formWaiting_kept d2).trans (evaluateSince_kept _ _)

/-- A station that follows no frame, or is past the reply gap of one, drives nothing at a coding violation (R25, R48). -/
theorem Device.codingViolation_of_no_break {d : Device} (wait : Wait) (line : Followed)
    (hr : ∀ r, (d.rxStart wait).fe.rx = some r → 2 ≤ stageRank r.stage) :
    d.codingViolation wait line = d ∨ d.codingViolation wait line = (d.rxStart wait).hear line.toSilences := by
  unfold codingViolation
  dsimp only
  split
  · split
    · exact .inr rfl
    · exact .inl rfl
  · next r h => exact .inl (if_pos (hr r h))

theorem Device.codingViolation_thenDrives {d e : Device} (wait : Wait) (line : Followed) (h : d.Waits e) :
    d.DroveOnLine (e.codingViolation wait line) := by
  have h0 := h.trans (rxStart_waits wait e)
  by_cases hr : ∃ r, (e.rxStart wait).fe.rx = some r ∧ stageRank r.stage < 2
  · obtain ⟨r, hr, hs⟩ := hr
    exact h0.thenDrives (codingViolation_drives wait line hr hs)
  · have hno : ∀ r, (e.rxStart wait).fe.rx = some r → 2 ≤ stageRank r.stage := fun r h1 =>
      Nat.le_of_not_lt fun h2 => hr ⟨r, h1, h2⟩
    rcases codingViolation_of_no_break wait line hno with he | he <;> rw [he]
    · exact h.droveOnLine
    · exact h0.thenDrives (hear_drives _ _)

theorem Device.receive_droveOnLine (k : Kind) (h : Heard) (rep : OfferReply) (d : Device) :
    d.DroveOnLine (d.receive k h rep) := by
  unfold receive
  extract_lets d0 d1
  have hp : d.Waits (d0.pass h.lasted) := (rxStart_waits _ d).trans (pass_waits _ _)
  split
  · split
    · exact hp.thenDrives (hear_drives _ _)
    · exact .inl rfl
  · split
    · exact codingViolation_thenDrives _ _ hp
    · split
      · exact .inl rfl
      · extract_lets d2 d3
        have h1 : (d0.pass h.lasted).Drives d1 := (hear_drives _ _).trans (onRx_drives _ _)
        have h2 : d1.Drives d2 := .ite (fun _ => rxBody_drives _ _ d1) (fun _ => .refl d1)
        have h3 : d2.Drives d3 := .ite (fun _ => rxReply_drives _ _ _ _ d2) (fun _ => .refl d2)
        exact hp.thenDrives (((h1.trans h2).trans h3).trans
          (.ite (fun _ => rxAccept_drives _ _ _ _ _ d3) (fun _ => .refl d3)))

/-- A wire fails: what the station then drives goes on the good wire alone (R48, R49, R54). -/
theorem Device.wireFails_droveOnLine (w : Wire) (x : Failure) (d : Device) : d.DroveOnLine (d.wireFails w x) := by
  unfold wireFails
  split
  · next h =>
    extract_lets d1 d2
    have hdual : d.lif.mode = .dual := by simpa using (Bool.and_eq_true_iff.mp h).2
    have hf : d2.Drives (d2.failover x.inGap) := by
      unfold failover
      split
      · exact bitError_drives _ _ d2
      · exact ((quietLine_drives d2).trans (dropQualified_drives _)).trans (onRx_drives _ _)
    have hup : d2.lif.mode.wires ≠ [] := by
      have hm : d2.lif.mode = modeOf (otherWire w) := by cases w <;> rfl
      rw [hm]
      cases w <;> decide
    rcases hf.drove with hd | hd | ⟨hon, -, hd⟩
    · exact .inl hd
    · exact .inr (.inl hd)
    · refine .inr (.inr ⟨.inl hon, by simp [hdual], fun y hy => (hd y hy).imp_right fun hw => ?_⟩)
      exact ⟨hw ▸ hup, .inr (.inr (by rw [hw, hf.mode]))⟩
  · exact .inl rfl

theorem Device.dropLine_drives (d : Device) : d.Drives d.dropLine := by
  unfold dropLine
  extract_lets d1 d2
  have h1 : d.Drives d1 := by
    simp only [d1]
    split
    · exact reportFate_drives _ _ _ _ _ _ d
    · exact .refl d
  refine h1.trans ?_
  split
  · exact .refl d1
  · next r _ =>
    have h2 : d1.Drives d2 := .ofSame rfl rfl rfl
    refine h2.trans ?_
    split
    · exact .refl d2
    · exact .ofKept ((formWaiting_kept d2).trans (evaluateSince_kept _ _))
    · exact .ofKept (releaseTaker_kept _ d2)

/-- In DOWN a station drives nothing (R48). -/
theorem Device.Drives.drove_of_down {d e : Device} (h : d.Drives e) (hm : d.lif.mode = .down)
    (hd : d.fe.drove = []) : e.fe.drove = [] := by
  rcases h.drove with he | he | ⟨-, hup, -⟩
  · exact he.trans hd
  · exact he
  · exact absurd hm hup

theorem Device.lineDown_droveOnLine (cause : DownCause) (other : Fin 2) (d : Device) :
    d.DroveOnLine (d.lineDown cause other) := by
  unfold lineDown
  extract_lets found good d1 d2 d3
  split
  · have hm : (d2.quietLine.onFe (fun f => { f with idleCount := 0 })).lif.mode = .down := by
      simp only [d2]
      split
      · rfl
      · cases hg : good <;> rfl
    have h3 : d3.fe.drove = [] := (dropLine_drives _).drove_of_down hm rfl
    refine .inr (.inl ?_)
    split
    · exact (markPartial_kept d3).drove.trans h3
    · exact h3
  · exact .inl rfl

/-! ### The rows that drive nothing -/

theorem Device.LineKept.droveOnLine {d e : Device} (h : d.LineKept e) : d.DroveOnLine e := .inl h.drove

theorem Device.newTick_drove (d : Device) : d.newTick.fe.drove = d.fe.drove := by
  obtain ⟨e, he, hd⟩ := newTick_eq d
  have hb : d.tickBegun.fe = d.fe.countTick := rfl
  rw [hd, onSck_fe, ← he, (tickWork_kept _).drove, hb]
  unfold Fe.countTick
  split <;> rfl

theorem Device.passSlots_drove (n : Nat) (d : Device) : (d.passSlots n).fe.drove = d.fe.drove := by
  unfold passSlots
  dsimp only
  (repeat' split) <;> rfl

theorem Device.markPlace_drove (d : Device) : d.markPlace.fe.drove = d.fe.drove := by unfold markPlace; split <;> rfl

theorem Device.listenEnd_drove (d : Device) : d.listenEnd.fe.drove = d.fe.drove := by unfold listenEnd; split <;> rfl

theorem Device.quietEnd_drove (d : Device) : d.quietEnd.fe.drove = d.fe.drove := by unfold quietEnd; split <;> rfl

theorem Device.settleBoundary_drove (d : Device) : d.settleBoundary.fe.drove = d.fe.drove := by
  cases hb : d.sck.atBoundary with
  | false => rw [settleBoundary_of_settled hb, lineReturn_fe]
  | true =>
    obtain ⟨e, hk, hd⟩ := boundaryEvents_eq d.lineReturn
    rw [settleBoundary_of_boundary hb, onSck_fe, hd, markPlace_drove, hk.drove, quietEnd_drove, listenEnd_drove,
      (periodEnd_line _).1, lineReturn_fe]

theorem Device.passIdle_drove (n : Nat) (d : Device) : (d.passIdle n).fe.drove = d.fe.drove := by
  unfold passIdle
  split
  · rfl
  · rw [letPass, onSck_fe, passSlots_drove, settleBoundary_drove]

theorem Device.frameSeen_drove (x : Seen) (d : Device) : (d.frameSeen x).fe.drove = d.fe.drove := by
  unfold frameSeen; split <;> rfl

theorem Device.configure_drove (p : List Byte) (d : Device) : (d.configure p).fe.drove = d.fe.drove := by
  unfold configure
  (repeat' split) <;> try rfl
  rw [answer_fe, applyLock_fe]
  rfl

theorem Device.join_drove (p : List Byte) (d : Device) : (d.join p).fe.drove = d.fe.drove := by
  unfold join
  (repeat' split) <;> try rfl
  rw [answer_fe, enterListen, onLif_fe, applyLock_fe]
  rfl

theorem Device.leave_drove (p : List Byte) (d : Device) :
    (d.leave p).fe.drove = d.fe.drove ∨ (d.leave p).fe.drove = [] := by
  unfold leave
  (repeat' split) <;> first | exact .inl rfl | exact .inr rfl

theorem Device.readStation_drove (n : Nat) (p : List Byte) (d : Device) :
    (d.readStation n p).fe.drove = d.fe.drove := by
  unfold readStation
  dsimp only
  split <;> exact passIdle_drove n d

theorem Device.tickBoundary_drove (d : Device) : d.tickBoundary.fe.drove = d.fe.drove := by
  rw [tickBoundary, endTick, newTick_drove, passSlots_drove, settleBoundary_drove]

theorem Device.crystalCount_drove (d : Device) : d.crystalCount.fe.drove = d.fe.drove := by
  rcases d.crystalCount_cases with ⟨-, h⟩ | ⟨-, h⟩ <;> rw [h]
  · rw [letPass, onSck_fe, passSlots_drove, settleBoundary_drove]
  · exact tickBoundary_drove d

end Sys2Proof.Machine

namespace Sys2Proof

open Machine Machine.Device

theorem Instr.effect_droveOnLine (c : Instr) (d : Device) : d.DroveOnLine (c.effect d) := by
  cases c with
  | reset a k => exact .inr (.inl rfl)
  | tickBoundary => exact .inl (tickBoundary_drove d)
  | periodEnd => exact (periodEnd_waits d).droveOnLine
  | markPlace => exact .inl (markPlace_drove d)
  | contend start => exact contend_droveOnLine start d
  | arbitrationLost => exact (loseArbitration_drives d).droveOnLine
  | ownBitError inGap line => exact (ownBitError_drives inGap line d).droveOnLine
  | frameCodingViolation wait line => exact codingViolation_thenDrives wait line (.refl d)
  | markFrame h => exact receive_droveOnLine _ h _ d
  | readyFrame h => exact receive_droveOnLine _ h _ d
  | slipFrame h => exact receive_droveOnLine _ h _ d
  | offerFrame h rep => exact receive_droveOnLine _ h _ d
  | ticketFrame h => exact receive_droveOnLine _ h _ d
  | voidFrame h => exact receive_droveOnLine _ h _ d
  | pickupFrame h => exact receive_droveOnLine _ h _ d
  | readyFate fate line => exact (fateOf_drives _ _ _ _ line d).droveOnLine
  | slipFate fate line => exact (fateOf_drives _ _ _ _ line d).droveOnLine
  | offerFate fate rep line => exact (fateOf_drives _ _ _ _ line d).droveOnLine
  | markFate fate line => exact (fateOf_drives _ _ _ _ line d).droveOnLine
  | ticketFate fate short line => exact (fateOf_drives _ _ _ _ line d).droveOnLine
  | voidFate fate line => exact (fateOf_drives _ _ _ _ line d).droveOnLine
  | pickupFate fate line => exact (fateOf_drives _ _ _ _ line d).droveOnLine
  | wireFailed wire failure => exact wireFails_droveOnLine wire failure d
  | lineReturn => exact (lineReturn_waits d).droveOnLine
  | lineDown cause other => exact lineDown_droveOnLine cause other d
  | frameSeen seen => exact .inl (frameSeen_drove seen d)
  | quietEnd => exact .inl (quietEnd_drove d)
  | listenEnd => exact .inl (listenEnd_drove d)
  | configure p => exact .inl (configure_drove p d)
  | join p => exact .inl (join_drove p d)
  | leave p => exact (leave_drove p d).imp_right .inl
  | readStation n p => exact .inl (readStation_drove n p d)
  | _ => exact (Instr.effect_lineKept rfl d).droveOnLine

/-- Settles O58. -/
theorem drivesOnlyOnLine : Obligations.DrivesOnlyOnLine := by
  intro s t h
  rcases step_eq_next.mp h with ⟨c, rest, -, rfl⟩ | ⟨-, rfl⟩
  · exact Instr.effect_droveOnLine c s.dev
  · exact .inl (crystalCount_drove s.dev)

end Sys2Proof
end

section
/-! A station in STANDBY or LISTEN is without work, and the line as the Frame Engine holds it (O52). -/

namespace Sys2Proof.Machine

open Device

/-! ### A station without work -/

/-- No work: no record, nothing queued for the Link, every lane IDLE (R63, R65, R67). -/
structure Device.AtRest (d : Device) : Prop where
  waves   : d.wu.waves = []
  tickets : d.ti.tickets = []
  issues  : d.ti.issues = []
  batches : d.bp.batches = []
  fireQ   : d.bp.fireQ = []
  handed  : d.bp.handed = []
  txq     : d.fe.txq = []
  issueQ  : d.iu.queue = []
  idle    : ∀ i : Fin 8, (d.lane i).state = .idle

/-- A station in STANDBY or LISTEN. -/
def Device.Waiting (d : Device) : Prop := d.fe.station = .standby ∨ d.fe.station = .listen

theorem Device.restOk_iff (d : Device) : d.restOk ↔ (d.Waiting → d.AtRest) := by
  refine ⟨fun h hs => ?_, fun h hs => ?_⟩
  · obtain ⟨hw, ht, hi, hb, hf, hh, hq, hu, hl⟩ := h hs
    exact ⟨hw, ht, hi, hb, hf, hh, hq, hu, hl⟩
  · obtain ⟨hw, ht, hi, hb, hf, hh, hq, hu, hl⟩ := h hs
    exact ⟨hw, ht, hi, hb, hf, hh, hq, hu, hl⟩

namespace Device.AtRest

variable {d e : Device}

/-- The records and the queues as they were, the lanes in their states. -/
theorem same (h : d.AtRest) (hw : e.wu = d.wu) (ht : e.ti = d.ti) (hb : e.bp = d.bp) (hu : e.iu = d.iu)
    (hq : e.fe.txq = d.fe.txq) (hl : ∀ i : Fin 8, (e.lane i).state = (d.lane i).state) : e.AtRest where
  waves := by rw [hw, h.waves]
  tickets := by rw [ht, h.tickets]
  issues := by rw [ht, h.issues]
  batches := by rw [hb, h.batches]
  fireQ := by rw [hb, h.fireQ]
  handed := by rw [hb, h.handed]
  txq := by rw [hq, h.txq]
  issueQ := by rw [hu, h.issueQ]
  idle i := by rw [hl, h.idle]

theorem ofEq (h : d.AtRest) (he : e = d) : e.AtRest := he ▸ h

theorem answer (h : d.AtRest) (st : Status) (l : List Byte) : (d.answer st l).AtRest :=
  h.same rfl rfl rfl rfl rfl fun _ => rfl

theorem onSp (h : d.AtRest) (f : Sp → Sp) : (d.onSp f).AtRest := h.same rfl rfl rfl rfl rfl fun _ => rfl

theorem onSck (h : d.AtRest) (f : Sck → Sck) : (d.onSck f).AtRest := h.same rfl rfl rfl rfl rfl fun _ => rfl

theorem onLif (h : d.AtRest) (f : Lif → Lif) : (d.onLif f).AtRest := h.same rfl rfl rfl rfl rfl fun _ => rfl

theorem onRx (h : d.AtRest) (f : Rx → Rx) : (d.onRx f).AtRest := h.same rfl rfl rfl rfl rfl fun _ => rfl

theorem onLane (h : d.AtRest) {i : Fin 8} {f : Lane → Lane} (hf : ∀ l, (f l).state = l.state) :
    (d.onLane i f).AtRest := by
  refine h.same rfl rfl rfl rfl rfl fun j => ?_
  by_cases hij : i.val = j.val
  · simp [lane, Device.onLane, Lu.setLane, hij, hf]
  · simp [lane, Device.onLane, Lu.setLane, Vector.getElem_set_ne, hij]

theorem ite (h : d.AtRest) {c : Prop} [Decidable c] {x : Device} (hx : c → x.AtRest) : (if c then x else d).AtRest := by
  split
  · next hc => exact hx hc
  · exact h

theorem ite' {c : Prop} [Decidable c] {x y : Device} (hx : x.AtRest) (hy : y.AtRest) :
    (if c then x else y).AtRest := by
  split
  · exact hx
  · exact hy

theorem answerPlace (h : d.AtRest) {α : Type} (l : List α) (i : Nat) (f : Nat → α → List Byte) :
    (d.answerPlace l i f).AtRest := by
  unfold Device.answerPlace
  split <;> exact h.answer _ _

/-! #### What is looked up -/

theorem wave? (h : d.AtRest) (r : Nat) : d.wave? r = none := by rw [Device.wave?, h.waves]; rfl

theorem named? (h : d.AtRest) (p : Addr) (n : Byte) : d.named? p n = none := by rw [Device.named?, h.waves]; rfl

theorem batch? (h : d.AtRest) (b : Nat) : d.batch? b = none := by rw [Device.batch?, h.batches]; rfl

theorem queued (h : d.AtRest) : d.queued = [] := by rw [Device.queued, h.fireQ]; rfl

/-! #### The work's own operations find nothing to do -/

theorem dispatch (h : d.AtRest) : d.dispatch = d := by
  have hlane : ∀ i, d.dispatchLane i = d := fun i => by simp [dispatchLane, firstFor, h.queued]
  exact List.foldl_fixed' hlane _

theorem recompute (h : d.AtRest) : d.recompute = d := by
  rw [Device.recompute, Device.onWu, h.waves, List.map_nil, ← h.waves]

theorem offerEval (h : d.AtRest) : d.offerEval = d := by
  have hnone : d.topCandidate = none := by simp [topCandidate, h.batches, sortBy]
  simp [Device.offerEval, hnone]

theorem evaluate (h : d.AtRest) : d.evaluate = d := by
  unfold Device.evaluate
  split
  · rfl
  · simp only [h.recompute, h.waves, h.batches, List.map_nil, List.foldl_nil, h.offerEval]

theorem evaluateSince (h : d.AtRest) (b : Device) : d.evaluateSince b = d := by
  unfold Device.evaluateSince
  split
  · rfl
  · exact h.evaluate

theorem formWaiting (h : d.AtRest) : d.formWaiting = d := by
  simp [Device.formWaiting, formOthers, waitingWaves, h.waves, sortBy]

theorem unreserve (h : d.AtRest) (lane : Option (Fin 8)) : (d.unreserve lane).AtRest := by
  cases lane with
  | some i => exact h.onLane fun _ => rfl
  | none => exact h

theorem releaseTaker (h : d.AtRest) (lane : Option (Fin 8)) : (d.releaseTaker lane).AtRest := by
  have hu := h.unreserve lane
  rw [Device.releaseTaker, hu.dispatch, hu.formWaiting, hu.evaluateSince]
  exact hu

theorem dropQualified (h : d.AtRest) : d.dropQualified.AtRest := by
  unfold Device.dropQualified
  split
  · have hx := h.onRx fun x => { x with taker := .notTaker }
    refine h.ite fun _ => ?_
    rwa [hx.formWaiting, hx.evaluateSince]
  · exact h

theorem setOutputs (h : d.AtRest) : d.setOutputs.AtRest := by
  refine h.same rfl rfl rfl rfl rfl fun i => ?_
  rw [setOutputs_lane]

/-! #### Presses, compares and the conditions of the records -/

theorem press (h : d.AtRest) (i : Fin 8) : (d.press i).AtRest := by
  have hp := h.onLane (i := i) (f := fun l => { l with lastPress := some d.now }) fun _ => rfl
  unfold Device.press
  split
  · exact h
  · unfold pressAct
    split
    · exact hp
    · next b hb =>
      obtain ⟨bid, -, hb⟩ := Option.bind_eq_some_iff.mp hb
      rw [hp.batch?] at hb
      cases hb

theorem turnCompare (h : d.AtRest) (i : Fin 8) : d.turnCompare i = d := by simp [Device.turnCompare, h.idle i]

theorem flashEnd (h : d.AtRest) (i : Fin 8) : (d.flashEnd i).AtRest := by
  unfold Device.flashEnd
  exact h.ite fun _ => h.onLane fun _ => rfl

theorem dueCompare (h : d.AtRest) (i : Fin 8) : d.dueCompare i = d := by simp [Device.dueCompare, h.idle i]

theorem callOverdue (h : d.AtRest) (i : Fin 8) : d.callOverdue i = d := by
  simp [Device.callOverdue, callDue, h.idle i]

theorem dueOverdue (h : d.AtRest) (i : Fin 8) : d.dueOverdue i = d := by simp [Device.dueOverdue, dueDue, h.idle i]

theorem laneBoundary (h : d.AtRest) (i : Fin 8) : (d.laneBoundary i).AtRest := by
  have hf := h.flashEnd i
  rwa [Device.laneBoundary, h.turnCompare, hf.dueCompare, hf.callOverdue, hf.dueOverdue]

theorem onNamed (h : d.AtRest) (pass : Addr) (num : Byte) (f : Nat → Device → Device) : d.onNamed pass num f = d := by
  simp [Device.onNamed, h.named?]

theorem foldl_laneBoundary (h : d.AtRest) (l : List (Fin 8)) : (l.foldl Device.laneBoundary d).AtRest := by
  induction l generalizing d with
  | nil => exact h
  | cons i l ih =>
    rw [List.foldl_cons]
    exact ih (h.laneBoundary i)

end Device.AtRest

/-- The work of a boundary: the lanes, the batches that expire, the waves (R87, R99, R100, R122, R134, R136 to R138,
R166). -/
def Device.workBoundary (d : Device) : Device :=
  let d2 : Device := (List.finRange 8).foldl Device.laneBoundary d
  let d3 : Device := (d2.bp.batches.map (·.bid)).foldl (fun x b => x.holdExpiry b) d2
  (d3.wu.waves.map (·.ref)).foldl Device.waveBoundary d3

theorem Device.boundaryEvents_work (d : Device) :
    d.boundaryEvents = d.periodEnd.listenEnd.quietEnd.workBoundary.markPlace := rfl

theorem Device.AtRest.workBoundary {d : Device} (h : d.AtRest) : d.workBoundary.AtRest := by
  have hl := h.foldl_laneBoundary (List.finRange 8)
  unfold Device.workBoundary
  simp only [hl.batches, hl.waves, List.map_nil, List.foldl_nil]
  exact hl

/-! ### The rows of the port and of the work -/

theorem Device.not_takesPassCommands {d : Device} (hs : d.Waiting) : d.takesPassCommands = false := by
  rcases hs with hs | hs <;> simp [takesPassCommands, hs]

end Sys2Proof.Machine

namespace Sys2Proof

open Machine Machine.Device

/-- An answer, and before it the setup or the notices alone changed. -/
theorem Machine.Device.AtRest.onPort {d : Device} (h : d.AtRest) (f : Sp → Sp) (st : Status) (l : List Byte) :
    ((d.onSp f).answer st l).AtRest := (h.onSp f).answer st l

theorem Machine.Lane.acknowledge_state (l : Lane) : l.acknowledge.state = l.state := by
  unfold Lane.acknowledge
  split <;> rfl

/-- Of the rows that leave the line alone, none gives a station in STANDBY or LISTEN work. -/
theorem Instr.effect_atRest {c : Instr} (hc : c.offLine = true) {d : Device} (hs : d.Waiting) (h : d.AtRest) :
    (c.effect d).AtRest := by
  have hpass := not_takesPassCommands hs
  cases c with
  | waveClose pass num => exact h.ofEq (h.onNamed pass num _)
  | waveSettle pass num => exact h.ofEq (h.onNamed pass num _)
  | waveAbandon pass num => exact h.ofEq (h.onNamed pass num _)
  | passWaveAbandon pass num => exact h.ofEq (h.onNamed pass num _)
  | slipCutoff pass num => exact h.ofEq (h.onNamed pass num _)
  | batchReleased seq => exact h.ite fun _ => by rwa [h.dispatch, h.evaluate]
  | batchBehind seq => exact h.ite fun _ => by rwa [h.evaluate]
  | offerRetryDue seq => exact h.ite fun _ => by rwa [h.evaluate]
  | holdExpiry seq =>
    have he : d.holdExpired seq = d := by simp [holdExpired, h.batches]
    exact h.ofEq he
  | turnCompare i => exact h.ofEq (h.turnCompare i)
  | turnFlashEnd i => exact h.flashEnd i
  | dueCompare i => exact h.ofEq (h.dueCompare i)
  | callOverdue i => exact h.ofEq (h.callOverdue i)
  | dueOverdue i => exact h.ofEq (h.dueOverdue i)
  | buttonPress i inAccept =>
    exact .ite' (h.same rfl rfl rfl rfl rfl fun _ => rfl) (h.press i)
  | loadDish p =>
    change (d.loadDish p).AtRest
    unfold Device.loadDish
    exact .ite' (h.answer _ _) (.ite' (h.answer _ _) (.ite' (h.answer _ _) (.ite' (h.answer _ _)
      (.ite' (h.answer _ _) (h.onPort _ _ _)))))
  | clearMenu p =>
    exact .ite' (h.answer _ _) (.ite' (h.answer _ _) (h.onPort _ _ _))
  | silence p =>
    refine .ite' (h.answer _ _) (AtRest.answer ?_ _ _)
    exact h.same rfl rfl rfl rfl rfl fun i => by simp [lane, Lane.acknowledge_state]
  | ring p =>
    exact .ite' (h.answer _ _) (h.same rfl rfl rfl rfl rfl fun _ => rfl)
  | openWave p =>
    have he : d.openWave p = d.answer .wrongState [] := by simp [Device.openWave, hpass]
    exact (h.answer _ _).ofEq he
  | issueTicket p =>
    have he : d.issueTicket p = d.answer .wrongState [] := by simp [Device.issueTicket, hpass]
    exact (h.answer _ _).ofEq he
  | voidTicket p =>
    have he : d.voidTicket p = d.answer .wrongState [] := by simp [Device.voidTicket, hpass]
    exact (h.answer _ _).ofEq he
  | sendPickup p =>
    have he : d.sendPickup p = d.answer .wrongState [] := by simp [Device.sendPickup, hpass]
    exact (h.answer _ _).ofEq he
  | readWave p =>
    exact .ite' (h.answer _ _) (.ite' (h.answer _ _) (.ite' (h.answerPlace _ _ _)
      (.ite' (h.answerPlace _ _ _) (h.answer _ _))))
  | readTicket p =>
    exact .ite' (h.answer _ _) (.ite' (.ite' (h.answerPlace _ _ _) (.ite' (h.answerPlace _ _ _) (h.answer _ _)))
      (.ite' (h.answerPlace _ _ _) (h.answerPlace _ _ _)))
  | readBatch p =>
    refine .ite' (h.answer _ _) (.ite' (h.answer _ _) (.ite' ?_ (h.answerPlace _ _ _)))
    split <;> exact h.answer _ _
  | readLane p =>
    change (d.readLane p).AtRest
    unfold Device.readLane
    (repeat' split) <;> exact h.answer _ _
  | readNotice p =>
    refine .ite' (h.answer _ _) ?_
    split
    · exact h.answer _ _
    · exact h.onPort _ _ _
  | unknownCommand code p => exact .ite' h (h.answer _ _)
  | nullSelect p => exact h
  | messageCutShort p => exact h.ite fun _ => h.answer _ _
  | _ => exact absurd hc nofun

end Sys2Proof
end

section
/-! The line as the Frame Engine holds it, through every operation of the clock and the Link (O52). -/

namespace Sys2Proof.Machine

open Device

/-! ### The frame in hand -/

/-- What the Frame Engine has in hand: the frame it follows, and whether one of its own is in flight. -/
def Device.inHand (d : Device) : Option Rx × Bool := (d.fe.rx, d.fe.inFlight.isSome)

theorem Device.Kept.inHand {d e : Device} (h : d.Kept e) : e.inHand = d.inHand := by
  unfold Device.inHand
  rw [h.rx, h.flight]

theorem Device.inHand_congr {d e : Device} (h : e.fe = d.fe) : e.inHand = d.inHand := by
  unfold inHand
  rw [h]

@[simp] theorem Device.listenEnd_inHand (d : Device) : d.listenEnd.inHand = d.inHand := by
  unfold listenEnd
  split <;> rfl

@[simp] theorem Device.quietEnd_inHand (d : Device) : d.quietEnd.inHand = d.inHand := by
  unfold quietEnd
  split <;> rfl

@[simp] theorem Device.markPlace_inHand (d : Device) : d.markPlace.inHand = d.inHand := by
  unfold markPlace
  split <;> rfl

@[simp] theorem Device.settleBoundary_inHand (d : Device) : d.settleBoundary.inHand = d.inHand := by
  have hl : d.lineReturn.inHand = d.inHand := inHand_congr (lineReturn_fe d)
  cases hb : d.sck.atBoundary with
  | false => rw [settleBoundary_of_settled hb, hl]
  | true =>
    obtain ⟨e, hk, hd⟩ := boundaryEvents_eq d.lineReturn
    have hp : d.lineReturn.periodEnd.inHand = d.inHand := (inHand_congr (periodEnd_line _).1).trans hl
    rw [settleBoundary_of_boundary hb, inHand_congr (onSck_fe _ _), hd, markPlace_inHand, hk.inHand, quietEnd_inHand,
      listenEnd_inHand, hp]

@[simp] theorem Device.passSlots_inHand (n : Nat) (d : Device) : (d.passSlots n).inHand = d.inHand := by
  unfold passSlots
  dsimp only
  (repeat' split) <;> rfl

@[simp] theorem Device.pass_inHand (n : Nat) (d : Device) : (d.pass n).inHand = d.inHand := by
  unfold pass
  split
  · rfl
  · exact settleBoundary_inHand d

@[simp] theorem Device.untilStart_inHand (w : Wait) (d : Device) : (d.untilStart w).inHand = d.inHand := by
  have hl : d.lineReturn.quietLine.inHand = d.inHand := inHand_congr (d := d) (e := d.lineReturn) (lineReturn_fe d)
  rw [untilStart, pass_inHand, passSlots_inHand, hl]

/-- What O52 keeps, by name. -/
structure Device.InLine (d : Device) : Prop where
  flight  : d.fe.inFlight.isSome → d.fe.station = .onLine ∧ d.fe.rx = none
  standby : d.fe.station = .standby → d.fe.rx = none
  listen  : d.fe.station = .listen → ∀ r, d.fe.rx = some r → r.startState = .listen
  counts  : d.fe.station = .listen ∨ d.fe.station = .onLine → d.fe.tecCount < 128 ∧ d.fe.recCount < 128
  idle    : d.fe.idleCount ≤ 11
  silentA : d.lif.silenceA ≤ 16
  silentB : d.lif.silenceB ≤ 16
  silent  : d.fe.station = .standby → d.lif.silenceA = 0 ∧ d.lif.silenceB = 0
  rest    : d.Waiting → d.AtRest

theorem Device.inLine_iff (d : Device) : d.InLine ↔ d.linkOk ∧ d.restOk := by
  rw [restOk_iff]
  refine ⟨fun h => ⟨⟨h.flight, h.standby, h.listen, h.counts, h.idle, h.silentA, h.silentB, h.silent⟩, h.rest⟩, ?_⟩
  rintro ⟨⟨hf, hs, hl, hc, hi, ha, hb, h0⟩, hr⟩
  exact ⟨hf, hs, hl, hc, hi, ha, hb, h0, hr⟩

namespace Device.InLine

variable {d e : Device}

/-! ### What stands -/

theorem ofLineKept (h : d.InLine) (k : d.LineKept e) (hr : d.Waiting → d.AtRest → e.AtRest) : e.InLine where
  flight := by rw [k.flight, k.station, k.rx]; exact h.flight
  standby := by rw [k.station, k.rx]; exact h.standby
  listen := by rw [k.station, k.rx]; exact h.listen
  counts := by rw [k.station, k.tecCount, k.recCount]; exact h.counts
  idle := by rw [k.idleCount]; exact h.idle
  silentA := by rw [k.lif]; exact h.silentA
  silentB := by rw [k.lif]; exact h.silentB
  silent := by rw [k.station, k.lif]; exact h.silent
  rest hs := by
    have hs : d.Waiting := by rwa [Waiting, k.station] at hs
    exact hr hs (h.rest hs)

theorem ofKept (h : d.InLine) (k : d.Kept e) (hr : d.Waiting → d.AtRest → e.AtRest) : e.InLine := h.ofLineKept (.ofKept k) hr

/-- A working station at rest is no case: what the work does there needs no look. -/
theorem ofWorking (h : d.InLine) (k : d.Kept e) (hw : ¬d.Waiting) : e.InLine := h.ofKept k fun hs => absurd hs hw

theorem not_waiting_of_flight (h : d.InLine) (hf : d.fe.inFlight.isSome) : ¬d.Waiting := by
  have hs := (h.flight hf).1
  simp [Waiting, hs]

theorem ite {p : Prop} [Decidable p] {x y : Device} (hx : p → x.InLine) (hy : ¬p → y.InLine) :
    (if p then x else y).InLine := by
  split
  · next h => exact hx h
  · next h => exact hy h

theorem onSck (h : d.InLine) (f : Sck → Sck) : (d.onSck f).InLine :=
  ⟨h.flight, h.standby, h.listen, h.counts, h.idle, h.silentA, h.silentB, h.silent, fun hs => (h.rest hs).onSck f⟩

theorem onSp (h : d.InLine) (f : Sp → Sp) : (d.onSp f).InLine :=
  ⟨h.flight, h.standby, h.listen, h.counts, h.idle, h.silentA, h.silentB, h.silent, fun hs => (h.rest hs).onSp f⟩

theorem notify (h : d.InLine) (n : NoticeBody) : (d.notify n).InLine := h.onSp _

theorem answer (h : d.InLine) (st : Status) (l : List Byte) : (d.answer st l).InLine := h.onSp _

theorem setOutputs (h : d.InLine) : d.setOutputs.InLine :=
  ⟨h.flight, h.standby, h.listen, h.counts, h.idle, h.silentA, h.silentB, h.silent, fun hs => (h.rest hs).setOutputs⟩

theorem quietLine (h : d.InLine) : d.quietLine.InLine :=
  ⟨h.flight, h.standby, h.listen, h.counts, h.idle, h.silentA, h.silentB, h.silent,
    fun hs => (h.rest hs).same rfl rfl rfl rfl rfl fun _ => rfl⟩

theorem drive (h : d.InLine) (a : LineAct) : (d.drive a).InLine :=
  ⟨h.flight, h.standby, h.listen, h.counts, h.idle, h.silentA, h.silentB, h.silent,
    fun hs => (h.rest hs).same rfl rfl rfl rfl rfl fun _ => rfl⟩

/-! ### The line and its counts -/

/-- The line changed, the silence counts within their cap. -/
theorem onLif (h : d.InLine) {f : Lif → Lif} (ha : (f d.lif).silenceA ≤ 16) (hb : (f d.lif).silenceB ≤ 16)
    (h0 : d.fe.station = .standby → (f d.lif).silenceA = 0 ∧ (f d.lif).silenceB = 0) : (d.onLif f).InLine :=
  ⟨h.flight, h.standby, h.listen, h.counts, h.idle, ha, hb, h0, fun hs => (h.rest hs).onLif f⟩

theorem frameEnds (h : d.InLine) (lock : LineLock) (agree : Bool) : (d.onLif (Lif.frameEnds lock agree)).InLine :=
  h.onLif h.silentA h.silentB h.silent

theorem hear (h : d.InLine) (q : Silences) : (d.hear q).InLine := by
  unfold Device.hear
  refine ite (fun _ => h) fun hs => h.onLif (Nat.le_of_lt_succ q.silentA.isLt) (Nat.le_of_lt_succ q.silentB.isLt) ?_
  exact fun h0 => absurd (beq_iff_eq.mpr h0) hs

theorem changeMode (h : d.InLine) (m : LineMode) (c : ModeCause) : (d.changeMode m c).InLine :=
  (h.notify _).onLif h.silentA h.silentB h.silent

theorem lineReturn (h : d.InLine) : d.lineReturn.InLine := by
  unfold Device.lineReturn
  exact ite (fun _ => (h.changeMode _ _).onLif h.silentA h.silentB h.silent) fun _ => h

theorem setIdle (h : d.InLine) {n : Nat} (hn : n ≤ 11) : (d.onFe fun f => { f with idleCount := n }).InLine :=
  ⟨h.flight, h.standby, h.listen, h.counts, hn, h.silentA, h.silentB, h.silent,
    fun hs => (h.rest hs).same rfl rfl rfl rfl rfl fun _ => rfl⟩

theorem edge (h : d.InLine) : d.edge.InLine := h.setIdle (Nat.zero_le _)

theorem passSlots (h : d.InLine) (n : Nat) : (d.passSlots n).InLine := by
  unfold Device.passSlots
  extract_lets d1
  refine ite (fun _ => h) fun _ => ?_
  have h1 : d1.InLine := ite (fun _ => h.setIdle (Nat.min_le_left _ _)) fun _ => h
  refine ite (fun _ => h1) fun hs => h1.onLif (Nat.min_le_left _ _) (Nat.min_le_left _ _) fun h0 => ?_
  have hst : d1.fe.station = d.fe.station := by
    simp only [d1]
    split <;> rfl
  exact absurd (beq_iff_eq.mpr (hst ▸ h0)) hs

/-! ### Time passes -/

theorem periodEnd (h : d.InLine) : d.periodEnd.InLine := by
  have hstep : ∀ k n, (d.stepClock k n).InLine := fun k n => (h.onSck _).notify _
  have hcorr : d.forwardOrCorrect.InLine := by
    unfold forwardOrCorrect
    split
    · exact ite (fun _ => (hstep _ _).onSck _) fun _ => h.onSck _
    · exact h.onSck _
  have hmean : d.meanStep.InLine := by
    unfold meanStep
    split
    · exact ite (fun _ => h) fun _ => hstep _ _
    · exact h
  have hact : d.periodAction.InLine := by
    unfold periodAction
    split
    · exact h
    · exact ite (fun _ => h) fun _ => hmean
    · exact hcorr
    · exact h.onSck _
  unfold Device.periodEnd
  exact ite (fun _ => (hact.onSck _).setOutputs) fun _ => h

/-- A station that does not drive has no frame in flight. -/
theorem no_flight (h : d.InLine) (hs : d.fe.station ≠ .onLine) : d.fe.inFlight = none := by
  by_contra hf
  exact hs (h.flight (Option.isSome_iff_ne_none.mpr hf)).1

/-- A station comes ON_LINE with both error counts below 128. -/
theorem comesOnLine (h : d.InLine) (hs : d.fe.station ≠ .onLine) {e : Device} (hl : e.lif = d.lif)
    (hst : e.fe.station = .onLine) (hf : e.fe.inFlight = d.fe.inFlight) (hi : e.fe.idleCount = d.fe.idleCount)
    (hc : e.fe.tecCount < 128 ∧ e.fe.recCount < 128) : e.InLine where
  flight := by simp [hf, h.no_flight hs]
  standby := by simp [hst]
  listen := by simp [hst]
  counts _ := hc
  idle := hi ▸ h.idle
  silentA := hl ▸ h.silentA
  silentB := hl ▸ h.silentB
  silent := by simp [hst]
  rest := by simp [Waiting, hst]

theorem listenEnd (h : d.InLine) : d.listenEnd.InLine := by
  unfold Device.listenEnd
  refine ite (fun hs => ?_) fun _ => h
  have hl : d.fe.station = .listen := by simp_all
  exact h.comesOnLine (by simp [hl]) rfl rfl rfl rfl (h.counts (.inl hl))

theorem quietEnd (h : d.InLine) : d.quietEnd.InLine := by
  unfold Device.quietEnd
  refine ite (fun hs => ?_) fun _ => h
  have hq : d.fe.station = .quiet := by simp_all
  exact h.comesOnLine (by simp [hq]) rfl rfl rfl rfl ⟨Nat.zero_lt_succ _, Nat.zero_lt_succ _⟩

theorem workBoundary (h : d.InLine) : d.workBoundary.InLine := h.ofKept (workBoundary_kept d) fun _ hr => hr.workBoundary

theorem markPlace (h : d.InLine) : d.markPlace.InLine := by
  unfold Device.markPlace
  extract_lets d1
  have h1 : d1.InLine := h.onSck _
  refine ite (fun hs => ?_) fun _ => h1
  have hon : d.fe.station = .onLine := by simp_all
  exact h1.ofWorking (place_kept _ _) (by simp [Waiting, d1, hon])

theorem boundaryEvents (h : d.InLine) : d.boundaryEvents.InLine :=
  h.periodEnd.listenEnd.quietEnd.workBoundary.markPlace

theorem settleBoundary (h : d.InLine) : d.settleBoundary.InLine := by
  unfold Device.settleBoundary
  exact ite (fun _ => h.lineReturn.boundaryEvents.onSck _) fun _ => h.lineReturn

theorem pass (h : d.InLine) (n : Nat) : (d.pass n).InLine := by
  unfold Device.pass
  exact ite (fun _ => h) fun _ => h.settleBoundary.onSck _

theorem letPass (h : d.InLine) (n : Nat) : (d.letPass n).InLine := by
  unfold Device.letPass
  exact (h.passSlots _).onSck _

theorem passIdle (h : d.InLine) (n : Nat) : (d.passIdle n).InLine := by
  unfold Device.passIdle
  exact ite (fun _ => h) fun _ => h.settleBoundary.letPass n

theorem countTick (h : d.InLine) : (d.onFe Fe.countTick).InLine := by
  have hc : ∀ f : Fe, f.countTick.inFlight = f.inFlight ∧ f.countTick.rx = f.rx ∧ f.countTick.tecCount = f.tecCount ∧
      f.countTick.recCount = f.recCount ∧ f.countTick.idleCount = f.idleCount ∧ f.countTick.txq = f.txq := fun f => by
    unfold Fe.countTick
    split <;> exact ⟨rfl, rfl, rfl, rfl, rfl, rfl⟩
  obtain ⟨hf, hx, ht, hr, hi, hq⟩ := hc d.fe
  have hst : (d.onFe Fe.countTick).fe.station = d.fe.station := Fe.countTick_station _
  refine ⟨?_, ?_, ?_, ?_, ?_, h.silentA, h.silentB, ?_, fun hs => ?_⟩
  · rw [hst, onFe_fe, hf, hx]; exact h.flight
  · rw [hst, onFe_fe, hx]; exact h.standby
  · rw [hst, onFe_fe, hx]; exact h.listen
  · rw [hst, onFe_fe, ht, hr]; exact h.counts
  · rw [onFe_fe, hi]; exact h.idle
  · rw [hst]; exact h.silent
  · have hs : d.Waiting := by rwa [Waiting, hst] at hs
    exact (h.rest hs).same rfl rfl rfl rfl hq fun _ => rfl

theorem newTick (h : d.InLine) : d.newTick.InLine := by
  obtain ⟨e, he, hd⟩ := newTick_eq d
  have hb : d.tickBegun.InLine := ((h.onSck _).countTick.onSck _).setOutputs
  rw [hd, ← he]
  exact (hb.ofKept (tickWork_kept _) fun _ hr => by rwa [hr.dispatch, hr.evaluate]).onSck _

theorem endTick (h : d.InLine) : d.endTick.InLine := (h.passSlots _).newTick

theorem tickBoundary (h : d.InLine) : d.tickBoundary.InLine := h.settleBoundary.endTick

theorem crystalCount (h : d.InLine) : d.crystalCount.InLine := by
  unfold Device.crystalCount
  exact ite (fun _ => h.settleBoundary.letPass 1) fun _ => h.settleBoundary.endTick

theorem untilStart (h : d.InLine) (w : Wait) : (d.untilStart w).InLine := (h.lineReturn.quietLine.passSlots _).pass _

/-! ### Own frames -/

/-- An ON_LINE station between frames, its counts as a fate or a finding leaves them: QUIET at 128 (R46). -/
theorem quietIfDue (hs : d.fe.station = .onLine) (hf : d.fe.inFlight = none) (hx : d.fe.rx = none)
    (hi : d.fe.idleCount ≤ 11) (ha : d.lif.silenceA ≤ 16) (hb : d.lif.silenceB ≤ 16) :
    d.quietIfDue.InLine ∧ ¬d.quietIfDue.Waiting := by
  unfold Device.quietIfDue
  split
  · rw [enterQuiet_eq]
    refine ⟨⟨?_, ?_, ?_, ?_, hi, ha, hb, ?_, ?_⟩, ?_⟩ <;> simp [hf, Waiting]
  · refine ⟨⟨?_, ?_, ?_, ?_, hi, ha, hb, ?_, ?_⟩, ?_⟩ <;> simp_all [Waiting]

theorem endOwnFrame (h : d.InLine) (hf : d.fe.inFlight.isSome) (fate : Fate) (byDown agree : Bool) :
    (d.endOwnFrame fate byDown agree).InLine ∧ ¬(d.endOwnFrame fate byDown agree).Waiting := by
  obtain ⟨hon, hx⟩ := h.flight hf
  unfold Device.endOwnFrame
  extract_lets d1 d2 d3
  have h3 : d3.fe.station = .onLine ∧ d3.fe.inFlight = none ∧ d3.fe.rx = none ∧ d3.fe.idleCount ≤ 11 ∧
      d3.lif.silenceA ≤ 16 ∧ d3.lif.silenceB ≤ 16 := by
    cases fate <;> exact ⟨hon, rfl, hx, Nat.zero_le _, h.silentA, h.silentB⟩
  obtain ⟨h1, h2, h3, h4, h5, h6⟩ := h3
  exact quietIfDue h1 h2 h3 h4 h5 h6

theorem reportFate (h : d.InLine) (f : InFlight) (hf : d.fe.inFlight.isSome) (fate : Fate) (byDown short : Bool)
    (taker : Addr) (agree : Bool) : (d.reportFate f fate byDown short taker agree).InLine := by
  obtain ⟨hend, hwork⟩ := h.endOwnFrame hf fate byDown agree
  exact hend.ofWorking ((placerFate_kept _ _ _ _ _ _).trans (takeDeferred_kept _ _)) hwork

theorem fateOf (h : d.InLine) (k : Kind) (fate : Fate) (rep : OfferReply) (short : SlotReading) (line : Followed) :
    (d.fateOf k fate rep short line).InLine := by
  unfold Device.fateOf
  split
  · next f hf =>
    refine ite (fun _ => ?_) fun _ => h
    extract_lets drives d1
    have h1 : d1.InLine := ite (fun _ => h.quietLine.drive _) fun _ => h.quietLine
    have hf1 : d1.fe.inFlight = some f := by
      simp only [d1]
      split <;> exact hf
    exact (h1.hear _).reportFate f (by rw [hear_fe, hf1]; rfl) _ _ _ _ _
  · exact h

/-- What a contender has lost becomes a frame it follows (R27). -/
theorem loseArbitration (h : d.InLine) : d.loseArbitration.InLine := by
  unfold Device.loseArbitration
  split
  · exact h
  · next f hf =>
    extract_lets d1
    have hon : d.fe.station = .onLine := (h.flight (by rw [hf]; rfl)).1
    have hw : ¬d1.Waiting := by simp [Waiting, d1, Device.quietLine, hon]
    have h1 : d1.InLine :=
      ⟨nofun, fun hs => absurd (.inl hs) hw, fun hs => absurd (.inr hs) hw, fun _ => h.counts (.inr hon), h.idle, h.silentA,
        h.silentB, h.silent, fun hs => absurd hs hw⟩
    exact ite (fun _ => h1) fun _ => h1.ofWorking (place_kept _ _) hw

theorem bitError (h : d.InLine) (inGap agree : Bool) : (d.bitError inGap agree).InLine := by
  unfold Device.bitError
  split
  · exact h
  · next f hf =>
    have hsome : d.fe.inFlight.isSome := by rw [hf]; rfl
    refine ite (fun _ => ?_) fun _ => ?_
    · exact ⟨fun _ => h.flight hsome, h.standby, h.listen, h.counts, h.idle, h.silentA, h.silentB, h.silent,
        fun hs => absurd hs (h.not_waiting_of_flight hsome)⟩
    · extract_lets d1
      have h1 : d1.InLine := ite (fun _ => h.quietLine.drive _) fun _ => h.quietLine
      refine h1.reportFate f ?_ _ _ _ _ _
      simp only [d1]
      split <;> exact hsome

theorem ownBitError (h : d.InLine) (inGap : Bool) (line : Followed) : (d.ownBitError inGap line).InLine := by
  unfold Device.ownBitError
  exact ite (fun _ => (h.hear _).bitError _ _) fun _ => h

/-- A frame begun by an ON_LINE station with no frame in hand (R26). -/
theorem beginFrame (h : d.InLine) (stamp : Stamp) (e : TxEntry) (b : Body) (hon : d.fe.station = .onLine)
    (hx : d.fe.rx = none) : (d.beginFrame stamp e b).InLine := by
  have hw : ¬d.Waiting := by simp [Waiting, hon]
  exact ⟨fun _ => ⟨hon, hx⟩, h.standby, h.listen, h.counts, Nat.zero_le _, h.silentA, h.silentB, h.silent,
    fun hs => absurd hs hw⟩

theorem contend (h : d.InLine) (start : OwnStart) : (d.contend start).InLine := by
  unfold Device.contend
  extract_lets d1 stamp r d2 d3
  refine ite (fun _ => h) fun hmay => ?_
  have h1 : d1.InLine := h.untilStart _
  obtain ⟨hon, hx⟩ : d1.fe.station = .onLine ∧ d1.fe.rx = none := by
    have hmay : d1.mayContend = true := by simpa using hmay
    simp only [mayContend, Bool.and_eq_true, and_assoc, mayDrive_iff, frameInHand] at hmay
    obtain ⟨-, hon, -, hno, -⟩ := hmay
    simp_all
  have hk : d1.Kept d2 := dropAsked_kept r.2 d1
  have hw : ¬d1.Waiting := by simp [Waiting, hon]
  have h2 : d2.InLine := h1.ofWorking hk hw
  clear_value d2 r stamp d1
  have h3 : d3.InLine ∧ d3.fe.station = .onLine := by
    simp only [d3]
    split
    · next x _ =>
      have hb := h2.beginFrame stamp x.1 x.2 (hk.station.trans hon) (hk.rx.trans hx)
      exact ⟨hb.hear _, by rw [hear_fe]; exact hk.station.trans hon⟩
    · exact ⟨h2, hk.station.trans hon⟩
  refine ite (fun _ => h3.1.ofWorking (offerEval_kept d3) ?_) fun _ => h3.1
  simp [Waiting, h3.2]

/-! ### Received frames -/

theorem rxStart (h : d.InLine) (w : Wait) : (d.rxStart w).InLine := by
  unfold Device.rxStart
  extract_lets d1
  refine ite (fun hl => ?_) fun _ => h
  have h1 : d1.InLine := h.untilStart w
  refine ite (fun _ => h1.edge) fun hfollows => ?_
  have hs : d1.fe.station ≠ .standby := by
    intro hs
    simp [follows, hs] at hfollows
  have hno : d1.fe.inFlight = none := by
    have hin : d.inHand = d1.inHand := (untilStart_inHand w d).symm
    simp_all [inHand, listens, frameInHand]
  exact ⟨by simp [Device.edge, hno], fun h0 => absurd h0 hs, fun hl r hr => by cases hr; exact hl, h1.counts, Nat.zero_le _,
    h1.silentA, h1.silentB, h1.silent, fun hw => (h1.rest hw).same rfl rfl rfl rfl rfl fun _ => rfl⟩

/-- A frame followed changed, its start as it was. -/
theorem onRx (h : d.InLine) {f : Rx → Rx} (hf : ∀ r, (f r).startState = r.startState) : (d.onRx f).InLine where
  flight hs := ⟨(h.flight hs).1, by simp [Device.onRx, (h.flight hs).2]⟩
  standby hs := by simp [Device.onRx, h.standby hs]
  listen hs r hr := by
    obtain ⟨r', hr', rfl⟩ := Option.map_eq_some_iff.mp hr
    rw [hf, h.listen hs r' hr']
  counts := h.counts
  idle := h.idle
  silentA := h.silentA
  silentB := h.silentB
  silent := h.silent
  rest hs := (h.rest hs).onRx f

theorem formWaiting (h : d.InLine) : d.formWaiting.InLine := h.ofKept (formWaiting_kept d) fun _ hr => by rwa [hr.formWaiting]

theorem evaluateSince (h : d.InLine) (b : Device) : (d.evaluateSince b).InLine :=
  h.ofKept (evaluateSince_kept b d) fun _ hr => by rwa [hr.evaluateSince]

theorem releaseTaker (h : d.InLine) (lane : Option (Fin 8)) : (d.releaseTaker lane).InLine :=
  h.ofKept (releaseTaker_kept lane d) fun _ hr => hr.releaseTaker lane

theorem markPartial (h : d.InLine) : d.markPartial.InLine :=
  h.ofKept (markPartial_kept d) fun _ hr => hr.same (by rw [Device.markPartial, onWu_wu, hr.waves, List.map_nil, ← hr.waves]) rfl rfl rfl rfl fun _ => rfl

theorem dropQualified (h : d.InLine) : d.dropQualified.InLine := by
  unfold Device.dropQualified
  split
  · exact ite (fun _ => ((h.onRx fun _ => by rfl).formWaiting).evaluateSince d) fun _ => h
  · exact h

theorem atBodyEnd_startState (raw : RawFrame) (r : Rx) (b : Body) (d : Device) :
    (d.atBodyEnd raw r b).startState = r.startState := by
  unfold atBodyEnd
  (repeat' split) <;> rfl

theorem rxBody (h : d.InLine) (k : Kind) (raw : RawFrame) : (d.rxBody k raw).InLine := by
  unfold Device.rxBody
  split
  · exact h.onRx fun _ => rfl
  · exact h.onRx fun _ => atBodyEnd_startState _ _ _ _

theorem driveShort (h : d.InLine) (r : Rx) : (d.driveShort r).InLine := by
  unfold Device.driveShort
  split
  · exact ite (fun _ => h.drive _) fun _ => h
  · exact h

theorem reserve (h : d.InLine) (lane : Option (Fin 8)) : (d.reserve lane).InLine :=
  h.ofKept (reserve_kept lane d) fun _ hr => by
    cases lane with
    | some i => exact hr.onLane fun _ => rfl
    | none => exact hr

theorem takerSlots (h : d.InLine) (rep : OfferReply) (dish : Byte) : (d.takerSlots rep dish).InLine := by
  rcases takerSlots_cases rep dish d with he | he | ⟨-, -, -, -, -, ⟨-, he⟩ | ⟨-, he⟩⟩ <;> rw [he]
  · exact h
  · exact h.dropQualified
  · exact (h.drive _).dropQualified
  · exact (((h.drive _).onRx fun _ => by rfl).reserve _).drive _

theorem rxReply (h : d.InLine) (k : Kind) (raw : RawFrame) (gapFault : Bool) (rep : OfferReply) :
    (d.rxReply k raw gapFault rep).InLine := by
  unfold Device.rxReply
  extract_lets d1
  have h1 : d1.InLine := h.onRx fun _ => rfl
  split
  · exact h1.driveShort _
  · exact (ite (fun _ => h1.dropQualified) fun _ => h1.takerSlots _ _).onRx fun _ => rfl
  · exact h1.dropQualified

theorem takeTime_station (raw : RawFrame) (d : Device) : (d.takeTime raw).fe.station = d.fe.station := by
  unfold Device.takeTime
  dsimp only
  (repeat' split) <;> rfl

theorem takeTime (h : d.InLine) (raw : RawFrame) : (d.takeTime raw).InLine := by
  unfold Device.takeTime
  refine ite (fun _ => ?_) fun _ => h.onSck _
  exact ite (fun _ => h.onSck _) fun _ => (h.onSck _).notify _

/-- The finding on a frame that is followed: the frame ends, and is counted; a station that worked works on, and another
is in LISTEN (R44, R46). -/
theorem closeAndCount (h : d.InLine) {r : Rx} (hr : d.fe.rx = some r) (agree bad : Bool) :
    ((d.closeRx agree).countHeard bad).InLine ∧
      (((d.closeRx agree).countHeard bad).Waiting → d.fe.station = .listen) := by
  have hno : d.fe.inFlight = none := by
    by_contra hf
    rw [(h.flight (Option.isSome_iff_ne_none.mpr hf)).2] at hr
    cases hr
  have hc : (d.closeRx agree).InLine :=
    ⟨fun _ => ⟨(h.flight ‹_›).1, rfl⟩, fun _ => rfl, fun _ _ hr => (nomatch hr), h.counts, Nat.zero_le _, h.silentA, h.silentB,
      h.silent, fun hs => (h.rest hs).same rfl rfl rfl rfl rfl fun _ => rfl⟩
  have hst : (d.closeRx agree).fe.station = d.fe.station := rfl
  unfold countHeard
  split
  · next hon =>
    obtain ⟨hi, hw⟩ := quietIfDue (d := (d.closeRx agree).onFe (fun f =>
      { f with recCount := if bad then f.recCount + 1 else f.recCount - 1 })) hon hno rfl (Nat.zero_le _) h.silentA h.silentB
    exact ⟨hi, fun hx => absurd hx hw⟩
  · next hq =>
    split
    · refine ⟨hc.markPartial, fun hw => ?_⟩
      have hw : (d.closeRx agree).Waiting := by rwa [Waiting, (markPartial_kept _).station] at hw
      simp [Waiting, hq] at hw
    · exact ⟨hc, fun hw => by simp [Waiting, hq] at hw⟩
  · next hs => rw [h.standby (hst ▸ hs)] at hr; cases hr
  · next hl => exact ⟨hc, fun _ => hst ▸ hl⟩

theorem rxAccept (h : d.InLine) (k : Kind) (raw : RawFrame) (lateFault : Bool) (acc : SlotReading) (agree : Bool) :
    (d.rxAccept k raw lateFault acc agree).InLine := by
  unfold Device.rxAccept
  split
  · exact h
  · next r hr =>
    extract_lets found bad d1 d2 taken d3
    have h1 : d1.InLine := ite (fun _ => h.drive _) fun _ => h
    have hr1 : d1.fe.rx = some r ∧ d1.fe.station = d.fe.station := by
      simp only [d1]
      split <;> exact ⟨hr, rfl⟩
    obtain ⟨h2, hw⟩ := h1.closeAndCount hr1.1 agree bad
    have h3 : d3.InLine := (ite (fun _ => h2.takeTime raw) fun _ => h2).onSck _
    have hst : d3.fe.station = d2.fe.station := by
      simp only [d3]
      split
      · exact takeTime_station raw d2
      · rfl
    split
    · refine ite (fun ht => h3.ofWorking (deliver_kept _ _ _ _) fun h0 => ?_) fun _ => ?_
      · have hl : d.fe.station = .listen := hr1.2 ▸ hw (by rwa [Waiting, hst] at h0)
        have hstart := h.listen hl r hr
        simp [hstart, StationState.applies] at ht
      · split
        · exact h3.releaseTaker _
        · exact h3
    · exact h3

theorem codingViolation (h : d.InLine) (w : Wait) (line : Followed) : (d.codingViolation w line).InLine := by
  unfold Device.codingViolation
  extract_lets d0
  have h0 : d0.InLine := h.rxStart w
  split
  · exact ite (fun _ => h0.hear _) fun _ => h
  · next r hr =>
    extract_lets d1 d2
    refine ite (fun _ => h) fun _ => ?_
    have h1 : (d1.hear line.toSilences).InLine := (ite (fun _ => h0.drive _) fun _ => h0).hear _
    have hr1 : (d1.hear line.toSilences).fe.rx = some r := by
      rw [hear_fe]
      simp only [d1]
      split <;> exact hr
    have h2 : d2.InLine := (h1.closeAndCount hr1 _ _).1.onSck _
    exact ite (fun _ => h2.formWaiting.evaluateSince d2) fun _ => h2

theorem receive (h : d.InLine) (k : Kind) (x : Heard) (rep : OfferReply) : (d.receive k x rep).InLine := by
  unfold Device.receive
  extract_lets d0 d1
  have hp : (d0.pass x.lasted).InLine := (h.rxStart _).pass _
  split
  · exact ite (fun _ => hp.hear _) fun _ => h
  · refine ite (fun _ => hp.codingViolation _ _) fun _ => ite (fun _ => h) fun _ => ?_
    extract_lets d2 d3
    have h1 : d1.InLine := (hp.hear _).onRx fun _ => rfl
    have h2 : d2.InLine := ite (fun _ => h1.rxBody _ _) fun _ => h1
    have h3 : d3.InLine := ite (fun _ => h2.rxReply _ _ _ _) fun _ => h2
    exact ite (fun _ => h3.rxAccept _ _ _ _ _) fun _ => h3

/-! ### Line failures -/

theorem failover (h : d.InLine) (inGap : Bool) : (d.failover inGap).InLine := by
  unfold Device.failover
  split
  · exact h.bitError _ _
  · exact h.quietLine.dropQualified.onRx fun _ => rfl

theorem wireFails (h : d.InLine) (w : Wire) (x : Failure) : (d.wireFails w x).InLine := by
  unfold Device.wireFails
  refine ite (fun hs => ?_) fun _ => h
  extract_lets d1 d2
  have hst : d.fe.station ≠ .standby := by
    rintro h0
    simp [h0] at hs
  have h1 : d1.InLine := h.changeMode _ _
  have hx : x.other.val ≤ 16 := by omega
  have h2 : d2.InLine := by
    refine h1.onLif ?_ ?_ fun h0 => absurd h0 hst
    · cases w
      · exact Nat.le_refl 16
      · exact hx
    · cases w
      · exact hx
      · exact Nat.le_refl 16
  exact h2.failover _

theorem dropLine (h : d.InLine) : d.dropLine.InLine := by
  unfold Device.dropLine
  extract_lets d1 d2
  have h1 : d1.InLine := by
    simp only [d1]
    split
    · next f hf => exact h.reportFate f (by rw [hf]; rfl) _ _ _ _ _
    · exact h
  split
  · exact h1
  · next r hr =>
    have hno : d1.fe.inFlight = none := by
      by_contra hf
      rw [(h1.flight (Option.isSome_iff_ne_none.mpr hf)).2] at hr
      cases hr
    have h2 : d2.InLine :=
      ⟨fun hf => by simp [d2, hno] at hf, fun _ => rfl, fun _ _ hr => (nomatch hr), h1.counts, h1.idle, h1.silentA, h1.silentB,
        h1.silent, fun hs => (h1.rest hs).same rfl rfl rfl rfl rfl fun _ => rfl⟩
    split
    · exact h2
    · exact h2.formWaiting.evaluateSince d2
    · exact h2.releaseTaker _

theorem lineDown (h : d.InLine) (cause : DownCause) (other : Fin 2) : (d.lineDown cause other).InLine := by
  unfold Device.lineDown
  extract_lets found good d1 d2 d3
  refine ite (fun hs => ?_) fun _ => h
  have hst : d.fe.station ≠ .standby := by
    rintro h0
    simp [h0] at hs
  have h1 : d1.InLine := h.changeMode _ _
  have hx : other.val ≤ 16 := by omega
  have h2 : d2.InLine := by
    simp only [d2]
    split
    · exact h1.onLif (Nat.le_refl 16) (Nat.le_refl 16) fun h0 => absurd h0 hst
    · refine h1.onLif ?_ ?_ fun h0 => absurd h0 hst
      · cases good
        · exact Nat.le_refl 16
        · exact hx
      · cases good
        · exact hx
        · exact Nat.le_refl 16
  have h3 : d3.InLine := (h2.quietLine.setIdle (Nat.zero_le _)).dropLine
  exact ite (fun _ => h3.markPartial) fun _ => h3

theorem frameSeen (h : d.InLine) (x : Seen) : (d.frameSeen x).InLine := by
  unfold Device.frameSeen
  refine ite (fun hs => ?_) fun _ => h
  have hst : d.fe.station ≠ .standby := by
    rintro h0
    simp [h0] at hs
  have hx : x.other.val ≤ 16 := Nat.le_of_lt_succ x.other.isLt
  have h7 : 7 ≤ 16 := by decide
  refine ((h.changeMode _ _).onLif ?_ ?_ fun h0 => absurd h0 hst).setIdle (by decide)
  · cases x.wire
    · exact h7
    · exact hx
  · cases x.wire
    · exact hx
    · exact h7

/-! ### The setup commands -/

theorem applyLock (h : d.InLine) (c : ModeCause) : (d.applyLock c).InLine := by
  unfold Device.applyLock
  extract_lets m d1
  have h1 : d1.InLine := ite (fun _ => h) fun _ => h.changeMode _ _
  exact h1.onLif h1.silentA h1.silentB h1.silent

theorem configure (h : d.InLine) (p : List Byte) : (d.configure p).InLine := by
  unfold Device.configure
  refine ite (fun _ => h.answer _ _) fun _ => ite (fun _ => h.answer _ _) fun _ => ite (fun _ => h.answer _ _) fun _ => ?_
  refine InLine.answer (InLine.applyLock ?_ _) _ _
  have h1 := h.onSp fun x => { x with config := configOf d.isPass p }
  refine h1.ofKept (onLu_kept _ _) fun _ hr => hr.same rfl rfl rfl rfl rfl fun i => ?_
  have hi := hr.idle i
  simp only [lane, resetUnconfigured, onLu_lu, Fin.getElem_fin, Vector.getElem_ofFn] at hi ⊢
  split
  · rfl
  · rw [hi]; rfl

theorem join (h : d.InLine) (p : List Byte) : (d.join p).InLine := by
  unfold Device.join
  refine ite (fun _ => h.answer _ _) fun hs => ite (fun _ => h.answer _ _) fun _ => ite (fun _ => h.answer _ _) fun _ => ?_
  have hst : d.fe.station = .standby := by simpa using hs
  have hx := h.standby hst
  have hno := h.no_flight (by simp [hst])
  have hr := h.rest (.inl hst)
  refine InLine.answer ?_ _ _
  unfold enterListen
  extract_lets d1 d2
  have h2 : d2.InLine := by
    refine ⟨?_, ?_, ?_, ?_, Nat.zero_le _, h.silentA, h.silentB, nofun, fun _ => ?_⟩
    · simp [d2, d1, hno]
    · simp [d2, d1]
    · simp [d2, d1, hx]
    · simp [d2, d1]
    · exact hr.same rfl rfl rfl rfl rfl fun _ => rfl
  exact (h2.applyLock _).onLif (Nat.zero_le _) (Nat.zero_le _) fun _ => ⟨rfl, rfl⟩

theorem leave (h : d.InLine) (p : List Byte) : (d.leave p).InLine := by
  unfold Device.leave
  refine ite (fun _ => h.answer _ _) fun _ => ite (fun _ => h.answer _ _) fun _ => ?_
  refine InLine.answer (InLine.notify ?_ _) _ _
  refine ⟨nofun, fun _ => rfl, nofun, ?_, h.idle, Nat.zero_le _, Nat.zero_le _, fun _ => ⟨rfl, rfl⟩, fun _ => ?_⟩
  · rintro (hs | hs) <;> cases hs
  · refine ⟨rfl, rfl, rfl, rfl, rfl, rfl, rfl, rfl, fun i => ?_⟩
    simp [leaveAll, lane, Lane.left, Lane.reset]

theorem readStation (h : d.InLine) (n : Nat) (p : List Byte) : (d.readStation n p).InLine := by
  unfold Device.readStation
  exact ite (fun _ => (h.passIdle n).answer _ _) fun _ => (h.passIdle n).answer _ _

theorem reset (a : Addr) (k : ClassNo) : (Device.reset a k).InLine where
  flight := nofun
  standby _ := rfl
  listen := nofun
  counts := by rintro (hs | hs) <;> cases hs
  idle := Nat.zero_le _
  silentA := Nat.zero_le _
  silentB := Nat.zero_le _
  silent _ := ⟨rfl, rfl⟩
  rest _ := ⟨rfl, rfl, rfl, rfl, rfl, rfl, rfl, rfl, fun i => by simp [Device.reset, lane, Lu.reset, Lane.reset]⟩

end Device.InLine

end Sys2Proof.Machine

namespace Sys2Proof

open Machine Machine.Device

theorem Instr.effect_inLine (c : Instr) {d : Device} (h : d.InLine) : (c.effect d).InLine := by
  cases c with
  | reset a k => exact InLine.reset a k
  | tickBoundary => exact h.tickBoundary
  | periodEnd => exact h.periodEnd
  | markPlace => exact h.markPlace
  | contend start => exact h.contend start
  | arbitrationLost => exact h.loseArbitration
  | ownBitError inGap line => exact h.ownBitError inGap line
  | frameCodingViolation wait line => exact h.codingViolation wait line
  | markFrame x => exact h.receive _ x _
  | readyFrame x => exact h.receive _ x _
  | slipFrame x => exact h.receive _ x _
  | offerFrame x rep => exact h.receive _ x _
  | ticketFrame x => exact h.receive _ x _
  | voidFrame x => exact h.receive _ x _
  | pickupFrame x => exact h.receive _ x _
  | readyFate fate line => exact h.fateOf _ _ _ _ line
  | slipFate fate line => exact h.fateOf _ _ _ _ line
  | offerFate fate rep line => exact h.fateOf _ _ _ _ line
  | markFate fate line => exact h.fateOf _ _ _ _ line
  | ticketFate fate short line => exact h.fateOf _ _ _ _ line
  | voidFate fate line => exact h.fateOf _ _ _ _ line
  | pickupFate fate line => exact h.fateOf _ _ _ _ line
  | wireFailed wire failure => exact h.wireFails wire failure
  | lineReturn => exact h.lineReturn
  | lineDown cause other => exact h.lineDown cause other
  | frameSeen seen => exact h.frameSeen seen
  | quietEnd => exact h.quietEnd
  | listenEnd => exact h.listenEnd
  | configure p => exact h.configure p
  | join p => exact h.join p
  | leave p => exact h.leave p
  | readStation n p => exact h.readStation n p
  | _ => exact h.ofLineKept (Instr.effect_lineKept rfl d) fun hs hr => Instr.effect_atRest rfl hs hr

/-- Settles O52: each command, and each crystal count, keeps the line and the rest of a station without work. -/
theorem linkInvariant : Obligations.LinkInvariant := by
  intro s t hlink hrest hstep
  have h : s.dev.InLine := (inLine_iff _).mpr ⟨hlink, hrest⟩
  rw [← inLine_iff]
  rcases step_eq_next.mp hstep with ⟨c, rest, -, rfl⟩ | ⟨-, rfl⟩
  · exact c.effect_inLine h
  · exact h.crystalCount

end Sys2Proof
end

section
/-! Pools, lists, queues and the menu within their limits, through every operation of the work (O53). -/

namespace Sys2Proof.Machine

open Device

/-- What O53 keeps: the limits of the port, where it held them, and those of the rooms, where it held them. -/
structure Device.Roomy (P Q : Prop) (d : Device) : Prop where
  port : P → d.portOk
  room : Q → d.roomOk

/-- The pool records that a station held back as a possible taker takes (R150). -/
def TakerState.held : TakerState → Nat
  | .notTaker => 0
  | .qualified => 1
  | .won _ => 1

theorem Device.heldBack_eq (d : Device) : d.heldBack = (d.fe.rx.map (·.taker.held)).getD 0 := by
  unfold heldBack
  cases d.fe.rx with
  | none => rfl
  | some r => cases r with | mk start frame stage bad ticket taker => cases taker <;> rfl

theorem Device.heldBack_congr {d e : Device} (h : e.fe.rx = d.fe.rx) : e.heldBack = d.heldBack := by
  rw [heldBack_eq, heldBack_eq, h]

theorem pairwise_placeEntry (e : TxEntry) {q : List TxEntry} (h : q.Pairwise (fun a b => a.sameKey b = false)) :
    (placeEntry e q).Pairwise (fun a b => a.sameKey b = false) := by
  refine List.pairwise_append.mpr ⟨h.filter _, List.pairwise_singleton _ _, fun a ha b hb => ?_⟩
  obtain rfl := List.mem_singleton.mp hb
  simpa using (List.mem_filter.mp ha).2

theorem portOk_queueNotice (now : Tick) (n : NoticeBody) {d e : Device} (h : d.portOk)
    (he : e.sp = d.sp.queueNotice now n) : e.portOk := by
  obtain ⟨hn, hl, hm, ho, hc⟩ := h
  rw [portOk, he, Sp.queueNotice_menu]
  unfold Sp.queueNotice
  split
  · exact ⟨hn, hl, hm, ho, hc⟩
  · split
    · exact ⟨hn, Nat.min_le_left _ _, hm, ho, hc⟩
    · exact ⟨by simp; omega, hl, hm, ho, hc⟩

namespace Device.Roomy

variable {P Q : Prop} {d e : Device}

/-! ### One part of the device changed -/

/-- The rooms as they were, or smaller; the port as it was. -/
theorem same (h : d.Roomy P Q) (hsp : e.sp = d.sp)
    (hb : e.bp.batches.length + e.heldBack ≤ d.bp.batches.length + d.heldBack)
    (hh : e.bp.handed.length ≤ d.bp.handed.length)
    (hf : ∀ f, e.fe.inFlight = some f → ∃ g, d.fe.inFlight = some g ∧ f.entry = g.entry)
    (hw : (∀ w ∈ d.wu.waves, w.participants.length ≤ Config.participantCapacity) →
      ∀ w ∈ e.wu.waves, w.participants.length ≤ Config.participantCapacity)
    (hu : e.iu.queue.length ≤ d.iu.queue.length) (ht : e.ti.issues.length ≤ d.ti.issues.length)
    (hq : d.fe.txq.Pairwise (fun a b => a.sameKey b = false) → e.fe.txq.Pairwise (fun a b => a.sameKey b = false)) :
    e.Roomy P Q where
  port p := by
    have := h.port p
    rwa [portOk, ← hsp] at this
  room q := by
    obtain ⟨h1, h2, h3, h4, h5, h6, h7⟩ := h.room q
    refine ⟨hb.trans h1, hh.trans h2, fun f bid he ho => ?_, hw h4, hu.trans h5, ht.trans h6, hq h7⟩
    obtain ⟨g, hg, hfg⟩ := hf f he
    exact hh.trans_lt (h3 g bid hg (hfg ▸ ho))

theorem onSck (h : d.Roomy P Q) (f : Sck → Sck) : (d.onSck f).Roomy P Q := ⟨h.port, h.room⟩

theorem onLif (h : d.Roomy P Q) (f : Lif → Lif) : (d.onLif f).Roomy P Q := ⟨h.port, h.room⟩

theorem onLu (h : d.Roomy P Q) (f : Lu → Lu) : (d.onLu f).Roomy P Q := ⟨h.port, h.room⟩

theorem onLane (h : d.Roomy P Q) (i : Fin 8) (f : Lane → Lane) : (d.onLane i f).Roomy P Q := h.onLu _

theorem setOutputs (h : d.Roomy P Q) : d.setOutputs.Roomy P Q := h.onLu _

/-- The setup and the notices changed alone. -/
theorem onSp (h : d.Roomy P Q) {f : Sp → Sp} (hf : d.portOk → (d.onSp f).portOk) : (d.onSp f).Roomy P Q :=
  ⟨fun p => hf (h.port p), h.room⟩

theorem notify (h : d.Roomy P Q) (n : NoticeBody) : (d.notify n).Roomy P Q :=
  h.onSp fun hp => portOk_queueNotice _ _ hp rfl

theorem answer (h : d.Roomy P Q) (st : Status) (l : List Byte) : (d.answer st l).Roomy P Q := h.onSp id

theorem onTi (h : d.Roomy P Q) {f : Ti → Ti} (hf : (f d.ti).issues.length ≤ d.ti.issues.length) :
    (d.onTi f).Roomy P Q :=
  h.same rfl (Nat.le_refl _) (Nat.le_refl _) (fun f hf => ⟨f, hf, rfl⟩) id (Nat.le_refl _) hf id

theorem onIu (h : d.Roomy P Q) {f : Iu → Iu} (hf : (f d.iu).queue.length ≤ d.iu.queue.length) :
    (d.onIu f).Roomy P Q :=
  h.same rfl (Nat.le_refl _) (Nat.le_refl _) (fun f hf => ⟨f, hf, rfl⟩) id hf (Nat.le_refl _) id

theorem onBp (h : d.Roomy P Q) {f : Bp → Bp} (hb : (f d.bp).batches.length ≤ d.bp.batches.length)
    (hh : (f d.bp).handed.length ≤ d.bp.handed.length) : (d.onBp f).Roomy P Q :=
  h.same rfl (Nat.add_le_add_right hb _) hh (fun f hf => ⟨f, hf, rfl⟩) id (Nat.le_refl _) (Nat.le_refl _) id

theorem onWu (h : d.Roomy P Q) {f : Wu → Wu}
    (hf : (∀ w ∈ d.wu.waves, w.participants.length ≤ Config.participantCapacity) →
      ∀ w ∈ (f d.wu).waves, w.participants.length ≤ Config.participantCapacity) : (d.onWu f).Roomy P Q :=
  h.same rfl (Nat.le_refl _) (Nat.le_refl _) (fun f hf => ⟨f, hf, rfl⟩) hf (Nat.le_refl _) (Nat.le_refl _) id

/-- Wave records changed, none with more participants than there is room for. -/
theorem onWu_map (h : d.Roomy P Q) {f : Wu → Wu} {g : Wave → Wave} (hf : (f d.wu).waves = d.wu.waves.map g)
    (hg : ∀ w, w.participants.length ≤ Config.participantCapacity →
      (g w).participants.length ≤ Config.participantCapacity) : (d.onWu f).Roomy P Q :=
  h.onWu fun hw w hm => by
    rw [hf] at hm
    obtain ⟨v, hv, rfl⟩ := List.mem_map.mp hm
    exact hg v (hw v hv)

theorem onWave (h : d.Roomy P Q) (ref : Nat) {f : Wave → Wave}
    (hf : ∀ w, w.participants.length ≤ Config.participantCapacity →
      (f w).participants.length ≤ Config.participantCapacity) : (d.onWave ref f).Roomy P Q := by
  refine h.onWu_map rfl fun w hw => ?_
  split
  · exact hf w hw
  · exact hw

theorem onBatch (h : d.Roomy P Q) (bid : Nat) (f : Batch → Batch) : (d.onBatch bid f).Roomy P Q :=
  h.onBp (by simp) (Nat.le_refl _)

/-- The transmit queue changed alone. -/
theorem onTxq (h : d.Roomy P Q) {f : List TxEntry → List TxEntry}
    (hf : ∀ q : List TxEntry, q.Pairwise (fun a b => a.sameKey b = false) →
      (f q).Pairwise (fun a b => a.sameKey b = false)) :
    (d.onFe fun x => { x with txq := f x.txq }).Roomy P Q :=
  h.same rfl (Nat.le_refl _) (Nat.le_refl _) (fun f hf => ⟨f, hf, rfl⟩) id (Nat.le_refl _) (Nat.le_refl _) (hf _)

theorem place (h : d.Roomy P Q) (e : TxEntry) : (d.place e).Roomy P Q := h.onTxq fun _ => pairwise_placeEntry e

theorem withdraw (h : d.Roomy P Q) (e : TxEntry) : (d.withdraw e).Roomy P Q := h.onTxq fun _ => List.Pairwise.filter _

/-- The frame in flight changed, its entry as it was. -/
theorem onInFlight (h : d.Roomy P Q) {f : InFlight → InFlight} (hf : ∀ x, (f x).entry = x.entry) :
    (d.onFe fun x => { x with inFlight := x.inFlight.map f }).Roomy P Q := by
  refine h.same rfl (Nat.le_refl _) (Nat.le_refl _) (fun g hg => ?_) id (Nat.le_refl _) (Nat.le_refl _) id
  obtain ⟨x, hx, rfl⟩ := Option.map_eq_some_iff.mp hg
  exact ⟨x, hx, hf x⟩

theorem ite {c : Prop} [Decidable c] {x y : Device} (hx : c → x.Roomy P Q) (hy : ¬c → y.Roomy P Q) :
    (if c then x else y).Roomy P Q := by
  split
  · next h => exact hx h
  · next h => exact hy h

theorem foldl {α : Type} (h : d.Roomy P Q) {f : Device → α → Device}
    (hf : ∀ (x : Device) (a : α), x.Roomy P Q → (f x a).Roomy P Q) (l : List α) : (l.foldl f d).Roomy P Q := by
  induction l generalizing d with
  | nil => exact h
  | cons a l ih => exact ih (hf d a h)

/-! ### Records (spec/05 to spec/07) -/

theorem lowerDemand (h : d.Roomy P Q) (r : Nat) (c : Byte) (n : Nat) : (d.lowerDemand r c n).Roomy P Q :=
  h.onWave r fun _ hw => hw

theorem leaveFire (h : d.Roomy P Q) (b : Nat) : (d.leaveFire b).Roomy P Q := h.onBp (Nat.le_refl _) (Nat.le_refl _)

theorem reorderFire (h : d.Roomy P Q) : d.reorderFire.Roomy P Q := h.onBp (Nat.le_refl _) (Nat.le_refl _)

theorem joinFire (h : d.Roomy P Q) (b : Nat) : (d.joinFire b).Roomy P Q := by
  unfold Device.joinFire
  split
  · exact h.onBp (Nat.le_refl _) (Nat.le_refl _)
  · exact h

theorem takeOff (h : d.Roomy P Q) (b : Batch) : (d.takeOff b).Roomy P Q := by
  unfold Device.takeOff
  exact ite (fun _ => h) fun _ => h.onTi (Nat.le_refl _)

theorem withdrawWave (h : d.Roomy P Q) (r : Nat) : (d.withdrawWave r).Roomy P Q := (h.withdraw _).withdraw _

theorem dropFiled (h : d.Roomy P Q) (r : Nat) : (d.dropFiled r).Roomy P Q :=
  (h.onTi (List.length_filter_le _ _)).onBp (Nat.le_refl _) (List.length_filter_le _ _)

theorem retire (h : d.Roomy P Q) (r : Nat) : (d.retire r).Roomy P Q :=
  ((h.dropFiled r).withdrawWave r).onWu fun hw w hm => hw w (List.mem_filter.mp hm).1

theorem makeAnonymous (h : d.Roomy P Q) (r : Nat) : (d.makeAnonymous r).Roomy P Q :=
  (h.dropFiled r).onWave r fun _ hw => hw

theorem testNoWork (h : d.Roomy P Q) (r : Nat) : (d.testNoWork r).Roomy P Q := by
  unfold Device.testNoWork
  split
  · exact ite (fun _ => h.retire r) fun _ => h
  · exact h

/-! ### The evaluation (R90) -/

theorem recompute (h : d.Roomy P Q) : d.recompute.Roomy P Q := h.onWu_map rfl fun _ hw => hw

theorem announce (h : d.Roomy P Q) (r : Nat) : (d.announce r).Roomy P Q := by
  unfold Device.announce
  split
  · exact ite (fun _ => h.place _) fun _ => h
  · exact h

theorem slipEval (h : d.Roomy P Q) (r : Nat) : (d.slipEval r).Roomy P Q := by
  unfold Device.slipEval
  split
  · exact ite (fun _ => h.place _) fun _ => h
  · exact h

theorem markLate (h : d.Roomy P Q) (b : Nat) : (d.markLate b).Roomy P Q := by
  unfold Device.markLate
  split
  · exact h
  · split
    · exact h
    · exact ite (fun _ => (h.onBatch _ _).notify _) fun _ => h

theorem offerEval (h : d.Roomy P Q) : d.offerEval.Roomy P Q := by
  unfold Device.offerEval
  refine ite (fun _ => ?_) fun _ => h
  split
  · exact (h.onBatch _ _).place _
  · exact h

theorem evaluate (h : d.Roomy P Q) : d.evaluate.Roomy P Q := by
  unfold Device.evaluate
  refine ite (fun _ => h) fun _ => ?_
  exact (((h.recompute.foldl (fun _ r hx => hx.announce r) _).foldl (fun _ r hx => hx.slipEval r) _).foldl
    (fun _ b hx => hx.markLate b) _).offerEval

theorem evaluateSince (h : d.Roomy P Q) (b : Device) : (d.evaluateSince b).Roomy P Q := by
  unfold Device.evaluateSince
  exact ite (fun _ => h) fun _ => h.evaluate

/-! ### Calls, dispatch and formation (spec/07) -/

theorem beginCall (h : d.Roomy P Q) (i : Fin 8) (b : Nat) : (d.beginCall i b).Roomy P Q :=
  ((h.leaveFire b).onBatch _ _).onLane _ _

theorem callBatch (h : d.Roomy P Q) (i : Fin 8) (b : Batch) : (d.callBatch i b).Roomy P Q := (h.beginCall i _).notify _

theorem dispatchLane (h : d.Roomy P Q) (i : Fin 8) : (d.dispatchLane i).Roomy P Q := by
  unfold Device.dispatchLane
  refine ite (fun _ => ?_) fun _ => h
  split
  · exact h.callBatch i _
  · exact h

theorem dispatch (h : d.Roomy P Q) : d.dispatch.Roomy P Q := h.foldl (fun _ i hx => hx.dispatchLane i) _

theorem stage (h : d.Roomy P Q) (i : Fin 8) : (d.stage i).Roomy P Q := by
  unfold Device.stage
  split
  · exact ((h.leaveFire _).onBatch _ _).onLane _ _
  · exact h

theorem claimSpares (h : d.Roomy P Q) (r : Nat) (c : Byte) : (d.claimSpares r c).Roomy P Q :=
  ((h.onTi (Nat.le_refl _)).onBp (by simp [putBack]) (Nat.le_refl _)).lowerDemand _ _ _

theorem fillBatch (h : d.Roomy P Q) (r : Nat) (c : Byte) (b : Batch) : (d.fillBatch r c b).Roomy P Q :=
  ((h.onTi (Nat.le_refl _)).onBatch _ _).lowerDemand _ _ _

theorem fillFormed (h : d.Roomy P Q) (r : Nat) (c : Byte) : (d.fillFormed r c).Roomy P Q :=
  h.foldl (fun _ b hx => hx.fillBatch r c b) _

/-- A record taken from the pool, where one is free (R109). -/
theorem addBatch (h : d.Roomy P Q) (b : Batch) (hn : Q → d.bp.batches.length + d.heldBack < Config.batchCapacity) :
    (d.addBatch b).Roomy P Q where
  port := h.port
  room q := by
    obtain ⟨-, h2, h3, h4, h5, h6, h7⟩ := h.room q
    refine ⟨?_, h2, h3, h4, h5, h6, h7⟩
    have hh : (d.addBatch b).heldBack = d.heldBack := rfl
    have hb : (d.addBatch b).bp.batches.length = d.bp.batches.length + 1 := by simp [Device.addBatch]
    have := hn q
    omega

theorem createBatches (h : d.Roomy P Q) (r : Nat) (c : Byte) (n : Nat)
    (hn : Q → d.bp.batches.length + d.heldBack + n ≤ Config.batchCapacity) : (d.createBatches r c n).Roomy P Q := by
  induction n generalizing d with
  | zero => exact h
  | succ n ih =>
    unfold Device.createBatches
    extract_lets x bid d1 d2
    refine ite (fun _ => h) fun _ => ?_
    have h1 : d1.Roomy P Q := h.onTi (Nat.le_refl _)
    have h2 : d2.Roomy P Q := by
      refine (h1.addBatch _ fun q => ?_).lowerDemand _ _ _
      have hfree : d1.bp.batches.length + d1.heldBack + (n + 1) ≤ Config.batchCapacity := hn q
      omega
    refine ih (h2.joinFire bid) fun q => ?_
    have hlen : (d2.joinFire bid).bp.batches.length = d.bp.batches.length + 1 := by
      unfold Device.joinFire
      split <;> simp [d2, d1, Device.lowerDemand, Device.onWave, Device.addBatch]
    have hheld : (d2.joinFire bid).heldBack = d.heldBack := heldBack_congr (joinFire_kept bid d2).rx
    have := hn q
    omega

theorem formDish (h : d.Roomy P Q) (r : Nat) (c : Byte) : (d.formDish r c).Roomy P Q := by
  unfold Device.formDish
  extract_lets d1 d2
  have h2 : d2.Roomy P Q := (h.claimSpares r c).fillFormed r c
  refine h2.createBatches r c _ fun q => ?_
  have := (h2.room q).1
  unfold poolFree
  omega

theorem formLines (h : d.Roomy P Q) (w : Wave) : (d.formLines w).Roomy P Q := h.foldl (fun _ c hx => hx.formDish _ c) _

theorem formationPass (h : d.Roomy P Q) (r : Nat) : (d.formationPass r).Roomy P Q := by
  unfold Device.formationPass
  split
  · exact (h.formLines _).dispatch
  · exact h

theorem formOthers (h : d.Roomy P Q) (o : Option Nat) : (d.formOthers o).Roomy P Q :=
  h.foldl (fun _ r hx => ite (fun _ => hx.formationPass r) fun _ => hx) _

theorem formUndispatched (h : d.Roomy P Q) (o : Option Nat) : (d.formUndispatched o).Roomy P Q := by
  refine h.foldl (fun x r hx => ?_) _
  split
  · exact ite (fun _ => hx.formLines _) fun _ => hx
  · exact hx

theorem formWaiting (h : d.Roomy P Q) : d.formWaiting.Roomy P Q := h.formOthers none

/-! ### A batch freed, and the end of a wave's work (R84, R125) -/

theorem removeBatch (h : d.Roomy P Q) (b : Batch) : (d.removeBatch b).Roomy P Q := by
  unfold Device.removeBatch
  extract_lets d1 d2 d3
  have h1 : d1.Roomy P Q := h.leaveFire _
  have h2 : d2.Roomy P Q := by
    simp only [d2]
    split
    · exact ite (fun _ => h1.onLane _ _) fun _ => ite (fun _ => h1.onLane _ _) fun _ => h1
    · exact h1
  have h3 : d3.Roomy P Q := ite (fun _ => h2.withdraw _) fun _ => h2
  exact h3.onBp (List.length_filter_le _ _) (Nat.le_refl _)

theorem afterFree (h : d.Roomy P Q) (o : Option Nat) (i : Bool) : (d.afterFree o i).Roomy P Q := by
  unfold Device.afterFree
  exact ite (fun _ => (h.formOthers o).dispatch) fun _ => h.formOthers o

theorem freeBatch (h : d.Roomy P Q) (b : Batch) : (d.freeBatch b).Roomy P Q := (h.removeBatch b).afterFree _ _

theorem endBatch (h : d.Roomy P Q) (r b : Nat) : (d.endBatch r b).Roomy P Q := by
  unfold Device.endBatch
  split
  · have h1 := (h.takeOff ‹_›).removeBatch ‹_›
    exact ite (fun _ => h1.formUndispatched _) fun _ => h1.formOthers _
  · exact h

theorem endThose (h : d.Roomy P Q) (r : Nat) (st : BatchState) : (d.endThose r st).Roomy P Q :=
  h.foldl (fun _ b hx => hx.endBatch r b) _

theorem dropHanded (h : d.Roomy P Q) (r : Nat) : (d.dropHanded r).Roomy P Q := by
  unfold Device.dropHanded
  exact (h.onTi (Nat.le_refl _)).onBp (Nat.le_refl _) (List.length_filter_le _ _)

theorem dropUnbatched (h : d.Roomy P Q) (r : Nat) : (d.dropUnbatched r).Roomy P Q :=
  (h.onTi (Nat.le_refl _)).onWave r fun _ hw => hw

theorem enterAway (h : d.Roomy P Q) (w : Wave) : (d.enterAway w).Roomy P Q := by
  unfold Device.enterAway
  exact (h.onWave _ fun _ hw => by exact hw).notify _

theorem endSet (h : d.Roomy P Q) (w : Wave) : (d.endSet w).Roomy P Q := by
  unfold Device.endSet
  extract_lets d1 d2 d3 d4
  have h2 : d2.Roomy P Q := ((h.endThose _ _).endThose _ _).endThose _ _
  have h3 : d3.Roomy P Q := ((h2.dropHanded _).dropUnbatched _).withdrawWave _
  have h4 : d4.Roomy P Q := ite (fun _ => h3.retire _) fun _ => h3.enterAway w
  exact ite (fun _ => h4.dispatch) fun _ => h4

theorem endWave (h : d.Roomy P Q) (r : Nat) : (d.endWave r).Roomy P Q := by
  unfold Device.endWave
  split
  · exact h
  · split
    · exact (h.dropUnbatched r).retire r
    · exact (h.dropUnbatched r).retire r
    · exact h.endSet _
    · exact h

theorem abandonWave (h : d.Roomy P Q) (r : Nat) : (d.abandonWave r).Roomy P Q := by
  unfold Device.abandonWave
  split
  · exact h
  · exact (h.notify _).endWave r

/-! ### Presses and compares (spec/08) -/

theorem startPress (h : d.Roomy P Q) (i : Fin 8) (b : Batch) : (d.startPress i b).Roomy P Q := by
  unfold Device.startPress
  refine ((h.onBatch _ _).onLane _ _).onInFlight fun x => ?_
  split <;> rfl

theorem retireIfRunOut (h : d.Roomy P Q) (r : Nat) : (d.retireIfRunOut r).Roomy P Q := by
  unfold Device.retireIfRunOut
  split
  · exact ite (fun _ => h.retire r) fun _ => h
  · exact h

theorem laneDone (h : d.Roomy P Q) (i : Fin 8) : (d.laneDone i).Roomy P Q := by
  unfold Device.laneDone
  split
  · exact (h.onLane _ _).callBatch i _
  · exact h.onLane _ _

theorem donePress (h : d.Roomy P Q) (i : Fin 8) (b : Batch) : (d.donePress i b).Roomy P Q := by
  unfold Device.donePress
  extract_lets idles d1 d2 now d3 d4
  refine ite (fun _ => ?_) fun _ => ?_
  · have h1 : d1.Roomy P Q := (h.takeOff b).removeBatch _
    exact ((h1.laneDone i).afterFree _ _).retireIfRunOut _
  · have h4 : d4.Roomy P Q := (h.onBatch _ _).laneDone i
    exact ite (fun _ => h4.dispatch) fun _ => h4

theorem pressAct (h : d.Roomy P Q) (i : Fin 8) : (d.pressAct i).Roomy P Q := by
  unfold Device.pressAct
  split
  · exact h
  · split
    · exact h
    · exact (h.startPress i _).evaluate
    · exact ite (fun _ => (h.donePress i _).evaluate) fun _ => h
    · exact (h.donePress i _).evaluate

theorem press (h : d.Roomy P Q) (i : Fin 8) : (d.press i).Roomy P Q := by
  unfold Device.press
  exact ite (fun _ => h) fun _ => (h.onLane _ _).pressAct i

theorem turnCompare (h : d.Roomy P Q) (i : Fin 8) : (d.turnCompare i).Roomy P Q := by
  unfold Device.turnCompare
  exact ite (fun _ => h.onLane _ _) fun _ => h

theorem flashEnd (h : d.Roomy P Q) (i : Fin 8) : (d.flashEnd i).Roomy P Q := by
  unfold Device.flashEnd
  exact ite (fun _ => h.onLane _ _) fun _ => h

theorem dueCompare (h : d.Roomy P Q) (i : Fin 8) : (d.dueCompare i).Roomy P Q := by
  unfold Device.dueCompare
  refine ite (fun _ => ?_) fun _ => h
  split
  · exact (((h.onLane _ _).onBatch _ _).stage i).evaluate
  · exact h

theorem callOverdue (h : d.Roomy P Q) (i : Fin 8) : (d.callOverdue i).Roomy P Q := by
  unfold Device.callOverdue
  exact ite (fun _ => h.onLane _ _) fun _ => h

theorem dueOverdue (h : d.Roomy P Q) (i : Fin 8) : (d.dueOverdue i).Roomy P Q := by
  unfold Device.dueOverdue
  exact ite (fun _ => h.onLane _ _) fun _ => h

theorem laneBoundary (h : d.Roomy P Q) (i : Fin 8) : (d.laneBoundary i).Roomy P Q :=
  ((((h.turnCompare i).flashEnd i).dueCompare i).callOverdue i).dueOverdue i

/-! ### Waves, tickets and slips (spec/05, spec/06) -/

theorem length_enterParticipant (p : Participant) {l : List Participant} (h : l.length ≤ Config.participantCapacity) :
    (enterParticipant p l).length ≤ Config.participantCapacity := by
  unfold enterParticipant
  split
  · simpa using h
  · split
    · simp; omega
    · exact h

theorem hearReady_participants (a : Addr) (st : Tick) (off : BitVec 15) (far wd : Bool) {w : Wave}
    (h : w.participants.length ≤ Config.participantCapacity) :
    (w.hearReady a st off far wd).participants.length ≤ Config.participantCapacity := by
  unfold Wave.hearReady
  split
  · exact h
  · split
    · exact (List.length_filter_le _ _).trans h
    · exact length_enterParticipant _ h

theorem applyReady (h : d.Roomy P Q) (a : Addr) (st : Tick) (n : Byte) (p : Addr) (off : BitVec 15) (far wd : Bool) :
    (d.applyReady a st n p off far wd).Roomy P Q := by
  unfold Device.applyReady
  split
  · exact h.onWave _ fun _ => hearReady_participants _ _ _ _ _
  · exact h

theorem enterSettling (h : d.Roomy P Q) (r : Nat) : (d.enterSettling r).Roomy P Q := by
  unfold Device.enterSettling
  exact (h.onWave _ fun _ hw => by exact hw).withdraw _

theorem enterSet (h : d.Roomy P Q) (w : Wave) : (d.enterSet w).Roomy P Q := by
  unfold Device.enterSet
  extract_lets id d1 d2
  have h1 : d1.Roomy P Q := (h.onWave _ fun _ hw => by exact hw).notify _
  have h2 : d2.Roomy P Q := by
    simp only [d2]
    split
    · exact h1.notify _
    · exact h1
  split
  · exact h2.notify _
  · exact h2

theorem afterSet (h : d.Roomy P Q) (r : Nat) : (d.afterSet r).Roomy P Q := by
  unfold Device.afterSet
  exact ite (fun _ => h) fun _ => ((h.formationPass r).recompute.testNoWork r).evaluate

theorem waveClose (h : d.Roomy P Q) (r : Nat) : (d.waveClose r).Roomy P Q := by
  unfold Device.waveClose
  split
  · exact ite (fun _ => (h.enterSettling r).evaluate) fun _ => h
  · exact h

theorem waveSettle (h : d.Roomy P Q) (r : Nat) : (d.waveSettle r).Roomy P Q := by
  unfold Device.waveSettle
  split
  · exact ite (fun _ => (h.enterSet _).afterSet r) fun _ => h
  · exact h

theorem waveAbandon (h : d.Roomy P Q) (r : Nat) : (d.waveAbandon r).Roomy P Q := by
  unfold Device.waveAbandon
  split
  · refine ite (fun _ => ?_) fun _ => h
    have h1 := h.abandonWave r
    exact (ite (fun _ => h1.onInFlight fun _ => by rfl) fun _ => h1).evaluate
  · exact h

theorem retime (h : d.Roomy P Q) (r : Nat) : (d.retime r).Roomy P Q := by
  unfold Device.retime
  exact (h.onBp (by simp) (Nat.le_refl _)).reorderFire

theorem slipNotices (h : d.Roomy P Q) (w : Wave) (a : Addr) (t : Tick) (far : Bool) : (d.slipNotices w a t far).Roomy P Q := by
  unfold Device.slipNotices
  exact ite (fun _ => ite (fun _ => (h.notify _).notify _) fun _ => (h.notify _).notify _) fun _ => h.notify _

theorem applySlip (h : d.Roomy P Q) (a : Addr) (st : Tick) (n : Byte) (p : Addr) (off : BitVec 15) (far : Bool) :
    (d.applySlip a st n p off far).Roomy P Q := by
  unfold Device.applySlip
  split
  · exact h
  · refine ite (fun _ => h) fun _ => ?_
    extract_lets sent d1
    have h1 : d1.Roomy P Q := (h.onWave _ fun _ hw => by exact hw).slipNotices _ _ _ _
    exact ite (fun _ => h1) fun _ => (h1.retime _).dispatch.evaluate

theorem addWave (h : d.Roomy P Q) {w : Wave} (hw : w.participants = []) : (d.addWave w).Roomy P Q := by
  refine h.onWu fun hd v hv => ?_
  rcases List.mem_append.mp hv with hv | hv
  · exact hd v hv
  · obtain rfl := List.mem_singleton.mp hv
    simp [hw]

theorem catchUp (h : d.Roomy P Q) (r : Nat) : (d.catchUp r).Roomy P Q := by
  unfold Device.catchUp
  extract_lets d1
  have h1 : d1.Roomy P Q := by
    simp only [d1]
    split
    · exact ite (fun _ => h.enterSettling r) fun _ => h
    · exact h
  split
  · exact ite (fun _ => h1.enterSet _) fun _ => h1
  · exact h1

theorem createFromTicket (h : d.Roomy P Q) (a : Addr) (st : Tick) (n : Byte) (c : Tick) (l : BitVec 16) (gp : Bool)
    (g : Tick) : (d.createFromTicket a st n c l gp g).Roomy P Q := by
  unfold Device.createFromTicket
  extract_lets w d1
  have h1 : d1.Roomy P Q := h.addWave rfl
  exact ite (fun _ => h1.notify _) fun _ => h1.catchUp _

theorem displace (h : d.Roomy P Q) (r : Nat) : (d.displace r).Roomy P Q := by
  unfold Device.displace
  exact ite (fun _ => (h.abandonWave r).makeAnonymous r) fun _ => h.abandonWave r

theorem findWave (h : d.Roomy P Q) (a : Addr) (st : Tick) (n : Byte) (c : Tick) (l : BitVec 16) (gp : Bool) (g : Tick) :
    (d.findWave a st n c l gp g).1.Roomy P Q := by
  unfold Device.findWave
  extract_lets w? r fresh
  split
  · exact h.createFromTicket _ _ _ _ _ _ _
  · exact h
  · exact h.onWave r fun _ hw => by exact hw
  · exact (h.makeAnonymous r).createFromTicket _ _ _ _ _ _ _
  · exact (h.displace r).createFromTicket _ _ _ _ _ _ _

theorem fileTicket (h : d.Roomy P Q) (a : Addr) (s : Serial) (r : Nat) (k : List Order) :
    (d.fileTicket a s r k).Roomy P Q := by
  unfold Device.fileTicket
  exact (h.onTi (Nat.le_refl _)).onWave r fun _ hw => by exact hw

theorem afterFiling (h : d.Roomy P Q) (r : Nat) (n : Bool) : (d.afterFiling r n).Roomy P Q := by
  unfold Device.afterFiling
  exact ite (fun _ => ite (fun _ => h.afterSet r) fun _ => (h.formationPass r).evaluate) fun _ => h.evaluate

theorem takeTicket (h : d.Roomy P Q) (a : Addr) (st : Tick) (n : Byte) (s : Serial) (c : Tick) (l : BitVec 16) (gp : Bool)
    (g : Tick) (k : List Order) : (d.takeTicket a st n s c l gp g k).Roomy P Q :=
  ((h.findWave a st n c l gp g).fileTicket _ _ _ _).afterFiling _ _

theorem voidBatch (h : d.Roomy P Q) (s : Serial) (b : Nat) : (d.voidBatch s b).Roomy P Q := by
  unfold Device.voidBatch
  split
  · exact h
  · exact ite (fun _ => h.freeBatch _) fun _ => h.onBatch _ _

theorem dropTicket (h : d.Roomy P Q) (t : Ticket) : (d.dropTicket t).Roomy P Q :=
  (h.onTi (Nat.le_refl _)).foldl (fun _ _ hx => hx.lowerDemand _ _ _) _

theorem applyVoid (h : d.Roomy P Q) (a : Addr) (n : Byte) (s : Serial) : (d.applyVoid a n s).Roomy P Q := by
  unfold Device.applyVoid
  split
  · exact h
  · next w _ =>
    extract_lets t? d1 bs d2
    clear_value t?
    have h1 : d1.Roomy P Q := by
      simp only [d1]
      split
      · exact h.dropTicket _
      · exact h
    have h2 : d2.Roomy P Q := by
      refine (h1.foldl (fun _ b hx => hx.voidBatch s b) _).onBp (Nat.le_refl _) ?_
      exact (List.length_filter_le _ _).trans (by simp)
    exact ite (fun _ => (h2.testNoWork _).evaluate) fun _ => h2

theorem applyPickup (h : d.Roomy P Q) (a : Addr) (n : Byte) : (d.applyPickup a n).Roomy P Q := by
  unfold Device.applyPickup
  split
  · exact h
  · exact ite (fun _ => h) fun _ => (h.endWave _).evaluate

/-! ### Hand-off and hold expiry (spec/07, spec/09) -/

theorem unreserve (h : d.Roomy P Q) (lane : Option (Fin 8)) : (d.unreserve lane).Roomy P Q := by
  cases lane with
  | some i => exact h.onLane _ _
  | none => exact h

theorem releaseTaker (h : d.Roomy P Q) (lane : Option (Fin 8)) : (d.releaseTaker lane).Roomy P Q :=
  (h.unreserve lane).dispatch.formWaiting.evaluateSince d

/-- The held record, back in the pool, takes the adopted batch (R150, R152). -/
theorem takerCommit (h : d.Roomy P Q) (lane : Option (Fin 8)) (a : Addr) (st : Tick) (n : Byte) (p : Addr) (g : Tick)
    (k : Nat) (c : Byte) (m : Nat) (cs : List Contrib)
    (hn : Q → d.bp.batches.length + d.heldBack < Config.batchCapacity) :
    (d.takerCommit lane a st n p g k c m cs).Roomy P Q := by
  unfold Device.takerCommit
  extract_lets w? ref d1 bid seq d2 d3
  refine ite (fun _ => h.releaseTaker lane) fun _ => ?_
  have h1 : d1.Roomy P Q := ite (fun _ => h) fun _ => h.addWave rfl
  have hlen : d1.bp = d.bp ∧ d1.heldBack = d.heldBack := by
    simp only [d1]
    split <;> exact ⟨rfl, rfl⟩
  have h2 : d2.Roomy P Q := h1.addBatch _ fun q => by rw [hlen.1, hlen.2]; exact hn q
  have h3 : d3.Roomy P Q := by
    simp only [d3]
    split
    · exact h2.beginCall _ _
    · exact (h2.joinFire _).dispatch
  exact (h3.notify _).evaluate

theorem offererCommit (h : d.Roomy P Q) (a : Addr) (b : Batch) (hf : d.fe.inFlight = none)
    (hh : Q → d.bp.handed.length < Config.handedCapacity) : (d.offererCommit a b).Roomy P Q := by
  unfold Device.offererCommit
  extract_lets d1 id d2
  have h1 : d1.Roomy P Q := by
    refine ⟨h.port, fun q => ?_⟩
    obtain ⟨g1, -, -, g4, g5, g6, g7⟩ := h.room q
    refine ⟨g1, ?_, fun f bid he => ?_, g4, g5, g6, g7⟩
    · simpa [d1] using hh q
    · rw [show d1.fe.inFlight = d.fe.inFlight from rfl, hf] at he
      cases he
  exact ((h1.freeBatch b).notify _).testNoWork _

theorem refire (h : d.Roomy P Q) (b : Batch) : (d.refire b).Roomy P Q := by
  unfold Device.refire
  exact (((h.onBatch _ _).joinFire _).notify _).dispatch

theorem loseBatch (h : d.Roomy P Q) (b : Batch) : (d.loseBatch b).Roomy P Q := by
  unfold Device.loseBatch
  exact (((h.freeBatch b).takeOff b).notify _).testNoWork _

theorem holdExpiry (h : d.Roomy P Q) (b : Nat) : (d.holdExpiry b).Roomy P Q := by
  unfold Device.holdExpiry
  split
  · exact h
  · refine ite (fun _ => h) fun _ => ite (fun _ => ?_) fun _ => ite (fun _ => ?_) fun _ => ?_
    · exact ((h.freeBatch _).testNoWork _).evaluate
    · exact (h.refire _).evaluate
    · exact (h.loseBatch _).evaluate

end Device.Roomy

end Sys2Proof.Machine
end

section
/-! Pools, lists, queues and the menu within their limits, through every row (O53). -/

namespace Sys2Proof.Machine

open Device

namespace Device.Roomy

variable {P Q : Prop} {d e : Device}

/-! ### The clock and the boundary -/

theorem changeMode (h : d.Roomy P Q) (m : LineMode) (c : ModeCause) : (d.changeMode m c).Roomy P Q :=
  (h.notify _).onLif _

theorem lineReturn (h : d.Roomy P Q) : d.lineReturn.Roomy P Q := by
  unfold Device.lineReturn
  exact ite (fun _ => (h.changeMode _ _).onLif _) fun _ => h

/-- The Frame Engine's own state and counts, and what it drives. -/
theorem onFe (h : d.Roomy P Q) {f : Fe → Fe} (hx : (f d.fe).rx = d.fe.rx) (hf : (f d.fe).inFlight = d.fe.inFlight)
    (hq : (f d.fe).txq = d.fe.txq) : (d.onFe f).Roomy P Q :=
  h.same rfl (by rw [heldBack_congr (e := d.onFe f) hx]; exact Nat.le_refl _) (Nat.le_refl _)
    (fun g hg => ⟨g, hf ▸ hg, rfl⟩) id (Nat.le_refl _) (Nat.le_refl _) fun h7 => by rwa [onFe_fe, hq]

theorem quietLine (h : d.Roomy P Q) : d.quietLine.Roomy P Q := h.onFe rfl rfl rfl

theorem edge (h : d.Roomy P Q) : d.edge.Roomy P Q := h.onFe rfl rfl rfl

theorem drive (h : d.Roomy P Q) (a : LineAct) : (d.drive a).Roomy P Q := h.onFe rfl rfl rfl

theorem hear (h : d.Roomy P Q) (q : Silences) : (d.hear q).Roomy P Q := by
  unfold Device.hear
  exact ite (fun _ => h) fun _ => h.onLif _

theorem passSlots (h : d.Roomy P Q) (n : Nat) : (d.passSlots n).Roomy P Q := by
  unfold Device.passSlots
  extract_lets d1
  have h1 : d1.Roomy P Q := ite (fun _ => h.onFe rfl rfl rfl) fun _ => h
  exact ite (fun _ => h) fun _ => ite (fun _ => h1) fun _ => h1.onLif _

theorem periodEnd (h : d.Roomy P Q) : d.periodEnd.Roomy P Q := by
  have hstep : ∀ k n, (d.stepClock k n).Roomy P Q := fun k n => (h.onSck _).notify _
  have hcorr : d.forwardOrCorrect.Roomy P Q := by
    unfold forwardOrCorrect
    split
    · exact ite (fun _ => (hstep _ _).onSck _) fun _ => h.onSck _
    · exact h.onSck _
  have hmean : d.meanStep.Roomy P Q := by
    unfold meanStep
    split
    · exact ite (fun _ => h) fun _ => hstep _ _
    · exact h
  have hact : d.periodAction.Roomy P Q := by
    unfold periodAction
    split
    · exact h
    · exact ite (fun _ => h) fun _ => hmean
    · exact hcorr
    · exact h.onSck _
  unfold Device.periodEnd
  exact ite (fun _ => (hact.onSck _).setOutputs) fun _ => h

theorem listenEnd (h : d.Roomy P Q) : d.listenEnd.Roomy P Q := by
  unfold Device.listenEnd
  exact ite (fun _ => (h.onFe rfl rfl rfl).onSck _) fun _ => h

theorem quietEnd (h : d.Roomy P Q) : d.quietEnd.Roomy P Q := by
  unfold Device.quietEnd
  exact ite (fun _ => (h.onFe rfl rfl rfl).onSck _) fun _ => h

theorem markPlace (h : d.Roomy P Q) : d.markPlace.Roomy P Q := by
  unfold Device.markPlace
  exact ite (fun _ => (h.onSck _).place _) fun _ => h.onSck _

theorem placeHead (h : d.Roomy P Q) : d.placeHead.Roomy P Q := by
  unfold Device.placeHead
  exact ite (fun _ => h.place _) fun _ => h

theorem length_withoutWave (num : Byte) (flying : Option Body) (l : List IssueEntry) :
    (withoutWave num flying l).length ≤ l.length := by
  unfold withoutWave
  split
  · exact Nat.le_refl _
  · next x rest =>
    have hf := List.length_filter_le (fun y : IssueEntry => y.num != num) rest
    dsimp only
    (repeat' split) <;> simp only [List.length_cons] <;> omega

theorem passAbandon (h : d.Roomy P Q) (r : Nat) : (d.passAbandon r).Roomy P Q := by
  unfold Device.passAbandon
  split
  · refine ite (fun _ => ?_) fun _ => h
    extract_lets num n d1 d2 gone
    have h2 : d2.Roomy P Q := ((h.notify _).retire r).onIu (length_withoutWave _ _ _)
    exact (ite (fun _ => h2.withdraw _) fun _ => h2).placeHead
  · exact h

theorem waveBoundary (h : d.Roomy P Q) (r : Nat) : (d.waveBoundary r).Roomy P Q :=
  (((h.waveClose r).waveSettle r).waveAbandon r).passAbandon r

theorem workBoundary (h : d.Roomy P Q) : d.workBoundary.Roomy P Q := by
  unfold Device.workBoundary
  exact ((h.foldl (fun _ i hx => hx.laneBoundary i) _).foldl (fun _ b hx => hx.holdExpiry b) _).foldl
    (fun _ r hx => hx.waveBoundary r) _

theorem settleBoundary (h : d.Roomy P Q) : d.settleBoundary.Roomy P Q := by
  unfold Device.settleBoundary
  refine ite (fun _ => ?_) fun _ => h.lineReturn
  rw [boundaryEvents_work]
  exact h.lineReturn.periodEnd.listenEnd.quietEnd.workBoundary.markPlace.onSck _

theorem pass (h : d.Roomy P Q) (n : Nat) : (d.pass n).Roomy P Q := by
  unfold Device.pass
  exact ite (fun _ => h) fun _ => h.settleBoundary.onSck _

theorem letPass (h : d.Roomy P Q) (n : Nat) : (d.letPass n).Roomy P Q := by
  unfold Device.letPass
  exact (h.passSlots _).onSck _

theorem passIdle (h : d.Roomy P Q) (n : Nat) : (d.passIdle n).Roomy P Q := by
  unfold Device.passIdle
  exact ite (fun _ => h) fun _ => h.settleBoundary.letPass n

theorem countTick (h : d.Roomy P Q) : (d.onFe Fe.countTick).Roomy P Q := by
  refine h.onFe ?_ ?_ ?_ <;> unfold Fe.countTick <;> split <;> rfl

theorem newTick (h : d.Roomy P Q) : d.newTick.Roomy P Q := by
  obtain ⟨e, he, hd⟩ := newTick_eq d
  have hb : d.tickBegun.Roomy P Q := ((h.onSck _).countTick.onSck _).setOutputs
  rw [hd, ← he]
  exact hb.dispatch.evaluate.onSck _

theorem endTick (h : d.Roomy P Q) : d.endTick.Roomy P Q := (h.passSlots _).newTick

theorem crystalCount (h : d.Roomy P Q) : d.crystalCount.Roomy P Q := by
  unfold Device.crystalCount
  exact ite (fun _ => h.settleBoundary.letPass 1) fun _ => h.settleBoundary.endTick

theorem untilStart (h : d.Roomy P Q) (w : Wait) : (d.untilStart w).Roomy P Q := (h.lineReturn.quietLine.passSlots _).pass _

/-! ### Own frames -/

theorem markPartial (h : d.Roomy P Q) : d.markPartial.Roomy P Q :=
  h.onWu_map rfl fun w hw => by split <;> exact hw

theorem withdrawOffer (h : d.Roomy P Q) : d.withdrawOffer.Roomy P Q := by
  unfold Device.withdrawOffer
  refine (h.foldl (fun x e hx => ?_) _).withdraw _
  split
  · exact hx.onBatch _ _
  · exact hx

theorem quietIfDue (h : d.Roomy P Q) : d.quietIfDue.Roomy P Q := by
  unfold Device.quietIfDue
  refine ite (fun _ => ?_) fun _ => h
  unfold enterQuiet
  exact (((((h.notify _).withdrawOffer).withdraw _).onFe (by rfl) (by rfl) (by rfl)).onSck _).markPartial

/-- QUIET leaves the batches and the handed records as many as they were (R40). -/
theorem quietIfDue_counts (d : Device) : d.quietIfDue.bp.batches.length = d.bp.batches.length ∧
    d.quietIfDue.bp.handed = d.bp.handed ∧ d.quietIfDue.fe.inFlight = d.fe.inFlight ∧ d.quietIfDue.fe.rx = d.fe.rx := by
  unfold Device.quietIfDue
  split
  · rw [enterQuiet_eq]
    simp [Bp.unmark]
  · exact ⟨rfl, rfl, rfl, rfl⟩

theorem countHeard (h : d.Roomy P Q) (bad : Bool) : (d.countHeard bad).Roomy P Q := by
  unfold Device.countHeard
  split
  · exact (h.onFe rfl rfl rfl).quietIfDue
  · exact ite (fun _ => h.markPartial) fun _ => h
  · exact h
  · exact h

theorem countHeard_counts (bad : Bool) (d : Device) :
    (d.countHeard bad).bp.batches.length = d.bp.batches.length ∧ (d.countHeard bad).fe.rx = d.fe.rx := by
  unfold Device.countHeard
  split
  · obtain ⟨hb, -, -, hx⟩ := quietIfDue_counts (d.onFe (fun f =>
      { f with recCount := if bad then f.recCount + 1 else f.recCount - 1 }))
    exact ⟨hb, hx⟩
  · split <;> exact ⟨rfl, rfl⟩
  · exact ⟨rfl, rfl⟩
  · exact ⟨rfl, rfl⟩

/-- A frame in flight dropped. -/
theorem noFlight (h : d.Roomy P Q) {f : Fe → Fe} (hx : (f d.fe).rx = d.fe.rx) (hf : (f d.fe).inFlight = none)
    (hq : (f d.fe).txq = d.fe.txq) : (d.onFe f).Roomy P Q :=
  h.same rfl (by rw [heldBack_congr (e := d.onFe f) hx]; exact Nat.le_refl _) (Nat.le_refl _)
    (fun g hg => by rw [onFe_fe, hf] at hg; cases hg) id (Nat.le_refl _) (Nat.le_refl _) fun h7 => by rwa [onFe_fe, hq]

theorem endOwnFrame (h : d.Roomy P Q) (fate : Fate) (byDown agree : Bool) :
    (d.endOwnFrame fate byDown agree).Roomy P Q ∧ (d.endOwnFrame fate byDown agree).fe.inFlight = none ∧
      (d.endOwnFrame fate byDown agree).bp.handed = d.bp.handed := by
  unfold Device.endOwnFrame
  extract_lets d1 d2 d3
  have h2 : d2.Roomy P Q := ((h.noFlight rfl rfl rfl).onSck _).onLif _
  have h3 : d3.Roomy P Q ∧ d3.fe.inFlight = none ∧ d3.bp.handed = d.bp.handed := by
    simp only [d3]
    split
    · exact ⟨(h2.onSck _).withdraw _, rfl, rfl⟩
    · exact ⟨h2, rfl, rfl⟩
  obtain ⟨h3, hf, hh⟩ := h3
  obtain ⟨-, hq, hg, -⟩ := quietIfDue_counts d3
  exact ⟨h3.quietIfDue, hg.trans hf, hq.trans hh⟩

theorem readyFate (h : d.Roomy P Q) (r : Nat) (f : Frame) (n : Byte) (p : Addr) (off : BitVec 15) (far wd : Bool)
    (x : Fate) : (d.readyFate r f n p off far wd x).Roomy P Q := by
  unfold Device.readyFate
  extract_lets stamp d1
  have h1 : d1.Roomy P Q := by
    simp only [d1]
    split
    · exact (h.onWave _ fun _ hw => by exact hw).applyReady _ _ _ _ _ _ _
    · exact h
  exact ite (fun _ => h1) fun _ => h1.announce r

theorem slipFate (h : d.Roomy P Q) (r : Nat) (f : Frame) (n : Byte) (p : Addr) (off : BitVec 15) (far : Bool) (x : Fate) :
    (d.slipFate r f n p off far x).Roomy P Q := by
  unfold Device.slipFate
  extract_lets d1
  have h1 : d1.Roomy P Q := by
    simp only [d1]
    split
    · exact h.applySlip _ _ _ _ _ _
    · exact h
  exact ite (fun _ => h1) fun _ => h1.slipEval r

theorem offerFate (h : d.Roomy P Q) (b : Nat) (x : Fate) (a : Addr) (hf : d.fe.inFlight = none)
    (hh : Q → d.bp.handed.length < Config.handedCapacity) : (d.offerFate b x a).Roomy P Q := by
  unfold Device.offerFate
  extract_lets d1 d2
  have h1 : d1.Roomy P Q := h.onBatch _ _
  have h2 : d2.Roomy P Q := by
    simp only [d2]
    split
    · refine ite (fun _ => h1.onBatch _ _) fun _ => ?_
      split
      · exact h1.offererCommit a _ hf hh
      · exact h1
    · exact h1.onBatch _ _
    · exact h1.onBatch _ _
  exact h2.evaluate

theorem dropIssue (h : d.Roomy P Q) (s : Serial) : (d.dropIssue s).Roomy P Q := h.onTi (List.length_filter_le _ _)

theorem onIssue (h : d.Roomy P Q) (s : Serial) (f : Issue → Issue) : (d.onIssue s f).Roomy P Q := h.onTi (by simp)

theorem dropHead (h : d.Roomy P Q) : d.dropHead.Roomy P Q := h.onIu (by simp)

theorem issueAccepted (h : d.Roomy P Q) (e : IssueEntry) (short : Bool) : (d.issueAccepted e short).Roomy P Q := by
  unfold Device.issueAccepted
  split
  · extract_lets d1 d2
    have h1 : d1.Roomy P Q := h.onIssue _ _
    have h2 : d2.Roomy P Q := ite (fun _ => h1.notify _) fun _ => h1
    exact h2.dropHead
  · exact (h.dropIssue _).dropHead
  · split
    · exact (h.retire _).dropHead
    · exact h.dropHead

theorem issueFails (h : d.Roomy P Q) (e : IssueEntry) : (d.issueFails e).Roomy P Q := by
  unfold Device.issueFails
  extract_lets d1 d2
  have h1 : d1.Roomy P Q := h.dropHead
  have h2 : d2.Roomy P Q := by
    simp only [d2]
    split
    · exact (h1.dropIssue _).onIu (List.length_filter_le _ _)
    · exact h1.onIssue _ _
    · split
      · exact h1.onWave _ fun _ hw => by exact hw
      · exact h1
  exact h2.notify _

theorem issueFate (h : d.Roomy P Q) (fate : Fate) (byDown short : Bool) : (d.issueFate fate byDown short).Roomy P Q := by
  unfold Device.issueFate
  split
  · exact h
  · next e he =>
    refine ite (fun _ => h.dropHead.placeHead) fun _ => ?_
    split
    · exact (h.issueAccepted _ _).placeHead
    · refine ite (fun _ => h.placeHead) fun _ => ite (fun _ => (h.issueFails _).placeHead) fun _ => ?_
      refine (h.onIu ?_).placeHead
      obtain ⟨q, hq⟩ : ∃ q, d.iu.queue = e :: q := by
        cases hq : d.iu.queue with
        | nil => rw [hq] at he; cases he
        | cons x q => rw [hq] at he; cases he; exact ⟨q, rfl⟩
      simp [hq]

theorem placerFate (h : d.Roomy P Q) (f : InFlight) (fate : Fate) (byDown short : Bool) (taker : Addr)
    (hf : d.fe.inFlight = none) (hh : Q → ∀ bid, f.entry = .offer bid → d.bp.handed.length < Config.handedCapacity) :
    (d.placerFate f fate byDown short taker).Roomy P Q := by
  unfold Device.placerFate
  split
  · exact h.readyFate _ _ _ _ _ _ _ _
  · exact h.slipFate _ _ _ _ _ _ _
  · next bid hb => exact h.offerFate _ _ _ hf fun q => hh q bid hb
  · exact h.issueFate _ _ _
  · exact h

theorem takeDeferred (h : d.Roomy P Q) (p : Option (Fin 8)) : (d.takeDeferred p).Roomy P Q := by
  unfold Device.takeDeferred
  split
  · exact h.press _
  · exact h

theorem reportFate (h : d.Roomy P Q) {f : InFlight} (hf : d.fe.inFlight = some f) (fate : Fate) (byDown short : Bool)
    (taker : Addr) (agree : Bool) : (d.reportFate f fate byDown short taker agree).Roomy P Q := by
  obtain ⟨he, hno, hh⟩ := h.endOwnFrame fate byDown agree
  refine (he.placerFate f fate byDown short taker hno fun q bid hb => ?_).takeDeferred _
  obtain ⟨-, -, h3, -⟩ := h.room q
  exact hh ▸ h3 f bid hf hb

theorem fateOf (h : d.Roomy P Q) (k : Kind) (fate : Fate) (rep : OfferReply) (short : SlotReading) (line : Followed) :
    (d.fateOf k fate rep short line).Roomy P Q := by
  unfold Device.fateOf
  split
  · next f hf =>
    refine ite (fun _ => ?_) fun _ => h
    extract_lets drives d1
    have h1 : d1.Roomy P Q := ite (fun _ => h.quietLine.drive _) fun _ => h.quietLine
    have hf1 : d1.fe.inFlight = some f := by
      simp only [d1]
      split <;> exact hf
    exact (h1.hear _).reportFate (by rw [hear_fe, hf1]) _ _ _ _ _
  · exact h

theorem loseArbitration (h : d.Roomy P Q) : d.loseArbitration.Roomy P Q := by
  unfold Device.loseArbitration
  split
  · exact h
  · next f hf =>
    extract_lets d1
    have h1 : d1.Roomy P Q :=
      h.same rfl (Nat.add_le_add_left (Nat.zero_le _) _) (Nat.le_refl _) nofun id (Nat.le_refl _) (Nat.le_refl _) id
    exact ite (fun _ => h1) fun _ => h1.place _

theorem bitError (h : d.Roomy P Q) (inGap agree : Bool) : (d.bitError inGap agree).Roomy P Q := by
  unfold Device.bitError
  split
  · exact h
  · next f hf =>
    refine ite (fun _ => ?_) fun _ => ?_
    · exact h.same rfl (Nat.le_refl _) (Nat.le_refl _) (fun g hg => ⟨f, hf, by cases hg; rfl⟩) id (Nat.le_refl _)
        (Nat.le_refl _) id
    · extract_lets d1
      have h1 : d1.Roomy P Q := ite (fun _ => h.quietLine.drive _) fun _ => h.quietLine
      refine h1.reportFate ?_ _ _ _ _ _
      simp only [d1]
      split <;> exact hf

theorem ownBitError (h : d.Roomy P Q) (inGap : Bool) (line : Followed) : (d.ownBitError inGap line).Roomy P Q := by
  unfold Device.ownBitError
  exact ite (fun _ => (h.hear _).bitError _ _) fun _ => h

/-! ### The start slot (R26, R36) -/

/-- The entry chosen is one whose placer filled it (R36). -/
theorem fillEntry_of_choose {stamp : Tick} {l : List TxEntry} {x : TxEntry × Body}
    (h : (d.choose stamp l).1 = some x) : d.fillEntry stamp x.1 = .fill x.2 := by
  induction l with
  | nil => cases h
  | cons e l ih =>
    unfold choose at h
    split at h
    · next b hb =>
      cases h
      exact hb
    · exact ih h
    · exact ih h

/-- An OFFER is filled only while there is room for a handed record (R147). -/
theorem handed_of_fillOffer {bid : Nat} {b : Body} (h : d.fillOffer bid = .fill b) :
    d.bp.handed.length < Config.handedCapacity := by
  unfold fillOffer at h
  split at h
  · cases h
  · split at h
    · cases h
    · split at h
      · next hc => simp_all
      · cases h

theorem dropAsked (h : d.Roomy P Q) (es : List TxEntry) : (d.dropAsked es).Roomy P Q := by
  refine h.foldl (fun x e hx => ?_) _
  split
  · exact hx.withdrawOffer
  · exact hx.withdraw _
  · exact hx.withdraw _
  · exact hx.withdraw _
  · exact hx.withdraw _

theorem dropAsked_handed (es : List TxEntry) (d : Device) : (d.dropAsked es).bp.handed = d.bp.handed := by
  refine foldl_keeps (fun x => x.bp.handed) _ (fun x e => ?_) es d
  split
  · rw [withdrawOffer_unmark]; rfl
  · rfl
  · rfl
  · rfl
  · rfl

/-- A frame begun; an OFFER's only with room for a handed record. -/
theorem beginFrame (h : d.Roomy P Q) (stamp : Stamp) (e : TxEntry) (b : Body)
    (he : ∀ bid, e = .offer bid → d.bp.handed.length < Config.handedCapacity) :
    (d.beginFrame stamp e b).Roomy P Q := by
  have hw := h.withdraw e
  refine Roomy.drive (Roomy.edge (Roomy.onSck ?_ _)) _
  refine ⟨hw.port, fun q => ?_⟩
  obtain ⟨h1, h2, -, h4, h5, h6, h7⟩ := hw.room q
  refine ⟨h1, h2, fun f bid hf hb => ?_, h4, h5, h6, h7⟩
  obtain rfl := Option.some.inj hf
  exact he bid hb

theorem contend (h : d.Roomy P Q) (start : OwnStart) : (d.contend start).Roomy P Q := by
  unfold Device.contend
  extract_lets d1 stamp r d2 d3
  refine ite (fun _ => h) fun _ => ?_
  have h1 : d1.Roomy P Q := h.untilStart _
  have h2 : d2.Roomy P Q := h1.dropAsked _
  have hfill : ∀ x, r.1 = some x → d1.fillEntry (stampTick stamp) x.1 = .fill x.2 := fun _ hx =>
    fillEntry_of_choose hx
  have hh : d2.bp.handed = d1.bp.handed := dropAsked_handed _ d1
  clear_value d2 r stamp d1
  have h3 : d3.Roomy P Q := by
    simp only [d3]
    split
    · next x hx =>
      refine (h2.beginFrame stamp x.1 x.2 fun bid hb => ?_).hear _
      have hf := hfill x hx
      rw [hb] at hf
      exact hh ▸ handed_of_fillOffer hf
    · exact h2
  exact ite (fun _ => h3.offerEval) fun _ => h3

/-! ### Received frames -/

/-- The frame followed changed, within the pool with the record held back. -/
theorem onRx (h : d.Roomy P Q) {f : Rx → Rx}
    (hf : ∀ r, d.fe.rx = some r → (f r).taker.held ≤ r.taker.held ∨ 0 < d.poolFree ∧ (f r).taker.held ≤ 1) :
    (d.onRx f).Roomy P Q where
  port := h.port
  room q := by
    obtain ⟨h1, h2, h3, h4, h5, h6, h7⟩ := h.room q
    refine ⟨?_, h2, h3, h4, h5, h6, h7⟩
    rw [heldBack_eq] at h1 ⊢
    have hb : (d.onRx f).bp = d.bp := rfl
    cases hx : d.fe.rx with
    | none => simpa [Device.onRx, hx] using h1
    | some r =>
      have hr := hf r hx
      simp only [poolFree, heldBack_eq, hx, Option.map_some, Option.getD_some] at hr h1
      simp only [Device.onRx, onFe_bp, onFe_fe, hx, Option.map_some, Option.getD_some]
      omega

/-- The taker's place as it was. -/
theorem onRx_same (h : d.Roomy P Q) {f : Rx → Rx} (hf : ∀ r, (f r).taker = r.taker) : (d.onRx f).Roomy P Q :=
  h.onRx fun r _ => .inl (by rw [hf])

/-- A station with a frame in hand holds back no more than before when the frame ends or another begins. -/
theorem newRx (h : d.Roomy P Q) {f : Fe → Fe} (hx : ∀ r, (f d.fe).rx = some r → r.taker = .notTaker)
    (hf : (f d.fe).inFlight = d.fe.inFlight) (hq : (f d.fe).txq = d.fe.txq) : (d.onFe f).Roomy P Q := by
  refine h.same rfl (Nat.add_le_add_left ?_ _) (Nat.le_refl _) (fun g hg => ⟨g, hf ▸ hg, rfl⟩) id (Nat.le_refl _)
    (Nat.le_refl _) fun h7 => by rwa [onFe_fe, hq]
  rw [heldBack_eq]
  cases hr : (f d.fe).rx with
  | none => simp [hr]
  | some r => simp [hr, hx r hr, TakerState.held]

theorem rxStart (h : d.Roomy P Q) (w : Wait) : (d.rxStart w).Roomy P Q := by
  unfold Device.rxStart
  extract_lets d1
  refine ite (fun _ => ?_) fun _ => h
  have h1 : d1.Roomy P Q := h.untilStart w
  exact ite (fun _ => h1.edge) fun _ => (h1.onSck _).edge.newRx (fun r hr => by cases hr; rfl) (by rfl) (by rfl)

theorem dropQualified (h : d.Roomy P Q) : d.dropQualified.Roomy P Q := by
  unfold Device.dropQualified
  split
  · refine ite (fun _ => ?_) fun _ => h
    have hx : (d.onRx fun x => { x with taker := .notTaker }).Roomy P Q := h.onRx fun _ _ => .inl (Nat.zero_le _)
    exact hx.formWaiting.evaluateSince d
  · exact h

/-- A station becomes a possible taker only with a record to hold back (R150). -/
theorem atBodyEnd_taker (raw : RawFrame) (r : Rx) (b : Body) (d : Device) : (d.atBodyEnd raw r b).taker = r.taker ∨
    0 < d.poolFree ∧ (d.atBodyEnd raw r b).taker = .qualified := by
  unfold atBodyEnd
  split
  · exact .inl (by split <;> rfl)
  · split
    · next hc =>
      refine .inr ⟨?_, rfl⟩
      simp only [Bool.and_eq_true] at hc
      obtain ⟨-, hc⟩ := hc
      unfold qualifies at hc
      split at hc
      · cases hc
      · simp only [Bool.and_eq_true, decide_eq_true_eq] at hc
        exact hc.1.2
    · exact .inl rfl
  · exact .inl rfl

theorem rxBody (h : d.Roomy P Q) (k : Kind) (raw : RawFrame) : (d.rxBody k raw).Roomy P Q := by
  unfold Device.rxBody
  split
  · exact h.onRx_same fun _ => rfl
  · refine h.onRx fun r _ => ?_
    rcases atBodyEnd_taker raw { r with stage := .bodyEnd } ‹_› d with ht | ⟨hp, ht⟩
    · exact .inl (by rw [ht])
    · exact .inr ⟨hp, by rw [ht]; exact Nat.le_refl _⟩

theorem driveShort (h : d.Roomy P Q) (r : Rx) : (d.driveShort r).Roomy P Q := by
  unfold Device.driveShort
  split
  · exact ite (fun _ => h.drive _) fun _ => h
  · exact h

theorem reserve (h : d.Roomy P Q) (lane : Option (Fin 8)) : (d.reserve lane).Roomy P Q := by
  cases lane with
  | some i => exact h.onLane _ _
  | none => exact h

theorem takerSlots (h : d.Roomy P Q) (rep : OfferReply) (dish : Byte) : (d.takerSlots rep dish).Roomy P Q := by
  rcases takerSlots_cases rep dish d with he | he | ⟨r, hr, hq, -, -, ⟨-, he⟩ | ⟨-, he⟩⟩ <;> rw [he]
  · exact h
  · exact h.dropQualified
  · exact (h.drive _).dropQualified
  · refine Roomy.drive (Roomy.reserve ((h.drive _).onRx fun r' hr' => .inl ?_) _) _
    obtain rfl : r = r' := Option.some.inj (hr.symm.trans hr')
    rw [hq]
    exact Nat.le_refl 1

theorem rxReply (h : d.Roomy P Q) (k : Kind) (raw : RawFrame) (gapFault : Bool) (rep : OfferReply) :
    (d.rxReply k raw gapFault rep).Roomy P Q := by
  unfold Device.rxReply
  extract_lets d1
  have h1 : d1.Roomy P Q := h.onRx_same fun _ => rfl
  split
  · exact h1.driveShort _
  · exact (ite (fun _ => h1.dropQualified) fun _ => h1.takerSlots _ _).onRx_same fun _ => rfl
  · exact h1.dropQualified

theorem takeTime (h : d.Roomy P Q) (raw : RawFrame) : (d.takeTime raw).Roomy P Q := by
  unfold Device.takeTime
  refine ite (fun _ => ?_) fun _ => h.onSck _
  exact ite (fun _ => h.onSck _) fun _ => (h.onSck _).notify _

theorem takeTime_counts (raw : RawFrame) (d : Device) : (d.takeTime raw).bp = d.bp ∧ (d.takeTime raw).fe = d.fe := by
  unfold Device.takeTime
  dsimp only
  (repeat' split) <;> exact ⟨rfl, rfl⟩

theorem closeRx (h : d.Roomy P Q) (agree : Bool) : (d.closeRx agree).Roomy P Q :=
  (h.newRx (fun _ hr => by cases hr) (by rfl) (by rfl)).onLif _

theorem deliver (h : d.Roomy P Q) (raw : RawFrame) (r : Rx) (b : Body)
    (hn : Q → ∀ lane, r.taker = .won lane → d.bp.batches.length + d.heldBack < Config.batchCapacity) :
    (d.deliver raw r b).Roomy P Q := by
  unfold Device.deliver
  extract_lets stamp
  split
  · exact h
  · exact h.applyReady _ _ _ _ _ _ _
  · exact h.applySlip _ _ _ _ _ _
  · split
    · next lane ht => exact h.takerCommit _ _ _ _ _ _ _ _ _ _ fun q => hn q lane ht
    · exact h
  · exact ite (fun _ => h) fun _ => h.applyVoid _ _ _
  · exact ite (fun _ => h) fun _ => h.applyPickup _ _
  · split
    · exact h
    · exact h.notify _
    · exact h.notify _
    · exact h.takeTicket _ _ _ _ _ _ _ _ _

theorem rxAccept (h : d.Roomy P Q) (k : Kind) (raw : RawFrame) (lateFault : Bool) (acc : SlotReading) (agree : Bool) :
    (d.rxAccept k raw lateFault acc agree).Roomy P Q := by
  unfold Device.rxAccept
  split
  · exact h
  · next r hr =>
    extract_lets found bad d1 d2 taken d3
    have h1 : d1.Roomy P Q := ite (fun _ => h.drive _) fun _ => h
    have h2 : d2.Roomy P Q := (h1.closeRx _).countHeard _
    have h3 : d3.Roomy P Q := (ite (fun _ => h2.takeTime raw) fun _ => h2).onSck _
    have hcount : d3.bp.batches.length = d.bp.batches.length ∧ d3.fe.rx = none := by
      obtain ⟨hb, hx⟩ := countHeard_counts bad (d1.closeRx agree)
      have hd1 : d1.bp = d.bp := by
        simp only [d1]
        split <;> rfl
      have hd3 : d3.bp = d2.bp ∧ d3.fe = d2.fe := by
        simp only [d3]
        split
        · exact takeTime_counts raw d2
        · exact ⟨rfl, rfl⟩
      rw [hd3.1, hd3.2]
      exact ⟨hb.trans (congrArg (·.batches.length) hd1), hx⟩
    split
    · refine ite (fun _ => h3.deliver raw r _ fun q lane ht => ?_) fun _ => ?_
      · have hroom := (h.room q).1
        rw [heldBack_eq, hr] at hroom
        rw [heldBack_eq, hcount.1, hcount.2]
        simp only [Option.map_some, Option.getD_some, ht, TakerState.held, Option.map_none, Option.getD_none] at hroom ⊢
        omega
      · split
        · exact h3.releaseTaker _
        · exact h3
    · exact h3

theorem codingViolation (h : d.Roomy P Q) (w : Wait) (line : Followed) : (d.codingViolation w line).Roomy P Q := by
  unfold Device.codingViolation
  extract_lets d0
  have h0 : d0.Roomy P Q := h.rxStart w
  split
  · exact ite (fun _ => h0.hear _) fun _ => h
  · next r _ =>
    extract_lets d1 d2
    refine ite (fun _ => h) fun _ => ?_
    have h1 : d1.Roomy P Q := ite (fun _ => h0.drive _) fun _ => h0
    have h2 : d2.Roomy P Q := (((h1.hear _).closeRx _).countHeard _).onSck _
    exact ite (fun _ => h2.formWaiting.evaluateSince d2) fun _ => h2

theorem receive (h : d.Roomy P Q) (k : Kind) (x : Heard) (rep : OfferReply) : (d.receive k x rep).Roomy P Q := by
  unfold Device.receive
  extract_lets d0 d1
  have hp : (d0.pass x.lasted).Roomy P Q := (h.rxStart _).pass _
  split
  · exact ite (fun _ => hp.hear _) fun _ => h
  · refine ite (fun _ => hp.codingViolation _ _) fun _ => ite (fun _ => h) fun _ => ?_
    extract_lets d2 d3
    have h1 : d1.Roomy P Q := (hp.hear _).onRx_same fun _ => rfl
    have h2 : d2.Roomy P Q := ite (fun _ => h1.rxBody _ _) fun _ => h1
    have h3 : d3.Roomy P Q := ite (fun _ => h2.rxReply _ _ _ _) fun _ => h2
    exact ite (fun _ => h3.rxAccept _ _ _ _ _) fun _ => h3

/-! ### Line failures -/

theorem failover (h : d.Roomy P Q) (inGap : Bool) : (d.failover inGap).Roomy P Q := by
  unfold Device.failover
  split
  · exact h.bitError _ _
  · exact h.quietLine.dropQualified.onRx_same fun _ => rfl

theorem wireFails (h : d.Roomy P Q) (w : Wire) (x : Failure) : (d.wireFails w x).Roomy P Q := by
  unfold Device.wireFails
  exact ite (fun _ => ((h.changeMode _ _).onLif _).failover _) fun _ => h

theorem dropLine (h : d.Roomy P Q) : d.dropLine.Roomy P Q := by
  unfold Device.dropLine
  extract_lets d1 d2
  have h1 : d1.Roomy P Q := by
    simp only [d1]
    split
    · next f hf => exact h.reportFate hf _ _ _ _ _
    · exact h
  have h2 : d2.Roomy P Q := (h1.newRx (fun _ hr => by cases hr) (by rfl) (by rfl)).onSck _
  split
  · exact h1
  · split
    · exact h2
    · exact h2.formWaiting.evaluateSince d2
    · exact h2.releaseTaker _

theorem lineDown (h : d.Roomy P Q) (cause : DownCause) (other : Fin 2) : (d.lineDown cause other).Roomy P Q := by
  unfold Device.lineDown
  extract_lets found good d1 d2 d3
  have h1 : d1.Roomy P Q := h.changeMode _ _
  have h2 : d2.Roomy P Q := by
    simp only [d2]
    split <;> exact h1.onLif _
  have h3 : d3.Roomy P Q := (h2.quietLine.onFe (by rfl) (by rfl) (by rfl)).dropLine
  exact ite (fun _ => ite (fun _ => h3.markPartial) fun _ => h3) fun _ => h

theorem frameSeen (h : d.Roomy P Q) (x : Seen) : (d.frameSeen x).Roomy P Q := by
  unfold Device.frameSeen
  exact ite (fun _ => ((h.changeMode _ _).onLif _).onFe (by rfl) (by rfl) (by rfl)) fun _ => h

end Device.Roomy

end Sys2Proof.Machine
end

section
/-! The commands of the station port keep the rooms, and so does every step (O53). -/

namespace Sys2Proof.Machine

open Device

/-! ### The menu (R60 to R62) -/

theorem mem_loadEntry {x y : Dish} {m : List Dish} (h : y ∈ loadEntry x m) : y = x ∨ y ∈ m := by
  rcases List.mem_cons.mp ((insertBy_perm _ _ _).mem_iff.mp h) with hy | hy
  · exact .inl hy
  · exact .inr (List.mem_filter.mp hy).1

theorem pairwise_loadEntry (x : Dish) {m : List Dish} (h : m.Pairwise (fun a b => a.code.toNat < b.code.toNat)) :
    (loadEntry x m).Pairwise (fun a b => a.code.toNat < b.code.toNat) := by
  have hins := pairwise_insertBy (lt := fun a b : Dish => decide (a.code.toNat < b.code.toNat)) (x := x)
    (l := m.filter (fun y => y.code != x.code)) (fun y hy hxy => ?_) (fun y _ z _ hxy hyz => ?_) ?_
  · exact hins.imp of_decide_eq_true
  · have hne : y.code ≠ x.code := by simpa using (List.mem_filter.mp hy).2
    have hne : y.code.toNat ≠ x.code.toNat := fun he => hne (BitVec.eq_of_toNat_eq he)
    simp only [decide_eq_false_iff_not, decide_eq_true_eq] at hxy ⊢
    omega
  · simp only [decide_eq_true_eq] at hxy hyz ⊢
    exact hxy.trans hyz
  · exact (h.filter _).imp fun hab => decide_eq_true hab

theorem length_loadEntry (x : Dish) (m : List Dish) :
    (loadEntry x m).length = (m.filter (fun y => y.code != x.code)).length + 1 := by
  rw [loadEntry, (insertBy_perm _ _ _).length_eq, List.length_cons]

/-- An entry that replaces one of its code leaves the menu no longer than it was. -/
theorem length_loadEntry_of_mem {x y : Dish} {m : List Dish} (hy : y ∈ m) (hc : y.code = x.code) :
    (loadEntry x m).length ≤ m.length := by
  rw [length_loadEntry]
  exact List.length_filter_lt_length_iff_exists.mpr ⟨y, hy, by simp [hc]⟩

namespace Device.Roomy

variable {P Q : Prop} {d e : Device}

theorem loadDish (h : d.Roomy P Q) (p : List Byte) : (d.loadDish p).Roomy P Q := by
  unfold Device.loadDish
  refine ite (fun _ => h.answer _ _) fun _ => ite (fun _ => h.answer _ _) fun _ => ite (fun _ => h.answer _ _) fun h0 =>
    ite (fun _ => h.answer _ _) fun _ => ite (fun _ => h.answer _ _) fun hfull => ?_
  refine Roomy.answer (h.onSp fun ⟨hn, hl, hm, ho, hc⟩ => ?_) _ _
  refine ⟨hn, hl, ?_, pairwise_loadEntry _ ho, fun y hy => ?_⟩
  · change (loadEntry (dishFrom p) d.sp.menu).length ≤ Config.menuCapacity
    cases hd : d.dish? (param p 0) with
    | none =>
      have hlt : ¬Config.menuCapacity ≤ d.sp.menu.length := by simpa [hd] using hfull
      have := List.length_filter_le (fun y : Dish => y.code != (dishFrom p).code) d.sp.menu
      rw [length_loadEntry]
      omega
    | some y =>
      have hcode : y.code = (dishFrom p).code := by simpa [dishFrom] using List.find?_some hd
      exact (length_loadEntry_of_mem (List.mem_of_find?_eq_some hd) hcode).trans hm
  · rcases mem_loadEntry hy with rfl | hy
    · simpa [dishFrom] using h0
    · exact hc y hy

theorem clearMenu (h : d.Roomy P Q) (p : List Byte) : (d.clearMenu p).Roomy P Q := by
  unfold Device.clearMenu
  refine ite (fun _ => h.answer _ _) fun _ => ite (fun _ => h.answer _ _) fun _ => ?_
  refine Roomy.answer (h.onSp ?_) _ _
  rintro ⟨hn, hl, -, -, -⟩
  exact ⟨hn, hl, Nat.zero_le _, .nil, nofun⟩

theorem readNotice (h : d.Roomy P Q) (p : List Byte) : (d.readNotice p).Roomy P Q := by
  unfold Device.readNotice
  refine ite (fun _ => h.answer _ _) fun _ => ?_
  split
  · exact h.answer _ _
  · next n rest hq =>
    refine Roomy.answer (h.onSp ?_) _ _
    rintro ⟨hn, -, hm, ho, hc⟩
    refine ⟨?_, Nat.zero_le _, hm, ho, hc⟩
    rw [hq, List.length_cons] at hn
    exact (Nat.le_succ _).trans hn

/-! ### Setup and control -/

theorem applyLock (h : d.Roomy P Q) (c : ModeCause) : (d.applyLock c).Roomy P Q := by
  unfold Device.applyLock
  exact Roomy.onLif (ite (fun _ => h) fun _ => h.changeMode _ _) _

theorem configure (h : d.Roomy P Q) (p : List Byte) : (d.configure p).Roomy P Q := by
  unfold Device.configure
  refine ite (fun _ => h.answer _ _) fun _ => ite (fun _ => h.answer _ _) fun _ => ite (fun _ => h.answer _ _) fun _ => ?_
  exact (((h.onSp fun hp => by exact hp).onLu _).applyLock _).answer _ _

theorem enterListen (h : d.Roomy P Q) : d.enterListen.Roomy P Q := by
  unfold Device.enterListen
  extract_lets d1 d2
  have h2 : d2.Roomy P Q := (h.onFe rfl rfl rfl).onSck _
  exact (h2.applyLock _).onLif _

theorem join (h : d.Roomy P Q) (p : List Byte) : (d.join p).Roomy P Q := by
  unfold Device.join
  refine ite (fun _ => h.answer _ _) fun _ => ite (fun _ => h.answer _ _) fun _ => ite (fun _ => h.answer _ _) fun _ => ?_
  exact h.enterListen.answer _ _

theorem roomOk_of_empty (hb : d.bp.batches = []) (hh : d.bp.handed = []) (hw : d.wu.waves = []) (hi : d.ti.issues = [])
    (hu : d.iu.queue = []) (hq : d.fe.txq = []) (hx : d.fe.rx = none) : d.roomOk := by
  have hroom : 0 < Config.handedCapacity := by decide
  refine ⟨?_, ?_, fun _ _ _ _ => ?_, ?_, ?_, ?_, ?_⟩ <;> simp [heldBack_eq, hb, hh, hw, hi, hu, hq, hx, hroom]

theorem leave (h : d.Roomy P Q) (p : List Byte) : (d.leave p).Roomy P Q := by
  unfold Device.leave
  refine ite (fun _ => h.answer _ _) fun _ => ite (fun _ => h.answer _ _) fun _ => ?_
  have hl : d.leaveAll.Roomy P Q := ⟨h.port, fun _ => roomOk_of_empty rfl rfl rfl rfl rfl rfl rfl⟩
  exact (hl.notify _).answer _ _

theorem reset (a : Addr) (k : ClassNo) : (Device.reset a k).Roomy P Q :=
  ⟨fun _ => ⟨Nat.zero_le _, Nat.zero_le _, Nat.zero_le _, .nil, nofun⟩,
    fun _ => roomOk_of_empty rfl rfl rfl rfl rfl rfl rfl⟩

theorem readStation (h : d.Roomy P Q) (n : Nat) (p : List Byte) : (d.readStation n p).Roomy P Q := by
  unfold Device.readStation
  exact ite (fun _ => (h.passIdle n).answer _ _) fun _ => (h.passIdle n).answer _ _

theorem silence (h : d.Roomy P Q) (p : List Byte) : (d.silence p).Roomy P Q :=
  ite (fun _ => h.answer _ _) fun _ => (h.onLu _).answer _ _

theorem ringBell (h : d.Roomy P Q) (p : List Byte) : (d.ringBell p).Roomy P Q :=
  ite (fun _ => h.answer _ _) fun _ => (h.onLu _).answer _ _

/-! ### The pass commands (spec/10) -/

theorem openWave (h : d.Roomy P Q) (p : List Byte) : (d.openWave p).Roomy P Q := by
  unfold Device.openWave
  refine ite (fun _ => h.answer _ _) fun _ => ite (fun _ => h.answer _ _) fun _ => ite (fun _ => h.answer _ _) fun _ =>
    ite (fun _ => h.answer _ _) fun _ => ite (fun _ => h.answer _ _) fun _ => ?_
  exact Roomy.answer (h.addWave rfl) _ _

/-- An entry joins the issue queue while there is room (R160). -/
theorem appendIssue (h : d.Roomy P Q) (e : IssueEntry) (hn : Q → d.iu.queue.length < Config.issueCapacity) :
    (d.appendIssue e).Roomy P Q := by
  refine Roomy.placeHead ⟨h.port, fun q => ?_⟩
  obtain ⟨h1, h2, h3, h4, -, h6, h7⟩ := h.room q
  refine ⟨h1, h2, h3, h4, ?_, h6, h7⟩
  simpa using hn q

theorem issueQueue_of_not_full (h : ¬d.issueFull = true) : d.iu.queue.length < Config.issueCapacity := by
  simpa [issueFull] using h

/-- An issue record is added while there is room (R159). -/
theorem addIssue (h : d.Roomy P Q) (r : Issue) (hn : Q → d.ti.issues.length < Config.ticketCapacity) :
    (d.onTi fun t => { t with issues := t.issues ++ [r] }).Roomy P Q := by
  refine ⟨h.port, fun q => ?_⟩
  obtain ⟨h1, h2, h3, h4, h5, -, h7⟩ := h.room q
  refine ⟨h1, h2, h3, h4, h5, ?_, h7⟩
  simpa using hn q

theorem issueTicket (h : d.Roomy P Q) (p : List Byte) : (d.issueTicket p).Roomy P Q := by
  unfold Device.issueTicket
  refine ite (fun _ => h.answer _ _) fun _ => ite (fun _ => h.answer _ _) fun _ => ite (fun _ => h.answer _ _) fun _ =>
    ite (fun _ => h.answer _ _) fun _ => ite (fun _ => h.answer _ _) fun _ => ite (fun _ => h.answer _ _) fun hfull => ?_
  extract_lets ref d1
  obtain ⟨hq, ht⟩ : ¬d.issueFull = true ∧ d.ti.issues.length < Config.ticketCapacity := by simpa using hfull
  have h1 : d1.Roomy P Q := h.addIssue _ fun _ => ht
  exact (h1.appendIssue _ fun _ => issueQueue_of_not_full hq).answer _ _

theorem recallTicket (h : d.Roomy P Q) (s : Serial) : (d.recallTicket s).Roomy P Q := by
  unfold Device.recallTicket
  extract_lets atHead d1
  have h1 : d1.Roomy P Q := (h.dropIssue s).onIu (List.length_filter_le _ _)
  exact (ite (fun _ => h1.withdraw _) fun _ => h1).placeHead

theorem voidTicket (h : d.Roomy P Q) (p : List Byte) : (d.voidTicket p).Roomy P Q := by
  unfold Device.voidTicket
  refine ite (fun _ => h.answer _ _) fun _ => ite (fun _ => h.answer _ _) fun _ => ?_
  split
  · exact h.answer _ _
  · refine ite (fun _ => h.answer _ _) fun _ => ?_
    split
    · exact h.answer _ _
    · refine ite (fun _ => h.answer _ _) fun _ => ite (fun _ => (h.recallTicket _).answer _ _) fun _ =>
        ite (fun _ => h.answer _ _) fun hfull => ?_
      exact ((h.onIssue _ _).appendIssue _ fun _ => issueQueue_of_not_full (d := d) hfull).answer _ _

theorem sendPickup (h : d.Roomy P Q) (p : List Byte) : (d.sendPickup p).Roomy P Q := by
  unfold Device.sendPickup
  refine ite (fun _ => h.answer _ _) fun _ => ite (fun _ => h.answer _ _) fun _ => ?_
  split
  · exact h.answer _ _
  · refine ite (fun _ => h.answer _ _) fun _ => ite (fun _ => h.answer _ _) fun hfull => ?_
    exact ((h.onWave _ fun _ hw => by exact hw).appendIssue _ fun _ => issueQueue_of_not_full (d := d) hfull).answer _ _

/-! ### Reads, and the rows of the work -/

theorem answerPlace (h : d.Roomy P Q) {α : Type} (l : List α) (i : Nat) (f : Nat → α → List Byte) :
    (d.answerPlace l i f).Roomy P Q := by
  unfold Device.answerPlace
  split <;> exact h.answer _ _

theorem readWave (h : d.Roomy P Q) (p : List Byte) : (d.readWave p).Roomy P Q :=
  ite (fun _ => h.answer _ _) fun _ => ite (fun _ => h.answer _ _) fun _ => ite (fun _ => h.answerPlace _ _ _) fun _ =>
    ite (fun _ => h.answerPlace _ _ _) fun _ => h.answer _ _

theorem readTicket (h : d.Roomy P Q) (p : List Byte) : (d.readTicket p).Roomy P Q :=
  ite (fun _ => h.answer _ _) fun _ => ite
    (fun _ => ite (fun _ => h.answerPlace _ _ _) fun _ => ite (fun _ => h.answerPlace _ _ _) fun _ => h.answer _ _)
    fun _ => ite (fun _ => h.answerPlace _ _ _) fun _ => h.answerPlace _ _ _

theorem readBatch (h : d.Roomy P Q) (p : List Byte) : (d.readBatch p).Roomy P Q := by
  refine ite (fun _ => h.answer _ _) fun _ => ite (fun _ => h.answer _ _) fun _ => ite (fun _ => ?_)
    fun _ => h.answerPlace _ _ _
  split <;> exact h.answer _ _

theorem readLane (h : d.Roomy P Q) (p : List Byte) : (d.readLane p).Roomy P Q := by
  unfold Device.readLane
  (repeat' split) <;> exact h.answer _ _

theorem onNamed (h : d.Roomy P Q) (pass : Addr) (num : Byte) {f : Nat → Device → Device}
    (hf : ∀ r (x : Device), x.Roomy P Q → (f r x).Roomy P Q) : (d.onNamed pass num f).Roomy P Q := by
  unfold Device.onNamed
  split
  · exact hf _ d h
  · exact h

theorem slipCutoff (h : d.Roomy P Q) (r : Nat) : (d.slipCutoff r).Roomy P Q := by
  unfold Device.slipCutoff
  split
  · exact ite (fun _ => h.evaluate) fun _ => h
  · exact h

theorem holdExpired (h : d.Roomy P Q) (seq : Seq) : (d.holdExpired seq).Roomy P Q := by
  unfold Device.holdExpired
  split
  · exact h.holdExpiry _
  · exact h

theorem buttonPress (h : d.Roomy P Q) (i : Fin 8) (inAccept : Bool) : (d.buttonPress i inAccept).Roomy P Q := by
  unfold Device.buttonPress
  exact ite (fun _ => h.onInFlight fun _ => by rfl) fun _ => h.press i

end Device.Roomy

end Sys2Proof.Machine

namespace Sys2Proof

open Machine Machine.Device

theorem Instr.effect_roomy (c : Instr) {P Q : Prop} {d : Device} (h : d.Roomy P Q) : (c.effect d).Roomy P Q := by
  cases c with
  | reset a k => exact Roomy.reset a k
  | tickBoundary => exact h.settleBoundary.endTick
  | periodEnd => exact h.periodEnd
  | markPlace => exact h.markPlace
  | contend start => exact h.contend start
  | arbitrationLost => exact h.loseArbitration
  | ownBitError inGap line => exact h.ownBitError inGap line
  | frameCodingViolation wait line => exact h.codingViolation wait line
  | markFrame x => exact h.receive _ x _
  | readyFrame x => exact h.receive _ x _
  | slipFrame x => exact h.receive _ x _
  | offerFrame x rep => exact h.receive _ x _
  | ticketFrame x => exact h.receive _ x _
  | voidFrame x => exact h.receive _ x _
  | pickupFrame x => exact h.receive _ x _
  | readyFate fate line => exact h.fateOf _ _ _ _ line
  | slipFate fate line => exact h.fateOf _ _ _ _ line
  | offerFate fate rep line => exact h.fateOf _ _ _ _ line
  | markFate fate line => exact h.fateOf _ _ _ _ line
  | ticketFate fate short line => exact h.fateOf _ _ _ _ line
  | voidFate fate line => exact h.fateOf _ _ _ _ line
  | pickupFate fate line => exact h.fateOf _ _ _ _ line
  | wireFailed wire failure => exact h.wireFails wire failure
  | lineReturn => exact h.lineReturn
  | lineDown cause other => exact h.lineDown cause other
  | frameSeen seen => exact h.frameSeen seen
  | quietEnd => exact h.quietEnd
  | listenEnd => exact h.listenEnd
  | waveClose pass num => exact h.onNamed pass num fun r _ hx => hx.waveClose r
  | waveSettle pass num => exact h.onNamed pass num fun r _ hx => hx.waveSettle r
  | waveAbandon pass num => exact h.onNamed pass num fun r _ hx => hx.waveAbandon r
  | passWaveAbandon pass num => exact h.onNamed pass num fun r _ hx => hx.passAbandon r
  | batchReleased seq => exact .ite (fun _ => h.dispatch.evaluate) fun _ => h
  | batchBehind seq => exact .ite (fun _ => h.evaluate) fun _ => h
  | offerRetryDue seq => exact .ite (fun _ => h.evaluate) fun _ => h
  | slipCutoff pass num => exact h.onNamed pass num fun r _ hx => hx.slipCutoff r
  | holdExpiry seq => exact h.holdExpired seq
  | turnCompare i => exact h.turnCompare i
  | turnFlashEnd i => exact h.flashEnd i
  | dueCompare i => exact h.dueCompare i
  | callOverdue i => exact h.callOverdue i
  | dueOverdue i => exact h.dueOverdue i
  | buttonPress i inAccept => exact h.buttonPress i inAccept
  | configure p => exact h.configure p
  | loadDish p => exact h.loadDish p
  | clearMenu p => exact h.clearMenu p
  | join p => exact h.join p
  | leave p => exact h.leave p
  | silence p => exact h.silence p
  | ring p => exact h.ringBell p
  | openWave p => exact h.openWave p
  | issueTicket p => exact h.issueTicket p
  | voidTicket p => exact h.voidTicket p
  | sendPickup p => exact h.sendPickup p
  | readStation n p => exact h.readStation n p
  | readWave p => exact h.readWave p
  | readTicket p => exact h.readTicket p
  | readBatch p => exact h.readBatch p
  | readLane p => exact h.readLane p
  | readNotice p => exact h.readNotice p
  | unknownCommand code p => exact .ite (fun _ => h) fun _ => h.answer _ _
  | nullSelect p => exact h
  | messageCutShort p => exact .ite (fun _ => h.answer _ _) fun _ => h

theorem step_roomy {P Q : Prop} {s t : State} (h : s.dev.Roomy P Q) (hstep : step s = .next t) : t.dev.Roomy P Q := by
  rcases step_eq_next.mp hstep with ⟨c, rest, -, rfl⟩ | ⟨-, rfl⟩
  · exact c.effect_roomy h
  · exact h.crystalCount

/-- Settles O53: each command, and each crystal count, keeps the limits of the port and those of the rooms. -/
theorem roomInvariant : Obligations.RoomInvariant :=
  ⟨fun _ _ h hstep => (step_roomy (P := True) (Q := False) ⟨fun _ => h, False.elim⟩ hstep).port trivial,
    fun _ _ h hstep => (step_roomy (P := False) (Q := True) ⟨False.elim, fun _ => h⟩ hstep).room trivial⟩

end Sys2Proof
end

section
/-! Offsets, a lost arbitration, the idle count, and coding violations (O11, O12, O13, O16). -/

namespace Sys2Proof.Machine

open Device

/-! ### A lost arbitration (R27, R36) -/

/-- What a contender that has lost follows, its entry back at the end of a queue without one of its key. -/
theorem Device.loseArbitration_eq {d : Device} {f : InFlight} (hf : d.fe.inFlight = some f)
    (hq : ∀ e ∈ d.fe.txq, e.sameKey f.entry = false) :
    d.loseArbitration = { d with fe := { d.fe with
      inFlight := none
      drove := []
      txq := d.fe.txq ++ [f.entry]
      rx := some { startState := .onLine, frame := none, stage := .start, bad := false, ticket := .disregard,
                   taker := .notTaker } } } := by
  have hw : d.waiting f.entry = false := by simpa [waiting] using hq
  have hp : placeEntry f.entry d.fe.txq = d.fe.txq ++ [f.entry] := placeEntry_of_not_waiting hw
  unfold loseArbitration
  rw [hf]
  refine (if_neg ?_).trans ?_
  · simpa [waiting, quietLine, onFe] using hw
  · simp [place, quietLine, onFe, hp]

/-! ### The estimate offset (R37) -/

theorem offsetFor_saturated {e : Estimate} {stamp : Tick} (h : e.saturated = true) : offsetFor e stamp = (32767, true) :=
  if_pos h

theorem offsetFor_behind {e : Estimate} {stamp : Tick} (h : e.saturated = false) (hx : (e.tick - stamp).toInt < 0) :
    offsetFor e stamp = (0, false) :=
  (if_neg (Bool.eq_false_iff.mp h)).trans (if_pos hx)

theorem offsetFor_within {e : Estimate} {stamp : Tick} (h : e.saturated = false) (h0 : 0 ≤ (e.tick - stamp).toInt)
    (h1 : (e.tick - stamp).toInt ≤ 32767) :
    offsetFor e stamp = (BitVec.ofNat 15 (e.tick - stamp).toInt.toNat, false) :=
  (if_neg (Bool.eq_false_iff.mp h)).trans ((if_neg (Int.not_lt.mpr h0)).trans (if_pos h1))

theorem offsetFor_beyond {e : Estimate} {stamp : Tick} (h : e.saturated = false) (hx : 32767 < (e.tick - stamp).toInt) :
    offsetFor e stamp = (32767, true) := by
  have h0 : ¬(e.tick - stamp).toInt < 0 := by omega
  exact (if_neg (Bool.eq_false_iff.mp h)).trans ((if_neg h0).trans (if_neg (Int.not_le.mpr hx)))

/-! ### READY and SLIP filled (R37, R96, R105) -/

theorem Device.fillReady_eq_fill {d : Device} {ref : Nat} {stamp : Tick} {num : Byte} {pass : Addr} {off : BitVec 15}
    {far wd : Bool} (h : d.fillReady ref stamp = .fill (.ready num pass off far wd)) :
    ∃ w, d.wave? ref = some w ∧ num = w.noticeId.num ∧ pass = w.noticeId.pass ∧
      ((wd = true ∧ off = 0 ∧ far = false ∧ w.est = none) ∨
        (wd = false ∧ ∃ e, w.est = some e ∧ (off, far) = offsetFor e stamp)) := by
  unfold fillReady at h
  split at h
  · cases h
  · next w hw =>
    split at h
    · cases h
    · split at h
      · next e he =>
        cases h
        exact ⟨w, hw, rfl, rfl, .inr ⟨rfl, e, he, rfl⟩⟩
      · next hnone _ =>
        cases h
        exact ⟨w, hw, rfl, rfl, .inl ⟨rfl, rfl, rfl, hnone⟩⟩
      · cases h

theorem Device.fillSlip_eq_fill {d : Device} {ref : Nat} {stamp : Tick} {num : Byte} {pass : Addr} {off : BitVec 15}
    {far : Bool} (h : d.fillSlip ref stamp = .fill (.slip num pass off far)) :
    ∃ w e, d.wave? ref = some w ∧ num = w.noticeId.num ∧ pass = w.noticeId.pass ∧ w.est = some e ∧
      (off, far) = offsetFor e stamp := by
  unfold fillSlip at h
  split at h
  · cases h
  · next w hw =>
    split at h
    · next e he =>
      split at h
      · cases h
        exact ⟨w, e, hw, rfl, rfl, he, rfl⟩
      · cases h
    · cases h

/-! ### The idle count (R19, R26, R48) -/

/-- What slot times without an edge leave at a station that follows the Link with no frame in hand. -/
theorem Device.passSlots_eq (n : Nat) {d : Device} (hs : d.fe.station ≠ .standby) (hf : d.fe.inFlight = none)
    (hx : d.fe.rx = none) : d.passSlots n = { d with
      lif := { d.lif with silenceA := min 16 (d.lif.silenceA + n), silenceB := min 16 (d.lif.silenceB + n) }
      fe := { d.fe with
        idleCount := if d.lif.mode = .down then d.fe.idleCount else min 11 (d.fe.idleCount + n) } } := by
  have hhand : d.frameInHand = false := by simp [frameInHand, hf, hx]
  have hstation : (d.fe.station == .standby) = false := by simpa using hs
  have hfollows : d.follows = true ↔ ¬d.lif.mode = .down := by
    cases hm : d.lif.mode <;> simp [follows, hs, hm, LineMode.path]
  unfold passSlots
  rw [hhand, if_neg Bool.false_ne_true]
  by_cases hm : d.lif.mode = .down
  · rw [if_neg fun h => hfollows.mp h hm, if_neg (by simpa using hs), if_pos hm]
    rfl
  · rw [if_pos (hfollows.mpr hm), if_neg (by simpa using hs), if_neg hm]
    rfl

/-- What passes before a start slot at a station with no frame in hand and nothing to be taken, in any line mode. -/
theorem Device.untilStart_eq_passed {d : Device} (w : Wait) (hs : d.fe.station ≠ .standby) (hf : d.fe.inFlight = none)
    (hx : d.fe.rx = none) (hr : d.returnDue = false) (hb : w.elapsed = 0 ∨ d.sck.atBoundary = false) :
    d.untilStart w = { d with
      sck := d.sck.advance w.elapsed
      lif := d.lif.passSlots w.slots
      fe := { d.fe with
        idleCount := if d.lif.mode = .down then d.fe.idleCount else min 11 (d.fe.idleCount + w.slots)
        drove := [] } } := by
  have hp := passSlots_eq w.slots (d := d.quietLine) hs hf hx
  rw [untilStart, lineReturn_of_not_due hr, hp]
  exact pass_eq w.elapsed hr hb

/-- The new tick leaves the line, and the idle count (R1). -/
theorem Device.newTick_line (d : Device) : d.newTick.lif = d.lif ∧ d.newTick.fe.idleCount = d.fe.idleCount := by
  obtain ⟨e, he, hd⟩ := newTick_eq d
  have hk : d.tickBegun.Kept e := he ▸ tickWork_kept _
  have hc : d.fe.countTick.idleCount = d.fe.idleCount := by unfold Fe.countTick; split <;> rfl
  rw [hd]
  exact ⟨hk.lif, hk.idleCount.trans hc⟩

/-- What a start edge leaves that begins no frame. -/
def Device.edgeSeen (w : Wait) (d : Device) : Device :=
  { d with
    sck := d.sck.advance w.elapsed
    lif := d.lif.passSlots w.slots
    fe := { d.fe with idleCount := 0, drove := [] } }

/-- The station of O11: none of its frames in hand, nothing to be taken, and an idle count below 11 by the start slot. -/
structure Device.TooSoon (w : Wait) (d : Device) : Prop where
  below   : d.lif.mode ≠ .down → d.fe.idleCount + w.slots < 11
  station : d.fe.station ≠ .standby
  flight  : d.fe.inFlight = none
  rx      : d.fe.rx = none
  due     : d.returnDue = false
  settled : w.elapsed = 0 ∨ d.sck.atBoundary = false

theorem Device.TooSoon.untilStart {w : Wait} {d : Device} (h : d.TooSoon w) : d.untilStart w = { d with
      sck := d.sck.advance w.elapsed
      lif := d.lif.passSlots w.slots
      fe := { d.fe with
        idleCount := if d.lif.mode = .down then d.fe.idleCount else min 11 (d.fe.idleCount + w.slots)
        drove := [] } } := untilStart_eq_passed w h.station h.flight h.rx h.due h.settled

/-- Its start edge begins no frame (R19, R48). -/
theorem Device.TooSoon.rxStart {w : Wait} {d : Device} (h : d.TooSoon w) : d.rxStart w = d.edgeSeen w := by
  have hl : d.listens = true := by simp [listens, frameInHand, h.station, h.flight, h.rx]
  have hno : (!(d.untilStart w).follows || decide ((d.untilStart w).fe.idleCount < 11)) = true := by
    rw [h.untilStart]
    by_cases hm : d.lif.mode = .down
    · simp [follows, hm, LineMode.path, Lif.passSlots]
    · have := h.below hm
      simp [hm]
      omega
  rw [Device.rxStart, if_pos hl]
  refine (if_pos ?_).trans ?_
  · simpa using hno
  · rw [h.untilStart]; rfl

theorem Device.TooSoon.contend {start : OwnStart} {d : Device} (h : d.TooSoon start.toWait) : d.contend start = d := by
  have hno : (d.untilStart start.toWait).mayContend = false := by
    rw [h.untilStart]
    by_cases hm : d.lif.mode = .down
    · simp [mayContend, mayDrive, hm, LineMode.wires, Lif.passSlots]
    · have := h.below hm
      have hlt : ¬11 ≤ min 11 (d.fe.idleCount + start.slots) := by omega
      simp [mayContend, hm, hlt]
  unfold Device.contend
  simp [hno]

theorem Device.TooSoon.listens {w : Wait} {d : Device} (h : d.TooSoon w) : d.listens = true := by
  simp [Device.listens, frameInHand, h.station, h.flight, h.rx]

/-- A row that follows no frame brings the silence counts alone (R48). -/
theorem Device.hear_eq (q : Silences) {d : Device} (hs : d.fe.station ≠ .standby) : d.hear q = d.onLif (Lif.hear q) := by
  simp [hear, hs]

theorem Device.TooSoon.codingViolation {w : Wait} {d : Device} (h : d.TooSoon w) (line : Followed) :
    d.codingViolation w line = { d with
      sck := d.sck.advance w.elapsed
      lif := { d.lif with silenceA := line.silentA.val, silenceB := line.silentB.val }
      fe := { d.fe with idleCount := 0, drove := [] } } := by
  have hx : (d.edgeSeen w).fe.rx = none := h.rx
  unfold Device.codingViolation
  simp only [h.rxStart, hx, h.listens, if_true]
  exact hear_eq (d := d.edgeSeen w) _ h.station

theorem Device.TooSoon.receive {x : Heard} {d : Device} (h : d.TooSoon x.toWait) (k : Kind) (rep : OfferReply)
    (hb : x.lasted = 0 ∨ d.sck.atBoundary = false) : d.receive k x rep = { d with
      sck := (d.sck.advance x.elapsed).advance x.lasted
      lif := { d.lif with silenceA := x.silentA.val, silenceB := x.silentB.val }
      fe := { d.fe with idleCount := 0, drove := [] } } := by
  have hx : (d.edgeSeen x.toWait).fe.rx = none := h.rx
  have hp : (d.edgeSeen x.toWait).pass x.lasted = (d.edgeSeen x.toWait).onSck (Sck.advance x.lasted) :=
    pass_eq x.lasted h.due hb
  unfold Device.receive
  simp only [h.rxStart, hx, h.listens, if_true, hp]
  exact hear_eq (d := (d.edgeSeen x.toWait).onSck (Sck.advance x.lasted)) _ h.station

/-! ### A coding violation (R25, R40, R44, R46, R55) -/

/-- The finding that a frame is bad, counted below 128 (R44). -/
theorem Device.countHeard_bad {d : Device} (hs : d.fe.station = .onLine) (ht : d.fe.tecCount < 128)
    (hr : d.fe.recCount < 127) :
    d.countHeard true = d.onFe (fun f => { f with recCount := f.recCount + 1 }) := by
  have hq : (d.onFe (fun f => { f with recCount := f.recCount + 1 })).quietIfDue = _ :=
    quietIfDue_of_below fun _ => ⟨ht, Nat.succ_lt_succ hr⟩
  rw [← hq]
  simp [countHeard, hs]

/-- The finding that takes REC to 128 (R46). -/
theorem Device.countHeard_full {d : Device} (hs : d.fe.station = .onLine) (hr : d.fe.recCount = 127) :
    d.countHeard true = (d.onFe (fun f => { f with recCount := 128 })).enterQuiet := by
  simp [countHeard, quietIfDue, hs, hr, onFe]

theorem Device.countHeard_quiet {d : Device} (hs : d.fe.station = .quiet) : d.countHeard true = d.markPartial := by
  simp [countHeard, hs]

theorem Device.countHeard_listen {d : Device} (bad : Bool) (hs : d.fe.station = .listen) : d.countHeard bad = d := by
  simp [countHeard, hs]

/-- The end of a frame a station followed, as the line and the Frame Engine then stand (R19, R48, R50). -/
def Device.frameLeft (line : Followed) (d : Device) : Device :=
  { d with lif := d.heardLine line, fe := { d.fe with rx := none, idleCount := 0 } }

theorem Device.closeRx_hear {d : Device} (line : Followed) (hs : d.fe.station ≠ .standby) :
    (d.hear line.toSilences).closeRx line.agree = d.frameLeft line := by
  rw [hear_eq _ hs]
  rfl

/-- A coding violation in a frame that a station follows before its reply gap, where no block has decided to take it. -/
theorem Device.codingViolation_eq {d d0 : Device} {r : Rx} {wait : Wait} (line : Followed) (h0 : d.rxStart wait = d0)
    (hr : d0.fe.rx = some r) (hstage : r.stage = .start ∨ r.stage = .bodyEnd) (htaker : r.taker = .notTaker)
    (hs : d0.fe.station ≠ .standby) :
    d.codingViolation wait line =
      ((((if d0.mayDrive r.startState then d0.drive .rejectBreak else d0).frameLeft line).countHeard true).onSck
        (fun k => { k with capture := none })) := by
  have hrank : ¬2 ≤ stageRank r.stage := by rcases hstage with h | h <;> rw [h] <;> decide
  have hclose : ∀ x : Device, x.fe.station = d0.fe.station →
      (x.hear line.toSilences).closeRx line.agree = x.frameLeft line := fun x hx => closeRx_hear line (hx ▸ hs)
  unfold codingViolation
  simp only [h0, hr, htaker, hrank, if_false]
  rw [hclose _ (by split <;> rfl)]
  rfl

/-- The entries that QUIET withdraws (R40). -/
theorem withdrawEntry_quiet (q : List TxEntry) : withdrawEntry .mark (withdrawEntry (.offer 0) q) =
    q.filter (fun e => !(e.sameKey (.offer 0) || e.sameKey .mark)) := by
  simp only [withdrawEntry, List.filter_filter, Bool.not_or, Bool.and_comm]

/-- No batch whose OFFER entry was withdrawn keeps its marker (R40, R145). -/
theorem Bp.offerPending_unmark {q : List TxEntry} {p : Bp} {b : Batch} (hb : b ∈ (p.unmark q).batches)
    (hq : .offer b.bid ∈ q) : b.offerPending = false := by
  obtain ⟨x, -, rfl⟩ := List.mem_map.mp hb
  by_cases hx : .offer x.bid ∈ q
  · simp [hx]
  · simp [hx] at hq

/-- What a station with no frame in hand follows from a start slot at the idle count of 11 (R4, R19, R20). -/
def Device.frameBegun (w : Wait) (d : Device) : Device :=
  { d with
    sck := { d.sck.advance w.elapsed with capture := some (d.sck.advance w.elapsed).reading }
    lif := d.lif.passSlots w.slots
    fe := { d.fe with
      idleCount := 0
      drove := []
      rx := some { startState := d.fe.station, frame := none, stage := .start, bad := false, ticket := .disregard,
                   taker := .notTaker } } }

theorem Device.rxStart_of_hears {d : Device} {h : Heard} (hh : d.hears h) : d.rxStart h.toWait = d.frameBegun h.toWait := by
  obtain ⟨hs, hm, hx, hf, hr, hi, -, hb⟩ := hh
  have hwait := untilStart_eq h.toWait hs hm hx hf hr (hb.imp And.left id)
  have hbelow : ¬d.fe.idleCount + h.slots < 11 := by omega
  simp [rxStart, listens, frameInHand, hwait, follows, hs, hm, hx, hf, onFe, onSck, edge, hbelow, frameBegun]

/-- A frame that a start edge begins stands at its start slot; one already in hand is left alone. -/
theorem Device.rxStart_cases {d : Device} {w : Wait} {r : Rx} (hr : (d.rxStart w).fe.rx = some r) :
    d.rxStart w = d ∨ r.stage = .start := by
  by_cases hl : d.listens = true
  · refine .inr ?_
    have hno : (d.untilStart w).fe.rx = none := by
      have hx : (d.untilStart w).fe.rx = d.fe.rx := (Prod.ext_iff.mp (untilStart_inHand w d)).1
      simp_all [listens, frameInHand]
    rw [rxStart, if_pos hl] at hr
    dsimp only at hr
    split at hr
    · rw [edge, onFe_fe, hno] at hr; cases hr
    · cases hr; rfl
  · exact .inl (if_neg hl)

/-- A frame row whose fields hold a coding violation acts as FRAME_CODING_VIOLATION does (R18, R25). -/
theorem Device.receive_of_broken {h : Heard} (k : Kind) (rep : OfferReply) (hb : h.broken = true) (hl : h.lasted = 0)
    (d : Device) : d.receive k h rep = d.codingViolation h.toWait h.toFollowed := by
  unfold receive
  simp only [hl, hb, pass_zero, if_true]
  split
  · next hn =>
    unfold codingViolation
    simp only [hn]
  · next r hr =>
    rcases rxStart_cases hr with h0 | hstage
    · rw [h0]
    · have hrank : ¬2 ≤ stageRank r.stage := by rw [hstage]; decide
      unfold codingViolation
      simp only [rxStart_of_rx _ hr, hr, hrank, if_false]

end Sys2Proof.Machine

namespace Sys2Proof

open Machine Machine.Device

theorem Machine.exec_of_effect {c : Instr} {s : State} {e : Device} (h : c.effect s.dev = e) :
    exec c s = .next { s with dev := e } := exec_eq_next.mpr (by rw [State.onDev, h])

/-- Settles O13. -/
theorem arbitrationLostReturns : Obligations.ArbitrationLostReturns := by
  intro s f hf hq
  exact exec_of_effect (loseArbitration_eq hf hq)

/-- Settles O12. -/
theorem offsetRule : Obligations.OffsetRule := by
  refine ⟨fun e stamp => ⟨offsetFor_saturated, offsetFor_behind, fun h h0 h1 => ?_, offsetFor_beyond⟩,
    fun _ _ _ _ _ _ _ _ => fillReady_eq_fill, fun _ _ _ _ _ _ _ => fillSlip_eq_fill⟩
  rw [offsetFor_within h h0 h1]
  refine ⟨?_, rfl⟩
  simp only [BitVec.toNat_ofNat]
  omega

/-- Settles O11. -/
theorem idleCountGates : Obligations.IdleCountGates := by
  refine ⟨fun d n hs hf hx => passSlots_eq n hs hf hx, fun s k h rep line hlow hs hf hx hr hb => ?_,
    fun s n hs hf hx hr hb hn => ?_⟩
  · have hsoon : s.dev.TooSoon h.toWait := ⟨hlow, hs, hf, hx, hr, hb.imp And.left id⟩
    refine ⟨exec_of_effect (c := .contend _) (e := s.dev) ?_, exec_of_effect ?_, exec_of_effect (hsoon.codingViolation line)⟩
    · exact TooSoon.contend (start := { toWait := h.toWait, toSilences := h.toSilences }) hsoon
    · rw [effect_frameCommand]
      exact hsoon.receive k _ (hb.imp And.right id)
  · rw [exec_tickBoundary]
    refine ⟨_, rfl, ?_⟩
    have hp := passSlots_eq n hs hf hx
    obtain ⟨hl, hi⟩ := newTick_line (s.dev.passSlots n)
    have ht : s.dev.tickBoundary = (s.dev.passSlots n).newTick := by
      rw [tickBoundary, settleBoundary_of_settled hb, lineReturn_of_not_due hr, hn]
      rfl
    rw [ht, hl, hi, hp]
    exact ⟨rfl, rfl⟩

/-- Settles O16: the frame ends by the station's state, and a frame row with a violation is the same command. -/
theorem codingViolationCounted : Obligations.CodingViolationCounted := by
  refine ⟨fun s r wait line hr hstage htaker hstart => ?_, fun s h line hh hs ht hrec => ?_,
    fun s k h rep hb hl => ?_⟩
  · have heq : s.dev.fe.station ≠ .standby → s.dev.codingViolation wait line = _ :=
      codingViolation_eq line (rxStart_of_rx wait hr) hr hstage htaker
    refine ⟨fun hs hm ht hrec => exec_of_effect ?_, fun hs hm ht hrec => ?_, fun hs => exec_of_effect ?_,
      fun hs => exec_of_effect ?_⟩
    · have hmay : s.dev.mayDrive r.startState = true := (mayDrive_iff _ _).mpr ⟨hstart.trans hs, hs, hm⟩
      refine (heq (by simp [hs])).trans ?_
      rw [if_pos hmay, countHeard_bad (d := (s.dev.drive .rejectBreak).frameLeft line) hs ht hrec]
      rfl
    · have hmay : s.dev.mayDrive r.startState = true := (mayDrive_iff _ _).mpr ⟨hstart.trans hs, hs, hm⟩
      refine ⟨_, exec_of_effect (heq (by simp [hs])), rfl, ?_⟩
      rw [if_pos hmay, countHeard_full (d := (s.dev.drive .rejectBreak).frameLeft line) hs hrec, enterQuiet_eq]
      have ht' : decide (128 ≤ s.dev.fe.tecCount) = false := by simpa using ht
      refine ⟨rfl, rfl, rfl, rfl, rfl, rfl, rfl, withdrawEntry_quiet _, fun b => Bp.offerPending_unmark, rfl, ?_, rfl, rfl,
        rfl⟩
      have hq : ∀ x : Device, x.fe.tecCount = s.dev.fe.tecCount → x.fe.recCount = 128 →
          NoticeBody.linkQuiet x.fe.tecCount x.fe.recCount (decide (128 ≤ x.fe.tecCount)) (decide (128 ≤ x.fe.recCount)) =
            .linkQuiet s.dev.fe.tecCount 128 false true := fun x hx hy => by rw [hx, hy, ht']; rfl
      exact congrArg (s.dev.sp.queueNotice s.dev.sck.tick) (hq _ rfl rfl)
    · have hmay : s.dev.mayDrive r.startState = false := by simp [mayDrive, hs]
      refine (heq (by simp [hs])).trans ?_
      rw [hmay, if_neg Bool.false_ne_true, countHeard_quiet (d := s.dev.frameLeft line) hs, markPartial_eq]
      rfl
    · have hmay : s.dev.mayDrive r.startState = false := by simp [mayDrive, hs]
      refine (heq (by simp [hs])).trans ?_
      rw [hmay, if_neg Bool.false_ne_true, countHeard_listen (d := s.dev.frameLeft line) _ hs]
      rfl
  · refine exec_of_effect ((codingViolation_eq line (rxStart_of_hears hh) rfl (.inl rfl) rfl hh.1).trans ?_)
    have hmay : (s.dev.frameBegun h.toWait).mayDrive s.dev.fe.station = true :=
      (mayDrive_iff _ _).mpr ⟨hs, hs, hh.2.1⟩
    have hx : s.dev.fe.rx = none := hh.2.2.1
    rw [if_pos hmay, countHeard_bad (d := ((s.dev.frameBegun h.toWait).drive .rejectBreak).frameLeft line) hs ht hrec]
    simp [frameBegun, frameLeft, drive, driven, onFe, onSck, heardLine, Lif.hear, Lif.passSlots, hx]
  · have heff : (frameCommand k h rep).effect s.dev = s.dev.codingViolation h.toWait h.toFollowed := by
      rw [effect_frameCommand]
      exact receive_of_broken k _ hb hl s.dev
    rw [exec_of_effect heff]
    exact (exec_of_effect (c := .frameCodingViolation h.toWait h.toFollowed) rfl).symm

end Sys2Proof
end

section
/-! What formation, dispatch and the evaluation leave filed (O17, and the hand-off): the records stay the same ones. -/

namespace Sys2Proof.Machine

open Device

/-- No two batches share an identity of the model, and each lies below its counter. -/
def Bp.Numbered (p : Bp) : Prop := (p.batches.map (·.bid)).Nodup ∧ ∀ b ∈ p.batches, b.bid < p.nextBid

/-- The batches stay, each with its wave, and those that come take identities not given before. -/
structure Bp.Grows (p q : Bp) : Prop where
  numbered : q.Numbered
  next     : p.nextBid ≤ q.nextBid
  stay     : ∀ x ∈ p.batches, ∃ y ∈ q.batches, y.bid = x.bid ∧ y.wave = x.wave
  fresh    : ∀ y ∈ q.batches, (∃ x ∈ p.batches, x.bid = y.bid) ∨ p.nextBid ≤ y.bid

theorem Bp.Grows.refl {p : Bp} (h : p.Numbered) : p.Grows p :=
  ⟨h, le_rfl, fun x hx => ⟨x, hx, rfl, rfl⟩, fun y hy => .inl ⟨y, hy, rfl⟩⟩

theorem Bp.Grows.trans {p q r : Bp} (h : p.Grows q) (k : q.Grows r) : p.Grows r where
  numbered := k.numbered
  next := h.next.trans k.next
  stay x hx := by
    obtain ⟨y, hy, hyb, hyw⟩ := h.stay x hx
    obtain ⟨z, hz, hzb, hzw⟩ := k.stay y hy
    exact ⟨z, hz, hzb.trans hyb, hzw.trans hyw⟩
  fresh z hz := by
    rcases k.fresh z hz with ⟨y, hy, hyz⟩ | hn
    · rcases h.fresh y hy with ⟨x, hx, hxy⟩ | hn
      · exact .inl ⟨x, hx, hxy.trans hyz⟩
      · exact .inr (hyz ▸ hn)
    · exact .inr (h.next.trans hn)

/-- Batches changed in place. -/
theorem Bp.Grows.ofMap {p q : Bp} {f : Batch → Batch} (h : p.Numbered) (hq : q.batches = p.batches.map f)
    (hn : q.nextBid = p.nextBid) (hb : ∀ b ∈ p.batches, (f b).bid = b.bid) (hw : ∀ b ∈ p.batches, (f b).wave = b.wave) :
    p.Grows q := by
  have hids : q.batches.map (·.bid) = p.batches.map (·.bid) := by
    rw [hq, List.map_map]
    exact List.map_congr_left hb
  refine ⟨⟨hids ▸ h.1, fun b hm => ?_⟩, hn.ge, fun x hx => ⟨f x, hq ▸ List.mem_map_of_mem hx, hb x hx, hw x hx⟩,
    fun y hy => ?_⟩
  · obtain ⟨x, hx, rfl⟩ := List.mem_map.mp (hq ▸ hm)
    rw [hn, hb x hx]
    exact h.2 x hx
  · obtain ⟨x, hx, rfl⟩ := List.mem_map.mp (hq ▸ hy)
    exact .inl ⟨x, hx, (hb x hx).symm⟩

theorem Bp.Grows.same {p q : Bp} (h : p.Numbered) (hq : q.batches = p.batches) (hn : q.nextBid = p.nextBid) : p.Grows q :=
  .ofMap (f := id) h (by rw [hq, List.map_id]) hn (fun _ _ => rfl) fun _ _ => rfl

/-- From `d` to `e` no wave record, ticket, issue record, issue entry or handed record is made or lost, no batch is newly
adopted, no lane is newly reserved, and the batches stay. -/
structure Device.SameFiles (d e : Device) : Prop where
  refs     : e.wu.waves.map (·.ref) = d.wu.waves.map (·.ref)
  tickets  : e.ti.tickets.map (fun x => (x.pass, x.serial)) = d.ti.tickets.map (fun x => (x.pass, x.serial))
  issues   : e.ti.issues = d.ti.issues
  issueQ   : e.iu = d.iu
  handed   : e.bp.handed = d.bp.handed
  adopted  : ∀ b ∈ e.bp.batches, b.adopted = true → ∃ x ∈ d.bp.batches, x.bid = b.bid ∧ x.adopted = true
  reserved : ∀ i : Fin 8, (d.lane i).reserved = false → (e.lane i).reserved = false
  grows    : d.bp.Numbered → d.bp.Grows e.bp

namespace Device.SameFiles

variable {a b c d e : Device}

/-- The records and the lanes as they were. -/
theorem ofSame (hw : e.wu = d.wu) (ht : e.ti = d.ti) (hb : e.bp = d.bp) (hu : e.iu = d.iu) (hl : e.lu = d.lu) :
    d.SameFiles e :=
  ⟨by rw [hw], by rw [ht], by rw [ht], hu, by rw [hb], fun x hx ha => ⟨x, hb ▸ hx, rfl, ha⟩,
    fun i h => by rwa [lane, hl], fun h => .same h (by rw [hb]) (by rw [hb])⟩

theorem refl (d : Device) : d.SameFiles d := ofSame rfl rfl rfl rfl rfl

theorem trans (h : a.SameFiles b) (k : b.SameFiles c) : a.SameFiles c where
  refs := k.refs.trans h.refs
  tickets := k.tickets.trans h.tickets
  issues := k.issues.trans h.issues
  issueQ := k.issueQ.trans h.issueQ
  handed := k.handed.trans h.handed
  adopted x hx ha := by
    obtain ⟨y, hy, hyx, hya⟩ := k.adopted x hx ha
    obtain ⟨z, hz, hzy, hza⟩ := h.adopted y hy hya
    exact ⟨z, hz, hzy.trans hyx, hza⟩
  reserved i hi := k.reserved i (h.reserved i hi)
  grows hn := (h.grows hn).trans (k.grows (h.grows hn).numbered)

theorem ite {p : Prop} [Decidable p] {x y : Device} (hx : p → d.SameFiles x) (hy : ¬p → d.SameFiles y) :
    d.SameFiles (if p then x else y) := by
  split
  · next h => exact hx h
  · next h => exact hy h

theorem foldl {α : Type} {f : Device → α → Device} (hf : ∀ (x : Device) (a : α), x.SameFiles (f x a)) (l : List α)
    (d : Device) : d.SameFiles (l.foldl f d) := by
  induction l generalizing d with
  | nil => exact refl d
  | cons a l ih => exact (hf d a).trans (ih _)

/-! ### One part changed -/

/-- The batch records changed, each as much adopted as one of its identity before. -/
theorem onBp {f : Bp → Bp} (hh : (f d.bp).handed = d.bp.handed)
    (hb : ∀ b ∈ (f d.bp).batches, b.adopted = true → ∃ x ∈ d.bp.batches, x.bid = b.bid ∧ x.adopted = true)
    (hg : d.bp.Numbered → d.bp.Grows (f d.bp)) : d.SameFiles (d.onBp f) :=
  ⟨rfl, rfl, rfl, rfl, hh, hb, fun _ => id, hg⟩

/-- The batch records as they were, or only the fire queue changed. -/
theorem onFireQ {f : Bp → Bp} (hh : (f d.bp).handed = d.bp.handed) (hb : (f d.bp).batches = d.bp.batches)
    (hn : (f d.bp).nextBid = d.bp.nextBid) : d.SameFiles (d.onBp f) :=
  onBp hh (fun b hm ha => ⟨b, hb ▸ hm, rfl, ha⟩) fun h => .same h hb hn

theorem onBatch (bid : Nat) {f : Batch → Batch}
    (hf : ∀ b, (f b).bid = b.bid ∧ (f b).adopted = b.adopted ∧ (f b).wave = b.wave) (d : Device) :
    d.SameFiles (d.onBatch bid f) := by
  refine onBp rfl (fun b hb ha => ?_) fun h => .ofMap h rfl rfl (fun b _ => ?_) fun b _ => ?_
  case refine_2 => split; exacts [(hf b).1, rfl]
  case refine_3 => split; exacts [(hf b).2.2, rfl]
  obtain ⟨x, hx, rfl⟩ := List.mem_map.mp hb
  refine ⟨x, hx, ?_, ?_⟩
  · split
    · exact (hf x).1.symm
    · rfl
  · split at ha
    · exact (hf x).2.1.symm.trans ha
    · exact ha

theorem onWave (ref : Nat) {f : Wave → Wave} (hf : ∀ w, (f w).ref = w.ref) (d : Device) : d.SameFiles (d.onWave ref f) := by
  refine ⟨?_, rfl, rfl, rfl, rfl, fun b hb ha => ⟨b, hb, rfl, ha⟩, fun _ => id, .refl⟩
  simp only [Device.onWave, onWu_wu, List.map_map]
  refine List.map_congr_left fun w _ => ?_
  simp only [Function.comp_apply]
  split
  · exact hf w
  · rfl

theorem onTi {f : Ti → Ti} (hf : (f d.ti).tickets.map (fun x => (x.pass, x.serial)) =
    d.ti.tickets.map (fun x => (x.pass, x.serial))) (hi : (f d.ti).issues = d.ti.issues) : d.SameFiles (d.onTi f) :=
  ⟨rfl, hf, hi, rfl, rfl, fun b hb ha => ⟨b, hb, rfl, ha⟩, fun _ => id, .refl⟩

theorem onLane (i : Fin 8) {f : Lane → Lane} (hf : ∀ l, l.reserved = false → (f l).reserved = false) (d : Device) :
    d.SameFiles (d.onLane i f) := by
  refine ⟨rfl, rfl, rfl, rfl, rfl, fun b hb ha => ⟨b, hb, rfl, ha⟩, fun j hj => ?_, .refl⟩
  by_cases hij : i.val = j.val
  · obtain rfl : i = j := Fin.ext hij
    simpa [lane, Device.onLane, Lu.setLane] using hf _ hj
  · simpa [lane, Device.onLane, Lu.setLane, Vector.getElem_set_ne, hij] using hj

theorem notify (n : NoticeBody) (d : Device) : d.SameFiles (d.notify n) := ofSame rfl rfl rfl rfl rfl

theorem place (e : TxEntry) (d : Device) : d.SameFiles (d.place e) := ofSame rfl rfl rfl rfl rfl

theorem lowerDemand (r : Nat) (c : Byte) (n : Nat) (d : Device) : d.SameFiles (d.lowerDemand r c n) :=
  onWave r (fun _ => by rfl) d

/-! ### Dispatch and the evaluation -/

theorem beginCall (i : Fin 8) (bid : Nat) (d : Device) : d.SameFiles (d.beginCall i bid) :=
  ((onFireQ rfl rfl rfl).trans (onBatch bid (fun _ => by exact ⟨rfl, rfl, rfl⟩) _)).trans (onLane i (fun _ _ => by rfl) _)

theorem dispatchLane (i : Fin 8) (d : Device) : d.SameFiles (d.dispatchLane i) := by
  unfold Device.dispatchLane
  refine ite (fun _ => ?_) fun _ => refl d
  split
  · exact (beginCall i _ d).trans (notify _ _)
  · exact refl d

theorem dispatch (d : Device) : d.SameFiles d.dispatch := foldl (fun x i => dispatchLane i x) _ d

theorem recompute (d : Device) : d.SameFiles d.recompute :=
  ⟨by simp [Device.recompute, Function.comp_def], rfl, rfl, rfl, rfl, fun b hb ha => ⟨b, hb, rfl, ha⟩, fun _ => id, .refl⟩

theorem announce (r : Nat) (d : Device) : d.SameFiles (d.announce r) := by
  unfold Device.announce
  split
  · exact ite (fun _ => place _ d) fun _ => refl d
  · exact refl d

theorem slipEval (r : Nat) (d : Device) : d.SameFiles (d.slipEval r) := by
  unfold Device.slipEval
  split
  · exact ite (fun _ => place _ d) fun _ => refl d
  · exact refl d

theorem markLate (b : Nat) (d : Device) : d.SameFiles (d.markLate b) := by
  unfold Device.markLate
  split
  · exact refl d
  · split
    · exact refl d
    · exact ite (fun _ => (onBatch b (fun _ => by exact ⟨rfl, rfl, rfl⟩) d).trans (notify _ _)) fun _ => refl d

theorem offerEval (d : Device) : d.SameFiles d.offerEval := by
  unfold Device.offerEval
  refine ite (fun _ => ?_) fun _ => refl d
  split
  · exact (onBatch _ (fun _ => by exact ⟨rfl, rfl, rfl⟩) d).trans (place _ _)
  · exact refl d

theorem evaluate (d : Device) : d.SameFiles d.evaluate := by
  unfold Device.evaluate
  refine ite (fun _ => refl d) fun _ => ?_
  exact ((((recompute d).trans (foldl (fun x r => announce r x) _ _)).trans (foldl (fun x r => slipEval r x) _ _)).trans
    (foldl (fun x b => markLate b x) _ _)).trans (offerEval _)

theorem evaluateSince (b d : Device) : d.SameFiles (d.evaluateSince b) := by
  unfold Device.evaluateSince
  exact ite (fun _ => refl d) fun _ => evaluate d

/-! ### Formation -/

/-- Claiming leaves the tickets the same ones. -/
theorem tickets_claimTickets (ref : Nat) (dish : Byte) (ts : List Ticket) (bs : List Batch) :
    (claimTickets ref dish ts bs).1.map (fun x => (x.pass, x.serial)) = ts.map (fun x => (x.pass, x.serial)) := by
  induction ts generalizing bs with
  | nil => rfl
  | cons t ts ih =>
    unfold claimTickets
    split <;> simp [ih]

theorem tickets_drawTickets (ref : Nat) (dish : Byte) (n : Nat) (ts : List Ticket) :
    (drawTickets ref dish n ts).1.map (fun x => (x.pass, x.serial)) = ts.map (fun x => (x.pass, x.serial)) := by
  induction ts generalizing n with
  | nil => rfl
  | cons t ts ih =>
    unfold drawTickets
    split <;> simp [ih]

/-- A claim changes the contributors of a batch alone. -/
theorem mem_claimItem {serial : Serial} {n : Nat} {bs : List Batch} {x : Batch} (hx : x ∈ (claimItem serial n bs).2) :
    ∃ y ∈ bs, x.bid = y.bid ∧ x.adopted = y.adopted ∧ x.wave = y.wave := by
  induction bs generalizing n with
  | nil => cases hx
  | cons b bs ih =>
    unfold claimItem at hx
    rcases List.mem_cons.mp hx with rfl | hx
    · refine ⟨b, .head _, ?_⟩
      (repeat' split) <;> exact ⟨rfl, rfl, rfl⟩
    · obtain ⟨y, hy, h⟩ := ih hx
      exact ⟨y, .tail _ hy, h⟩

theorem mem_claimItems {serial : Serial} {dish : Byte} {its : List Item} {bs : List Batch} {x : Batch}
    (hx : x ∈ (claimItems serial dish its bs).2) : ∃ y ∈ bs, x.bid = y.bid ∧ x.adopted = y.adopted ∧ x.wave = y.wave := by
  induction its generalizing bs with
  | nil => exact ⟨x, hx, rfl, rfl, rfl⟩
  | cons it its ih =>
    unfold claimItems at hx
    split at hx
    · obtain ⟨y, hy, h1, h2, h3⟩ := ih hx
      obtain ⟨z, hz, h4, h5, h6⟩ := mem_claimItem hy
      exact ⟨z, hz, h1.trans h4, h2.trans h5, h3.trans h6⟩
    · exact ih hx

theorem mem_claimTickets {ref : Nat} {dish : Byte} {ts : List Ticket} {bs : List Batch} {x : Batch}
    (hx : x ∈ (claimTickets ref dish ts bs).2) : ∃ y ∈ bs, x.bid = y.bid ∧ x.adopted = y.adopted ∧ x.wave = y.wave := by
  induction ts generalizing bs with
  | nil => exact ⟨x, hx, rfl, rfl, rfl⟩
  | cons t ts ih =>
    unfold claimTickets at hx
    split at hx
    · obtain ⟨y, hy, h1, h2, h3⟩ := ih hx
      obtain ⟨z, hz, h4, h5, h6⟩ := mem_claimItems hy
      exact ⟨z, hz, h1.trans h4, h2.trans h5, h3.trans h6⟩
    · exact ih hx

/-- A batch as the claims leave it, or as it was: of one identity with a batch of the pool, and of its wave. -/
theorem mem_claimed {r : Nat} {c : Byte} {d : Device} {x : Batch} (hx : x ∈ d.bp.batches) :
    ∃ z ∈ d.bp.batches, ∃ y, ((claimTickets r c d.ti.tickets (d.claimable r c)).2.find? (fun y => y.bid == x.bid)).getD x = y ∧
      y.bid = x.bid ∧ z.bid = x.bid ∧ y.adopted = z.adopted ∧ y.wave = z.wave := by
  cases hf : List.find? (fun y => y.bid == x.bid) (claimTickets r c d.ti.tickets (d.claimable r c)).2 with
  | none => exact ⟨x, hx, x, rfl, rfl, rfl, rfl, rfl⟩
  | some y =>
    obtain ⟨z, hz, hzb, hza, hzw⟩ := mem_claimTickets (List.mem_of_find?_eq_some hf)
    have hz : z ∈ d.bp.batches := (List.mem_filter.mp (List.mem_filter.mp ((mem_sortBy _ _ _).mp hz)).1).1
    have hyx : y.bid = x.bid := by simpa using List.find?_some hf
    exact ⟨z, hz, y, rfl, hyx, hzb.symm.trans hyx, hza, hzw⟩

theorem claimSpares (r : Nat) (c : Byte) (d : Device) : d.SameFiles (d.claimSpares r c) := by
  refine ((onTi (tickets_claimTickets _ _ _ _) rfl).trans (onBp rfl (fun b hb ha => ?_) fun h =>
    .ofMap h rfl rfl (fun x hx => ?_) fun x hx => ?_)).trans (lowerDemand _ _ _ _)
  · obtain ⟨x, hx, rfl⟩ := List.mem_map.mp hb
    obtain ⟨z, hz, y, hy, hyb, hzb, hya, -⟩ := mem_claimed (r := r) (c := c) (d := d) hx
    rw [hy] at ha ⊢
    exact ⟨z, hz, hzb.trans hyb.symm, hya.symm.trans ha⟩
  · obtain ⟨-, -, y, hy, hyb, -⟩ := mem_claimed (r := r) (c := c) (d := d) hx
    exact (congrArg Batch.bid hy).trans hyb
  · obtain ⟨z, hz, y, hy, -, hzb, -, hyw⟩ := mem_claimed (r := r) (c := c) (d := d) hx
    obtain rfl : z = x := List.inj_on_of_nodup_map h.1 hz hx hzb
    exact (congrArg Batch.wave hy).trans hyw

theorem fillBatch (r : Nat) (c : Byte) (b : Batch) (d : Device) : d.SameFiles (d.fillBatch r c b) :=
  ((onTi (tickets_drawTickets _ _ _ _) rfl).trans (onBatch _ (fun _ => by exact ⟨rfl, rfl, rfl⟩) _)).trans (lowerDemand _ _ _ _)

theorem joinFire (b : Nat) (d : Device) : d.SameFiles (d.joinFire b) := by
  unfold Device.joinFire
  split
  · exact onFireQ rfl rfl rfl
  · exact refl d

theorem grows_addBatch {p : Bp} (b : Batch) (h : p.Numbered) : p.Grows { p with
    batches := p.batches ++ [{ b with bid := p.nextBid, seq := p.counter }], counter := p.counter + 1,
    nextBid := p.nextBid + 1 } := by
  refine ⟨⟨?_, fun x hx => ?_⟩, Nat.le_succ _, fun x hx => ⟨x, List.mem_append_left _ hx, rfl, rfl⟩, fun y hy => ?_⟩
  · rw [List.map_append, List.nodup_append]
    refine ⟨h.1, by simp, fun i hi j hj => ?_⟩
    obtain ⟨x, hx, rfl⟩ := List.mem_map.mp hi
    obtain rfl : j = p.nextBid := by simpa using hj
    exact (h.2 x hx).ne
  · rcases List.mem_append.mp hx with hx | hx
    · exact (h.2 x hx).trans (Nat.lt_succ_self _)
    · rw [List.mem_singleton.mp hx]
      exact Nat.lt_succ_self _
  · rcases List.mem_append.mp hy with hy | hy
    · exact .inl ⟨y, hy, rfl⟩
    · rw [List.mem_singleton.mp hy]
      exact .inr le_rfl

/-- A batch made by formation is not adopted. -/
theorem addBatch {b : Batch} (hb : b.adopted = false) (d : Device) : d.SameFiles (d.addBatch b) := by
  refine onBp rfl (fun x hx ha => ?_) (grows_addBatch b)
  rcases List.mem_append.mp hx with hx | hx
  · exact ⟨x, hx, rfl, ha⟩
  · obtain rfl := List.mem_singleton.mp hx
    exact absurd (hb.symm.trans ha) Bool.false_ne_true

theorem createBatches (r : Nat) (c : Byte) (n : Nat) (d : Device) : d.SameFiles (d.createBatches r c n) := by
  induction n generalizing d with
  | zero => exact refl d
  | succ n ih =>
    unfold Device.createBatches
    extract_lets x bid d1 d2
    refine ite (fun _ => refl d) fun _ => ?_
    have h1 : d.SameFiles d1 := onTi (tickets_drawTickets _ _ _ _) rfl
    have h2 : d1.SameFiles d2 := (addBatch rfl d1).trans (lowerDemand _ _ _ _)
    exact ((h1.trans h2).trans (joinFire bid d2)).trans (ih _)

theorem formDish (r : Nat) (c : Byte) (d : Device) : d.SameFiles (d.formDish r c) :=
  ((claimSpares r c d).trans (foldl (fun x b => fillBatch r c b x) _ _)).trans (createBatches r c _ _)

theorem formationPass (r : Nat) (d : Device) : d.SameFiles (d.formationPass r) := by
  unfold Device.formationPass
  split
  · exact (foldl (fun x c => formDish _ c x) _ d).trans (dispatch _)
  · exact refl d

theorem formWaiting (d : Device) : d.SameFiles d.formWaiting :=
  foldl (fun x r => ite (fun _ => formationPass r x) fun _ => refl x) _ d

theorem unreserve (lane : Option (Fin 8)) (d : Device) : d.SameFiles (d.unreserve lane) := by
  cases lane with
  | some i => exact onLane i (fun _ _ => by rfl) d
  | none => exact refl d

theorem releaseTaker (lane : Option (Fin 8)) (d : Device) : d.SameFiles (d.releaseTaker lane) :=
  (((unreserve lane d).trans (dispatch _)).trans (formWaiting _)).trans (evaluateSince _ _)

theorem dropQualified (d : Device) : d.SameFiles d.dropQualified := by
  unfold Device.dropQualified
  split
  · exact ite (fun _ => ((ofSame (d := d) (e := d.onRx fun x => { x with taker := .notTaker }) rfl rfl rfl rfl rfl).trans
      (formWaiting _)).trans (evaluateSince _ _)) fun _ => refl d
  · exact refl d

end Device.SameFiles

end Sys2Proof.Machine
end

section
/-! Frames found bad (O17). -/

namespace Sys2Proof.Machine

open Device

/-! ### The frame a station follows, stage by stage -/

/-- The part while it follows a frame, with what it has driven. -/
def Device.followingAs (h : Heard) (r : Rx) (drove : List Drive) (d : Device) : Device :=
  { d with
    sck := (Sck.advance h.lasted { d.sck.advance h.elapsed with capture := some (d.sck.advance h.elapsed).reading })
    lif := d.lif.hear h.toSilences
    fe := { d.fe with idleCount := 0, drove := drove, rx := some r } }

/-- What a station found bad by the end of the reply field (R23 to R25, R31). -/
def foundBad (k : Kind) (h : Heard) (rep : OfferReply) : Bool :=
  (framed k h.frame).isNone || h.gapFault || crcError h.frame || (k == .offer && (replyCheckError rep || rep.fault))

/-- What a station follows by the end of the Body field, as its blocks decided (R23, R28). -/
def Device.bodyHeard (k : Kind) (h : Heard) (ticket : TicketDecision) (taker : TakerState) (d : Device) : Rx :=
  { startState := d.fe.station, frame := some (k, h.frame), stage := .bodyEnd, bad := (framed k h.frame).isNone,
    ticket := ticket, taker := taker }

/-- The end of the Body field: a possible taker is a station that may drive and qualifies (R23, R28, R150). -/
theorem Device.rxBody_following (k : Kind) (h : Heard) (d : Device) : ∃ ticket taker,
    (d.following k h .start).rxBody k h.frame = d.followingAs h (d.bodyHeard k h ticket taker) [] ∧
      (taker = .notTaker ∨ taker = .qualified ∧ k = .offer ∧ (framed k h.frame).isSome ∧ d.fe.station = .onLine) := by
  unfold bodyHeard rxBody
  cases hf : framed k h.frame with
  | none => exact ⟨.disregard, .notTaker, rfl, .inl rfl⟩
  | some b =>
    cases b with
    | ticket num serial call lead gp go items =>
      cases hs : d.fe.station.applies with
      | true =>
        exact ⟨(d.following k h .start).decideTicket h.frame.sender num serial call items, .notTaker,
          by simp [following, followingAs, onRx, onFe, atBodyEnd, follower, hs], .inl rfl⟩
      | false =>
        exact ⟨.disregard, .notTaker, by simp [following, followingAs, onRx, onFe, atBodyEnd, follower, hs], .inl rfl⟩
    | offer num pass go slips dish portions cs =>
      by_cases hq : ((d.following k h .start).mayDrive d.fe.station &&
          (d.following k h .start).qualifies h.frame.cls num pass go dish portions) = true
      · refine ⟨.disregard, .qualified, ?_, .inr ⟨rfl, (framed_kind hf).symm, rfl, ?_⟩⟩
        · simp only [Bool.and_eq_true] at hq
          simp [following, followingAs, onRx, onFe, atBodyEnd, follower] at hq ⊢
          simp [hq]
        · simp only [Bool.and_eq_true, mayDrive_iff] at hq
          exact hq.1.1
      · refine ⟨.disregard, .notTaker, ?_, .inl rfl⟩
        have hd : (d.following k h .start).onRx (fun x =>
            (d.following k h .start).atBodyEnd h.frame { x with stage := .bodyEnd }
              (.offer num pass go slips dish portions cs)) = (d.following k h .start).onFe (fun x =>
            { x with rx := some ((d.following k h .start).atBodyEnd h.frame (d.follower k h .bodyEnd)
              (.offer num pass go slips dish portions cs)) }) := rfl
        have hno : (d.following k h .start).atBodyEnd h.frame (d.follower k h .bodyEnd)
            (.offer num pass go slips dish portions cs) = d.follower k h .bodyEnd := by
          refine if_neg ?_
          simpa [follower] using hq
        dsimp only
        rw [hd, hno]
        rfl
    | _ => exact ⟨.disregard, .notTaker, rfl, .inl rfl⟩

/-- A station that is no possible taker takes no part in the reply field (R30, R150). -/
theorem Device.takerSlots_of_notTaker {d : Device} {r : Rx} (rep : OfferReply) (dish : Byte) (hr : d.fe.rx = some r)
    (ht : r.taker = .notTaker) : d.takerSlots rep dish = d := by
  unfold takerSlots
  simp [hr, ht]

theorem Device.dropQualified_of_notTaker {d : Device} {r : Rx} (hr : d.fe.rx = some r) (ht : r.taker = .notTaker) :
    d.dropQualified = d := by
  unfold dropQualified
  simp [hr, ht]

/-- What a station follows by the end of the reply field, its finding with it (R24, R25, R31). -/
def Device.replyHeard (k : Kind) (h : Heard) (rep : OfferReply) (ticket : TicketDecision) (d : Device) : Rx :=
  { startState := d.fe.station, frame := some (k, h.frame), stage := .reply, bad := foundBad k h rep, ticket := ticket,
    taker := .notTaker }

/-- The reply field at a station that is no possible taker: it drives nothing but the SHORT slot of a TICKET it found good
and cannot hold (R28, R29). -/
theorem Device.rxReply_bodyHeard (k : Kind) (h : Heard) (rep : OfferReply) (ticket : TicketDecision) (d : Device) :
    ∃ drove, (d.followingAs h (d.bodyHeard k h ticket .notTaker) []).rxReply k h.frame h.gapFault rep =
        d.followingAs h (d.replyHeard k h rep ticket) drove ∧
      (drove = [] ∨ k = .ticket ∧ d.fe.station = .onLine ∧ (framed k h.frame).isSome ∧ h.gapFault = false ∧
        crcError h.frame = false) := by
  have hd : (d.followingAs h (d.bodyHeard k h ticket .notTaker) []).onRx (fun x =>
      { x with stage := .reply, bad := x.bad || h.gapFault || crcError h.frame }) =
      d.followingAs h { d.replyHeard k h rep ticket with
        bad := (framed k h.frame).isNone || h.gapFault || crcError h.frame } [] := rfl
  have hbad : ∀ bad, foundBad k h rep = bad → d.followingAs h { d.replyHeard k h rep ticket with bad := bad } [] =
      d.followingAs h (d.replyHeard k h rep ticket) [] := fun bad hb => by rw [← hb]; rfl
  have hkind : ∀ b, framed k h.frame = some b → b.kind = k := fun b hf => framed_kind hf
  unfold rxReply
  simp only [hd]
  cases hf : framed k h.frame with
  | none => exact ⟨[], hbad _ (by simp [foundBad, hf]), .inl rfl⟩
  | some b =>
    have hk := hkind b hf
    have hother : k ≠ .offer → foundBad k h rep = ((some b).isNone || h.gapFault || crcError h.frame) := fun ho => by
      simp [foundBad, hf, ho]
    cases b with
    | ticket num serial call lead gp go items =>
      have hb := hother (by rw [← hk]; exact nofun)
      generalize hx : d.followingAs h { d.replyHeard k h rep ticket with
        bad := (some (Body.ticket num serial call lead gp go items)).isNone || h.gapFault || crcError h.frame } [] = x
      have hx' : x = d.followingAs h (d.replyHeard k h rep ticket) [] := hx.symm.trans (hbad _ hb)
      have hr : x.fe.rx = some (d.replyHeard k h rep ticket) := by rw [hx']; rfl
      simp only [hr]
      unfold driveShort
      split
      · split
        · next hc =>
          simp only [Bool.and_eq_true, mayDrive_iff] at hc
          obtain ⟨⟨hon, -⟩, hgood⟩ := hc
          have hgood : foundBad k h rep = false := by simpa [replyHeard] using hgood
          rw [hb] at hgood
          refine ⟨[x.driven .shortSlot], ?_, .inr ⟨hk.symm, hon, rfl, ?_, ?_⟩⟩
          · rw [hx']; rfl
          · revert hgood; cases h.gapFault <;> simp
          · revert hgood; cases crcError h.frame <;> simp
        · exact ⟨[], hx', .inl rfl⟩
      · exact ⟨[], hx', .inl rfl⟩
    | offer num pass go slips dish portions cs =>
      have hb : foundBad k h rep = ((false || h.gapFault || crcError h.frame) || replyCheckError rep || rep.fault) := by
        rw [foundBad, hf, ← hk]
        simp [Body.kind, Bool.or_assoc]
      refine ⟨[], ?_, .inl rfl⟩
      generalize hx : d.followingAs h { d.replyHeard k h rep ticket with
        bad := (some (Body.offer num pass go slips dish portions cs)).isNone || h.gapFault || crcError h.frame } [] = x
      obtain ⟨r, hr, ht⟩ : ∃ r, x.fe.rx = some r ∧ r.taker = .notTaker := ⟨_, by rw [← hx]; rfl, rfl⟩
      simp only [hr, dropQualified_of_notTaker hr ht, takerSlots_of_notTaker rep dish hr ht, ite_self]
      rw [← hx]
      exact (congrArg (fun bad => d.followingAs h { d.replyHeard k h rep ticket with bad := bad } []) hb.symm)
    | ready => exact ⟨[], hbad _ (hother (by rw [← hk]; exact nofun)), .inl rfl⟩
    | slip => exact ⟨[], hbad _ (hother (by rw [← hk]; exact nofun)), .inl rfl⟩
    | void => exact ⟨[], hbad _ (hother (by rw [← hk]; exact nofun)), .inl rfl⟩
    | pickup => exact ⟨[], hbad _ (hother (by rw [← hk]; exact nofun)), .inl rfl⟩
    | mark => exact ⟨[], hbad _ (hother (by rw [← hk]; exact nofun)), .inl rfl⟩

/-! ### The accept slot -/

/-- What the end of a frame's accept slot leaves before its finding is counted. -/
def Device.heardAs (h : Heard) (drove : List Drive) (d : Device) : Device :=
  { d.frameHeard h with fe := { d.fe with idleCount := 0, drove := drove } }

/-- What a bad finding leaves of a frame that no possible taker held (R25, R32, R33, R44). -/
theorem Device.rxAccept_bad {d : Device} {k : Kind} {h : Heard} {r : Rx} (drove : List Drive) (hx : d.fe.rx = none)
    (ht : r.taker = .notTaker) (hbad : r.bad = true ∨ h.lateFault = true ∨ h.accept = .violation) :
    (d.followingAs h r drove).rxAccept k h.frame h.lateFault h.accept h.agree =
      ((d.heardAs h (drove ++ if (r.bad || h.lateFault) && d.mayDrive r.startState then [d.driven .acceptDominant] else
        [])).countHeard true).onSck (fun x => { x with capture := none }) := by
  have hb : (r.bad || h.lateFault || h.accept == .violation) = true := by
    rcases hbad with hb | hb | hb <;> simp [hb]
  have hclose : ∀ l, (d.followingAs h r l).closeRx h.agree = d.heardAs h l := fun l => by
    simp [closeRx, followingAs, heardAs, frameHeard, onFe, onLif, heardLine, cfg, hx]
  have hmay : (d.followingAs h r drove).mayDrive r.startState = d.mayDrive r.startState := rfl
  have hdrive : (d.followingAs h r drove).drive .acceptDominant =
      d.followingAs h r (drove ++ [d.driven .acceptDominant]) := rfl
  unfold rxAccept
  rw [show (d.followingAs h r drove).fe.rx = some r from rfl]
  dsimp only
  rw [hb, hmay]
  have hd1 : (if (r.bad || h.lateFault) && d.mayDrive r.startState then
      (d.followingAs h r drove).drive .acceptDominant else d.followingAs h r drove) = d.followingAs h r (drove ++
        if (r.bad || h.lateFault) && d.mayDrive r.startState then [d.driven .acceptDominant] else []) := by
    split
    · exact hdrive
    · rw [List.append_nil]
  rw [hd1, hclose]
  cases framed k h.frame with
  | none => rfl
  | some b => simp [ht]

/-- A frame found bad by a station that is no possible taker of it: what it leaves before its finding is counted. -/
theorem Device.receive_bad {d : Device} {k : Kind} {h : Heard} {rep : OfferReply} (hh : d.hears h) (hu : h.upTo = .accept)
    (hno : k ≠ .offer ∨ framed k h.frame = none ∨ d.fe.station ≠ .onLine)
    (hbad : foundBad k h rep = true ∨ h.lateFault = true ∨ h.accept = .violation) :
    ∃ drove, d.receive k h rep =
        ((d.heardAs h (drove ++ if (foundBad k h rep || h.lateFault) && d.mayDrive d.fe.station then
          [d.driven .acceptDominant] else [])).countHeard true).onSck (fun x => { x with capture := none }) ∧
      (drove = [] ∨ k = .ticket ∧ d.fe.station = .onLine ∧ (framed k h.frame).isSome ∧ h.gapFault = false ∧
        crcError h.frame = false) := by
  obtain ⟨ticket, taker, hbody, htaker⟩ := rxBody_following k h d
  have htaker : taker = .notTaker := by
    rcases htaker with ht | ⟨-, hk, hf, hs⟩
    · exact ht
    · rcases hno with h1 | h1 | h1
      · exact absurd hk h1
      · rw [h1] at hf; cases hf
      · exact absurd hs h1
  subst htaker
  obtain ⟨drove, hreply, hdrove⟩ := rxReply_bodyHeard k h rep ticket d
  refine ⟨drove, ?_, hdrove⟩
  rw [receive_of_hears k rep hh hu, hbody, hreply]
  exact rxAccept_bad drove hh.2.2.1 rfl hbad

/-- The bad frame as the station leaves it below 128, and at 128 (R44, R46, R55). -/
theorem Device.heardAs_counted {d : Device} {h : Heard} (drove : List Drive) (hs : d.fe.station = .onLine)
    (ht : d.fe.tecCount < 128) (hr : d.fe.recCount < 127) :
    ((d.heardAs h drove).countHeard true).onSck (fun x => { x with capture := none }) = { d with
      sck := { (d.sck.advance h.elapsed).advance h.lasted with capture := none }
      lif := d.heardLine h.toFollowed
      fe := { d.fe with idleCount := 0, recCount := d.fe.recCount + 1, drove := drove } } := by
  rw [countHeard_bad (d := d.heardAs h drove) hs ht hr]
  rfl

/-! ### An OFFER that a possible taker found bad (R128, R150, R151) -/

/-- What the clock, the line, the setup and the station's counts show. -/
def Device.standing (d : Device) :
    Sck × Lif × (Strap × Configuration × List Dish × Reply) × StationState × Nat × Nat × Nat × Bool :=
  (d.sck, d.lif, d.setup, d.fe.station, d.fe.tecCount, d.fe.recCount, d.fe.idleCount, d.fe.inFlight.isSome)

theorem Device.standing_eq_iff {d e : Device} : e.standing = d.standing ↔ e.sck = d.sck ∧ e.lif = d.lif ∧
    e.setup = d.setup ∧ e.fe.station = d.fe.station ∧ e.fe.tecCount = d.fe.tecCount ∧ e.fe.recCount = d.fe.recCount ∧
    e.fe.idleCount = d.fe.idleCount ∧ e.fe.inFlight.isSome = d.fe.inFlight.isSome := by
  simp [standing]

theorem Device.Kept.standing {d e : Device} (h : d.Kept e) : e.standing = d.standing :=
  standing_eq_iff.mpr ⟨h.sck, h.lif, h.setup, h.station, h.tecCount, h.recCount, h.idleCount, h.flight⟩

/-- What a station followed by the end of the reply field: its records as they were once a won lane is given back. -/
structure Device.ReplyRead (r : Rx) (d e : Device) : Prop where
  standing : e.standing = d.standing
  rx       : e.fe.rx = some r
  files    : (∀ lane, r.taker ≠ .won lane) → d.SameFiles e
  won      : ∀ lane, r.taker = .won lane → d.SameFiles (e.unreserve lane)

/-- A possible taker that gives up follows on without the record (R150). -/
theorem Device.dropQualified_read {d : Device} {r : Rx} (hr : d.fe.rx = some r) (hq : r.taker = .qualified) :
    d.ReplyRead { r with taker := .notTaker } d.dropQualified := by
  have he : d.dropQualified = ((d.onRx (fun x => { x with taker := .notTaker })).formWaiting).evaluateSince d := by
    unfold dropQualified
    simp [hr, hq]
  have hk : (d.onRx (fun x => { x with taker := .notTaker })).Kept d.dropQualified :=
    he ▸ (formWaiting_kept _).trans (evaluateSince_kept _ _)
  exact ⟨hk.standing, by rw [hk.rx]; simp [onRx, hr], fun _ => SameFiles.dropQualified d, nofun⟩

theorem Device.ReplyRead.drive {d e : Device} {r : Rx} {a : LineAct} (h : (d.drive a).ReplyRead r e) : d.ReplyRead r e :=
  ⟨h.standing, h.rx, fun hn => (SameFiles.ofSame (d := d) (e := d.drive a) rfl rfl rfl rfl rfl).trans (h.files hn),
    fun lane hl => (SameFiles.ofSame (d := d) (e := d.drive a) rfl rfl rfl rfl rfl).trans (h.won lane hl)⟩

/-- The lane that a winner reserves, given back, stands as one not reserved (R151). -/
theorem Device.SameFiles.reserve_unreserve (lane : Option (Fin 8)) (d : Device) :
    d.SameFiles ((d.reserve lane).unreserve lane) := by
  cases lane with
  | none => exact .refl d
  | some i =>
    refine ⟨rfl, rfl, rfl, rfl, rfl, fun b hb ha => ⟨b, hb, rfl, ha⟩, fun j hj => ?_, .refl⟩
    simp only [Device.reserve, Device.unreserve, Device.onLane_lane]
    split
    · rfl
    · exact hj

theorem Device.winSlots_read {d : Device} {r : Rx} (rep : OfferReply) (dish : Byte) (hr : d.fe.rx = some r) :
    ∃ lane, d.ReplyRead { r with taker := .won lane } (d.winSlots rep dish) := by
  refine ⟨(d.drive (.takerSlots (takerDriven d.strap.addr rep.taker))).laneToReserve dish, ?_⟩
  unfold winSlots
  extract_lets d1
  generalize d1.laneToReserve dish = lane
  have hk := reserve_kept lane (d1.onRx (fun x => { x with taker := .won lane }))
  refine ⟨?_, ?_, fun hn => absurd rfl (hn lane), fun lane' hl => ?_⟩
  · exact hk.standing
  · exact hk.rx.trans (by simp [onRx, d1, hr])
  · obtain rfl : lane = lane' := by simpa using hl
    exact (SameFiles.reserve_unreserve lane d).trans (.ofSame (by cases lane <;> rfl) (by cases lane <;> rfl)
      (by cases lane <;> rfl) (by cases lane <;> rfl) (by cases lane <;> rfl))

/-- The taker slots at a possible taker (R30, R31, R151). -/
theorem Device.takerSlots_read {d : Device} {r : Rx} (rep : OfferReply) (dish : Byte) (hr : d.fe.rx = some r)
    (hq : r.taker = .qualified) : ∃ taker, d.ReplyRead { r with taker := taker } (d.takerSlots rep dish) := by
  rcases takerSlots_cases rep dish d with he | he | ⟨-, -, -, -, -, ⟨-, he⟩ | ⟨-, he⟩⟩ <;> rw [he]
  · exact ⟨.qualified, rfl, by rw [hr, ← hq], fun _ => .refl d, nofun⟩
  · exact ⟨_, dropQualified_read hr hq⟩
  · exact ⟨_, (dropQualified_read (d := d.drive _) hr hq).drive⟩
  · obtain ⟨lane, hw⟩ := winSlots_read rep dish hr
    exact ⟨_, hw⟩

/-- The reply field of an OFFER at a possible taker (R24, R25, R28, R30, R31). -/
theorem Device.rxReply_qualified {d : Device} {k : Kind} {h : Heard} {rep : OfferReply} (ticket : TicketDecision)
    (hk : k = .offer) (hf : (framed k h.frame).isSome) : ∃ r,
    (d.followingAs h (d.bodyHeard k h ticket .qualified) []).ReplyRead r
      ((d.followingAs h (d.bodyHeard k h ticket .qualified) []).rxReply k h.frame h.gapFault rep) ∧
      r.startState = d.fe.station ∧ r.bad = foundBad k h rep := by
  obtain ⟨b, hb⟩ := Option.isSome_iff_exists.mp hf
  have hkind : b.kind = .offer := (framed_kind hb).trans hk
  have hbad : foundBad k h rep =
      ((((framed k h.frame).isNone || h.gapFault || crcError h.frame) || replyCheckError rep) || rep.fault) := by
    rw [foundBad, hk]
    simp [Bool.or_assoc]
  cases b with
  | offer num pass go slips dish portions cs =>
    unfold rxReply
    simp only [hb]
    generalize hx : (d.followingAs h (d.bodyHeard k h ticket .qualified) []).onRx (fun x =>
      { x with stage := .reply, bad := x.bad || h.gapFault || crcError h.frame }) = x
    obtain ⟨r, hr, hq, hs, hrb⟩ : ∃ r, x.fe.rx = some r ∧ r.taker = .qualified ∧ r.startState = d.fe.station ∧
        r.bad = ((framed k h.frame).isNone || h.gapFault || crcError h.frame) := ⟨_, by rw [← hx]; rfl, rfl, rfl, rfl⟩
    have hread : ∃ taker, x.ReplyRead { r with taker := taker }
        (if r.bad then x.dropQualified else x.takerSlots rep dish) := by
      split
      · exact ⟨_, dropQualified_read hr hq⟩
      · exact takerSlots_read rep dish hr hq
    obtain ⟨taker, hread⟩ := hread
    simp only [hr]
    generalize (if r.bad then x.dropQualified else x.takerSlots rep dish) = y at hread ⊢
    have hx0 : x.standing = (d.followingAs h (d.bodyHeard k h ticket .qualified) []).standing := by rw [← hx]; rfl
    have hf0 : (d.followingAs h (d.bodyHeard k h ticket .qualified) []).SameFiles x := by
      rw [← hx]
      exact .ofSame rfl rfl rfl rfl rfl
    have hunreserve : ∀ lane, (y.onRx fun z => { z with bad := z.bad || replyCheckError rep || rep.fault }).unreserve lane =
        (y.unreserve lane).onRx fun z => { z with bad := z.bad || replyCheckError rep || rep.fault } := fun lane => by
      cases lane <;> rfl
    refine ⟨{ r with taker := taker, bad := r.bad || replyCheckError rep || rep.fault }, ⟨?_, ?_, ?_, ?_⟩, hs, ?_⟩
    · exact hread.standing.trans hx0
    · simp [onRx, hread.rx]
    · exact fun hn => (hf0.trans (hread.files hn)).trans (.ofSame rfl rfl rfl rfl rfl)
    · intro lane hl
      rw [hunreserve]
      exact (hf0.trans (hread.won lane hl)).trans (.ofSame rfl rfl rfl rfl rfl)
    · rw [hbad, hrb]
  | _ => cases hkind

/-- A frame found bad as an ON_LINE station below 128 leaves it (R25, R32, R33, R44). -/
def Device.rejectedAs (h : Heard) (d : Device) : Device :=
  { d with
    sck := { (d.sck.advance h.elapsed).advance h.lasted with capture := none }
    lif := d.heardLine h.toFollowed
    fe := { d.fe with idleCount := 0, recCount := d.fe.recCount + 1, drove := [⟨.acceptDominant, d.lif.mode.wires⟩] } }

/-- What every bad frame leaves at an ON_LINE station below 128. -/
structure Device.RejectsAs (h : Heard) (d e : Device) : Prop where
  standing : e.standing = (d.rejectedAs h).standing
  rx       : e.fe.rx = none
  drove    : e.fe.drove.getLast? = some ⟨.acceptDominant, d.lif.mode.wires⟩
  files    : d.SameFiles e

/-- The accept slot of an OFFER at a possible taker that found it bad (R25, R32, R33, R44, R151). -/
theorem Device.ReplyRead.rxAccept {d x : Device} {k : Kind} {h : Heard} {r s : Rx}
    (hx : (d.followingAs h s []).ReplyRead r x) (hf : (framed k h.frame).isSome) (hstart : r.startState = .onLine)
    (hbad : (r.bad || h.lateFault) = true) (hs : d.fe.station = .onLine) (hm : d.lif.mode ≠ .down)
    (ht : d.fe.tecCount < 128) (hr : d.fe.recCount < 127) :
    d.RejectsAs h (x.rxAccept k h.frame h.lateFault h.accept h.agree) := by
  obtain ⟨hsck, hlif, hset, hst, htec, hrec, hidle, hfl⟩ := standing_eq_iff.mp hx.standing
  obtain ⟨b, hb⟩ := Option.isSome_iff_exists.mp hf
  have hmay : x.mayDrive r.startState = true := (mayDrive_iff _ _).mpr ⟨hstart, hst.trans hs, by rw [hlif]; exact hm⟩
  have hcount := countHeard_bad (d := (x.drive .acceptDominant).closeRx h.agree) (hst.trans hs) (htec.trans_lt ht)
    (hrec.trans_lt hr)
  have hwires : x.driven .acceptDominant = ⟨.acceptDominant, d.lif.mode.wires⟩ := by
    rw [driven, hlif]
    rfl
  have hcfg : x.cfg = d.cfg := congrArg (fun y => y.2.1) hset
  generalize hy : (((x.drive .acceptDominant).closeRx h.agree).countHeard true).onSck (fun z => { z with capture := none }) = y
  have hleft : x.rxAccept k h.frame h.lateFault h.accept h.agree =
      match r.taker with
      | .won lane => y.releaseTaker lane
      | _ => y := by
    unfold Device.rxAccept
    simp [hx.rx, hbad, hmay, hb, hy] <;> rfl
  have hyst : y.standing = (d.rejectedAs h).standing := by
    rw [← hy, hcount, standing_eq_iff]
    refine ⟨?_, ?_, hset, hst, htec, congrArg (· + 1) hrec, rfl, hfl⟩
    · exact congrArg (fun c : Sck => { c with capture := none }) hsck
    · change x.lif.frameEnds x.cfg.lock h.agree = _
      rw [hlif, hcfg]
      rfl
  have hyrx : y.fe.rx = none := by rw [← hy, hcount]; rfl
  have hydrove : y.fe.drove.getLast? = some ⟨.acceptDominant, d.lif.mode.wires⟩ := by
    rw [← hwires, ← hy, hcount]
    exact List.getLast?_concat
  have hfollow : d.SameFiles (d.followingAs h s []) := .ofSame rfl rfl rfl rfl rfl
  have hown : x.SameFiles y := by
    rw [← hy, hcount]
    exact .ofSame rfl rfl rfl rfl rfl
  have hrelease : ∀ lane, (x.unreserve lane).SameFiles (y.unreserve lane) := fun lane => by
    rw [← hy, hcount]
    cases lane <;> exact .ofSame rfl rfl rfl rfl rfl
  rw [hleft]
  split
  · next lane hl =>
    have hk := releaseTaker_kept lane y
    refine ⟨hk.standing.trans hyst, hk.rx.trans hyrx, by rw [hk.drove, hydrove], ?_⟩
    have hlane : d.SameFiles (y.unreserve lane) := (hfollow.trans (hx.won lane hl)).trans (hrelease lane)
    exact ((hlane.trans (.dispatch _)).trans (.formWaiting _)).trans (.evaluateSince _ _)
  · next hl => exact ⟨hyst, hyrx, hydrove, (hfollow.trans (hx.files hl)).trans hown⟩

/-- A possible taker's bad OFFER, from its start edge to its accept slot. -/
theorem Device.receive_badOffer {d : Device} {k : Kind} {h : Heard} {rep : OfferReply} (hh : d.hears h)
    (hu : h.upTo = .accept) (hs : d.fe.station = .onLine) (ht : d.fe.tecCount < 128) (hr : d.fe.recCount < 127)
    (hbad : (foundBad k h rep || h.lateFault) = true) : d.RejectsAs h (d.receive k h rep) := by
  obtain ⟨ticket, taker, hbody, htaker⟩ := rxBody_following k h d
  rw [receive_of_hears k rep hh hu, hbody]
  rcases htaker with rfl | ⟨rfl, hk, hf, -⟩
  · obtain ⟨drove, hreply, -⟩ := rxReply_bodyHeard k h rep ticket d
    have hmay : d.mayDrive d.fe.station = true := (mayDrive_iff _ _).mpr ⟨hs, hs, hh.2.1⟩
    have hb : (d.replyHeard k h rep ticket).bad = true ∨ h.lateFault = true ∨ h.accept = .violation := by
      rcases Bool.or_eq_true_iff.mp hbad with hb | hb
      · exact .inl hb
      · exact .inr (.inl hb)
    rw [hreply, rxAccept_bad drove hh.2.2.1 rfl hb, show (d.replyHeard k h rep ticket).bad = foundBad k h rep from rfl,
      hbad, show (d.replyHeard k h rep ticket).startState = d.fe.station from rfl, hmay, Bool.and_true, if_pos rfl,
      heardAs_counted _ hs ht hr]
    exact ⟨rfl, hh.2.2.1, List.getLast?_concat, .ofSame rfl rfl rfl rfl rfl⟩
  · obtain ⟨r, hread, hstart, hrb⟩ := rxReply_qualified (d := d) (h := h) (rep := rep) ticket hk hf
    exact hread.rxAccept hf (hstart.trans hs) (by rw [hrb, hbad]) hs hh.2.1 ht hr

/-- What counts as found bad by the end of the reply field. -/
theorem foundBad_iff (k : Kind) (h : Heard) (rep : OfferReply) : foundBad k h rep = true ↔ framed k h.frame = none ∨
    h.gapFault = true ∨ crcError h.frame = true ∨ k = .offer ∧ (replyCheckError rep = true ∨ rep.fault = true) := by
  simp [foundBad, or_assoc]

/-- The frame as its row carries it: only an OFFER's reply field counts (R30, R31). -/
theorem found_of_bad {k : Kind} {h : Heard} {rep : OfferReply} (hbad : framed k h.frame = none ∨ crcError h.frame = true ∨
    h.gapFault = true ∨ h.lateFault = true ∨ (k = .offer ∧ (replyCheckError rep = true ∨ rep.fault = true))) :
    (foundBad k h (if k = .offer then rep else noTakerReply) || h.lateFault) = true := by
  rw [Bool.or_eq_true_iff, foundBad_iff]
  rcases hbad with hb | hb | hb | hb | ⟨rfl, hb⟩
  · exact .inl (.inl hb)
  · exact .inl (.inr (.inr (.inl hb)))
  · exact .inl (.inr (.inl hb))
  · exact .inr hb
  · exact .inl (.inr (.inr (.inr ⟨rfl, hb⟩)))

theorem bad_of_found {k : Kind} {h : Heard} {rep : OfferReply} (hbad : framed k h.frame = none ∨ crcError h.frame = true ∨
    h.gapFault = true ∨ h.lateFault = true ∨ h.accept = .violation ∨
      (k = .offer ∧ (replyCheckError rep = true ∨ rep.fault = true))) :
    foundBad k h (if k = .offer then rep else noTakerReply) = true ∨ h.lateFault = true ∨ h.accept = .violation := by
  by_cases hacc : h.accept = .violation
  · exact .inr (.inr hacc)
  · have hfound := found_of_bad (k := k) (h := h) (rep := rep) (by simpa [hacc] using hbad)
    exact (Bool.or_eq_true_iff.mp hfound).imp_right .inl

/-- Below 128 an ON_LINE station rejects a bad frame; one that is no possible taker leaves only what it drove open. -/
theorem Device.receive_rejects {d : Device} {k : Kind} {h : Heard} {rep : OfferReply} (hh : d.hears h)
    (hu : h.upTo = .accept) (hs : d.fe.station = .onLine) (ht : d.fe.tecCount < 128) (hr : d.fe.recCount < 127)
    (hno : k ≠ .offer ∨ framed k h.frame = none) (hbad : (foundBad k h rep || h.lateFault) = true) :
    ∃ drove, d.receive k h rep = { d.rejectedAs h with fe := { (d.rejectedAs h).fe with
        drove := drove ++ [⟨.acceptDominant, d.lif.mode.wires⟩] } } ∧
      (drove = [] ∨ k = .ticket ∧ (framed k h.frame).isSome ∧ h.gapFault = false ∧ crcError h.frame = false) := by
  have hmay : d.mayDrive d.fe.station = true := (mayDrive_iff _ _).mpr ⟨hs, hs, hh.2.1⟩
  obtain ⟨drove, he, hd⟩ := receive_bad (rep := rep) hh hu (hno.imp_right .inl)
    ((Bool.or_eq_true_iff.mp hbad).imp_right .inl)
  refine ⟨drove, ?_, Or.imp_right (fun hd => ⟨hd.1, hd.2.2⟩) hd⟩
  rw [he, hbad, hmay, Bool.and_true, if_pos rfl, heardAs_counted _ hs ht hr]
  rfl

/-- A bad frame at REC 127 as it leaves an ON_LINE station (R40, R44, R46, R55). -/
def Device.quietedAs (h : Heard) (drove : List Drive) (d : Device) : Device :=
  { d with
    sck := { (d.sck.advance h.elapsed).advance h.lasted with capture := none, markQuiet := 0, markDue := false }
    lif := d.heardLine h.toFollowed
    fe := { d.fe with
      station := .quiet, quietCount := 0, recCount := 128, idleCount := 0, drove := drove
      txq := withdrawEntry .mark (withdrawEntry (.offer 0) d.fe.txq) }
    wu := d.wu.markPartial
    bp := d.bp.unmark d.fe.txq
    sp := d.sp.queueNotice d.sck.tick (.linkQuiet d.fe.tecCount 128 false true) }

/-- QUIET by REC alone (R40, R46, R55). -/
theorem Device.enterQuiet_full {d : Device} (ht : d.fe.tecCount < 128) (hr : d.fe.recCount = 128) :
    d.enterQuiet = { d with
      sck := { d.sck with markQuiet := 0, markDue := false }
      fe := { d.fe with
        station := .quiet
        quietCount := 0
        txq := withdrawEntry .mark (withdrawEntry (.offer 0) d.fe.txq) }
      wu := d.wu.markPartial
      bp := d.bp.unmark d.fe.txq
      sp := d.sp.queueNotice d.now (.linkQuiet d.fe.tecCount 128 false true) } := by
  have ht' : decide (128 ≤ d.fe.tecCount) = false := by simpa using ht
  rw [enterQuiet_eq, ht', hr]
  rfl

theorem Device.heardAs_filled {d : Device} {h : Heard} (drove : List Drive) (hs : d.fe.station = .onLine)
    (ht : d.fe.tecCount < 128) (hr : d.fe.recCount = 127) :
    ((d.heardAs h drove).countHeard true).onSck (fun x => { x with capture := none }) = d.quietedAs h drove := by
  rw [countHeard_full (d := d.heardAs h drove) hs hr,
    enterQuiet_full (d := (d.heardAs h drove).onFe (fun f => { f with recCount := 128 })) ht rfl]
  rfl

/-- A bad frame that is no OFFER takes REC from 127 to 128 (R44, R46). -/
theorem Device.receive_fills {d : Device} {k : Kind} {h : Heard} (hh : d.hears h) (hu : h.upTo = .accept)
    (hs : d.fe.station = .onLine) (ht : d.fe.tecCount < 128) (hr : d.fe.recCount = 127) (hk : k ≠ .offer)
    (hbad : foundBad k h noTakerReply = true ∨ h.lateFault = true ∨ h.accept = .violation) :
    ∃ drove, d.receive k h noTakerReply = d.quietedAs h drove ∧
      ((foundBad k h noTakerReply || h.lateFault) = true →
        drove.getLast? = some ⟨.acceptDominant, d.lif.mode.wires⟩) := by
  have hmay : d.mayDrive d.fe.station = true := (mayDrive_iff _ _).mpr ⟨hs, hs, hh.2.1⟩
  obtain ⟨drove, he, -⟩ := receive_bad hh hu (.inl hk) hbad
  refine ⟨_, he.trans (heardAs_filled _ hs ht hr), fun hf => ?_⟩
  rw [hf, hmay, Bool.and_true, if_pos rfl]
  exact List.getLast?_concat

/-- A bad frame at a station that counts nothing: a QUIET one marks its waves (R46, R55). -/
theorem Device.receive_uncounted {d : Device} {k : Kind} {h : Heard} {rep : OfferReply} (hh : d.hears h)
    (hu : h.upTo = .accept) (hs : d.fe.station = .quiet ∨ d.fe.station = .listen)
    (hbad : foundBad k h rep = true ∨ h.lateFault = true ∨ h.accept = .violation) :
    d.receive k h rep = { d with
      sck := { (d.sck.advance h.elapsed).advance h.lasted with capture := none }
      lif := d.heardLine h.toFollowed
      fe := { d.fe with idleCount := 0, drove := [] }
      wu := if d.fe.station = .quiet then d.wu.markPartial else d.wu } := by
  have hoff : d.fe.station ≠ .onLine := by rcases hs with hs | hs <;> simp [hs]
  obtain ⟨drove, he, hd⟩ := receive_bad hh hu (.inr (.inr hoff)) hbad
  obtain rfl : drove = [] := hd.resolve_right fun hd => hoff hd.2.1
  have hmay : d.mayDrive d.fe.station = false := by simp [mayDrive, hoff]
  rw [he, hmay, Bool.and_false, if_neg Bool.false_ne_true, List.append_nil]
  rcases hs with hs | hs
  · rw [countHeard_quiet (d := d.heardAs h []) hs, markPartial_eq, if_pos hs]
    rfl
  · rw [countHeard_listen (d := d.heardAs h []) true hs, if_neg (by simp [hs])]
    rfl

/-- A violation read in the accept slot alone is counted, with nothing driven (R32, R44). -/
theorem Device.receive_acceptViolation {d : Device} {k : Kind} {h : Heard} {rep : OfferReply} (hh : d.hears h)
    (hu : h.upTo = .accept) (hs : d.fe.station = .onLine) (ht : d.fe.tecCount < 128) (hr : d.fe.recCount < 127)
    (hgood : foundBad k h rep = false) (hlate : h.lateFault = false) (hacc : h.accept = .violation) (hk : k ≠ .offer)
    (hkt : k ≠ .ticket) :
    d.receive k h rep = { d.rejectedAs h with fe := { (d.rejectedAs h).fe with drove := [] } } := by
  obtain ⟨drove, he, hd⟩ := receive_bad (rep := rep) hh hu (.inl hk) (.inr (.inr hacc))
  obtain rfl : drove = [] := hd.resolve_right fun hd => hkt hd.1
  rw [he, hgood, hlate]
  exact heardAs_counted [] hs ht hr

end Sys2Proof.Machine

namespace Sys2Proof

open Machine Machine.Device

/-- Settles O17: the finding of a bad frame, by the station's state and REC. -/
theorem badFrameRejected : Obligations.BadFrameRejected := by
  refine ⟨fun s k h rep rejected hh hs ht hr hu hrej => ⟨fun hbad => ?_, fun hgood hcrc hgap hlate hacc hko hkt => ?_⟩,
    fun s k h rep hh ht hu hbad => ⟨fun hs hr hk => ?_, fun hs => ?_⟩⟩
  · obtain rfl : rejected = s.dev.rejectedAs h := hrej
    set rep' := if k = .offer then rep else noTakerReply with hrep
    have hfound : (foundBad k h rep' || h.lateFault) = true := found_of_bad hbad
    have hexec := exec_of_effect (s := s) (congrFun (effect_frameCommand k h rep) s.dev)
    rw [← hrep] at hexec
    obtain ⟨hst, hrx, hdrove, hfiles⟩ : s.dev.RejectsAs h (s.dev.receive k h rep') :=
      receive_badOffer hh hu hs ht hr hfound
    obtain ⟨hsck, hlif, hset, hstn, htec, hrec, hidle, hfl⟩ := standing_eq_iff.mp hst
    obtain ⟨hstrap, hcfg, hmenu, hreply⟩ := setup_eq_iff.mp hset
    have hfl : (s.dev.receive k h rep').fe.inFlight = none := by
      have hnone : s.dev.fe.inFlight = none := hh.2.2.2.1
      simpa [rejectedAs, hnone] using hfl
    have hplain := fun hno => receive_rejects (rep := rep') hh hu hs ht hr hno hfound
    refine ⟨_, hexec, rfl, hsck, hlif, hstrap, hstn.trans hs, hrx, hfl, hidle, hrec, htec, hdrove, hfiles.refs,
      hfiles.tickets, hfiles.issues, hfiles.issueQ, hfiles.handed, hfiles.adopted, hfiles.reserved, hcfg, hmenu, hreply,
      fun hk hkt => ?_, fun hk => ?_, fun hn => ?_⟩
    · obtain ⟨drove, he, hd⟩ := hplain (.inl hk)
      obtain rfl : drove = [] := hd.resolve_right fun hd => hkt hd.1
      exact he
    · obtain ⟨drove, he, -⟩ := hplain (.inl hk)
      simp only [he]
    · obtain ⟨drove, he, hd⟩ := hplain (hn.symm.imp_left And.left)
      obtain rfl : drove = [] := hd.resolve_right fun ⟨_, hf, hg, hc⟩ => by
        rcases hn with hn | ⟨-, hn | hn⟩
        · rw [hn] at hf; cases hf
        · rw [hn] at hc; cases hc
        · rw [hn] at hg; cases hg
      exact he
  · obtain rfl : rejected = s.dev.rejectedAs h := hrej
    obtain ⟨b, hb⟩ := hgood
    have hnot : foundBad k h (if k = .offer then rep else noTakerReply) = false := by
      simp [foundBad, hb, hcrc, hgap, hko]
    exact exec_of_effect ((congrFun (effect_frameCommand k h rep) s.dev).trans
      (receive_acceptViolation hh hu hs ht hr hnot hlate hacc hko hkt))
  · have heff : (frameCommand k h rep).effect s.dev = s.dev.receive k h noTakerReply := by
      rw [effect_frameCommand, if_neg hk]
    obtain ⟨drove, he, hdrove⟩ := receive_fills hh hu hs (ht hs) hr hk (by simpa [hk] using bad_of_found hbad)
    refine ⟨_, exec_of_effect (heff.trans he), rfl, rfl, rfl, rfl, rfl, hh.2.2.1, rfl, rfl, rfl, fun hf => hdrove ?_,
      withdrawEntry_quiet _, rfl, rfl, rfl, rfl, rfl, rfl, rfl⟩
    rcases hf with hf | hf | hf | hf <;> simp [foundBad, hf]
  · exact exec_of_effect ((congrFun (effect_frameCommand k h rep) s.dev).trans
      (receive_uncounted hh hu hs (bad_of_found hbad)))

end Sys2Proof
end

section
/-! A TICKET frame turned away (O23). -/

namespace Sys2Proof.Machine

open Device

/-! ### A TICKET found good, by the decision at its body's end -/

/-- What the station drives in the reply field of a TICKET it found good (R28, R29). -/
def Device.shortDriven (t : TicketDecision) (d : Device) : List Drive :=
  match t with
  | .cannotHold _ => if d.mayDrive d.fe.station then [d.driven .shortSlot] else []
  | _ => []

/-- What an accepted frame leaves before the blocks of its kind take it, with what the station drove in it. -/
theorem Device.heardAs_taken {d : Device} {h : Heard} (drove : List Drive)
    (hfirst : ¬(d.fe.station = .listen ∧ d.sck.firstStep = true))
    (hlow : d.fe.station = .onLine → d.fe.tecCount < 128 ∧ d.fe.recCount < 128) :
    (((d.heardAs h drove).countHeard false).takeTime h.frame).onSck (fun k => { k with capture := none }) =
      { d.heardFrame h with fe := { (d.heardFrame h).fe with drove := drove } } := by
  have hcount : (d.heardAs h drove).countHeard false = _ := countHeard_good (d := d.heardAs h drove) hlow
  have htake : ((d.heardAs h drove).countHeard false).takeTime h.frame =
      ((d.heardAs h drove).countHeard false).onSck (Sck.sample d.fe.station h.frame.sender h.frame.stamp) := by
    rw [hcount, takeTime, if_neg]
    · rfl
    · simpa [onFe, heardAs] using hfirst
  rw [htake, hcount]
  rfl

/-- The accept slot of a frame that a station taking part found good, and that was accepted (R20, R33). -/
theorem Device.rxAccept_good {d : Device} {k : Kind} {h : Heard} {rep : OfferReply} {b : Body} {r : Rx}
    (drove : List Drive) (hx : d.fe.rx = none) (hg : heardGood h k rep b)
    (hlow : d.fe.station = .onLine → d.fe.tecCount < 128 ∧ d.fe.recCount < 128)
    (happ : d.fe.station.applies = true) (hbad : r.bad = false) (hstart : r.startState = d.fe.station) :
    (d.followingAs h r drove).rxAccept k h.frame h.lateFault h.accept h.agree =
      Device.deliver h.frame r b { d.heardFrame h with fe := { (d.heardFrame h).fe with drove := drove } } := by
  have hnl : ¬(d.fe.station = .listen ∧ d.sck.firstStep = true) := by
    rintro ⟨hs, -⟩
    rw [hs] at happ
    cases happ
  obtain ⟨-, hf, -, -, hlate, hacc, -⟩ := hg
  have hclose : (d.followingAs h r drove).closeRx h.agree = d.heardAs h drove := by
    simp [closeRx, followingAs, heardAs, frameHeard, onFe, onLif, heardLine, cfg, hx]
  rw [← heardAs_taken drove hnl hlow]
  unfold rxAccept
  rw [show (d.followingAs h r drove).fe.rx = some r from rfl]
  dsimp only
  rw [hbad, hlate, hacc, hf, hstart, happ, Bool.or_false, Bool.false_and, if_neg Bool.false_ne_true, hclose]
  rfl

/-- The end of the Body field of a TICKET (R28, R72). -/
theorem Device.rxBody_ticket {d : Device} {h : Heard} {num : Byte} {serial : Serial} {call : Tick} {lead : BitVec 16}
    {gp : Bool} {go : Tick} {items : List Order} (hf : framed .ticket h.frame = some (.ticket num serial call lead gp go items))
    (ha : d.fe.station.applies = true) : (d.following .ticket h .start).rxBody .ticket h.frame =
      d.followingAs h (d.bodyHeard .ticket h (d.decideTicket h.frame.sender num serial call items) .notTaker) [] := by
  have hd : (d.following .ticket h .start).decideTicket h.frame.sender num serial call items =
      d.decideTicket h.frame.sender num serial call items := rfl
  unfold rxBody bodyHeard
  rw [hf, ← hd]
  simp [following, followingAs, onRx, onFe, atBodyEnd, follower, ha]

/-- The reply field of a TICKET found good: SHORT where it cannot be held (R28, R29). -/
theorem Device.rxReply_ticket {d : Device} {h : Heard} {num : Byte} {serial : Serial} {call : Tick} {lead : BitVec 16}
    {gp : Bool} {go : Tick} {items : List Order} (t : TicketDecision)
    (hg : heardGood h .ticket noTakerReply (.ticket num serial call lead gp go items)) :
    (d.followingAs h (d.bodyHeard .ticket h t .notTaker) []).rxReply .ticket h.frame h.gapFault noTakerReply =
      d.followingAs h (d.replyHeard .ticket h noTakerReply t) (d.shortDriven t) := by
  obtain ⟨-, hf, hcrc, hgap, -, -, -⟩ := hg
  have hd : (d.followingAs h (d.bodyHeard .ticket h t .notTaker) []).onRx (fun x =>
      { x with stage := .reply, bad := x.bad || h.gapFault || crcError h.frame }) =
      d.followingAs h (d.replyHeard .ticket h noTakerReply t) [] := by
    simp [onRx, onFe, followingAs, bodyHeard, replyHeard, foundBad, hf, hgap, hcrc]
  have hbad : (d.replyHeard .ticket h noTakerReply t).bad = false := by
    simp [replyHeard, foundBad, hf, hgap, hcrc]
  unfold rxReply
  simp only [hd, hf]
  generalize hr : d.replyHeard .ticket h noTakerReply t = r at *
  change (d.followingAs h r []).driveShort r = _
  have hs : r.startState = d.fe.station := by rw [← hr]; rfl
  have ht : r.ticket = t := by rw [← hr]; rfl
  have hmay : (d.followingAs h r []).mayDrive r.startState = d.mayDrive d.fe.station := by rw [hs]; rfl
  unfold driveShort shortDriven
  rw [hmay, hbad, ht]
  cases t with
  | cannotHold c => cases d.mayDrive d.fe.station <;> rfl
  | _ => rfl

/-- A TICKET that a station taking part finds good, and that is accepted (R28, R29, R33, R72). -/
theorem Device.receive_ticket {d : Device} {h : Heard} {num : Byte} {serial : Serial} {call : Tick} {lead : BitVec 16}
    {gp : Bool} {go : Tick} {items : List Order} {t : TicketDecision} (hh : d.hears h)
    (ha : d.fe.station = .onLine ∨ d.fe.station = .quiet)
    (hlow : d.fe.station = .onLine → d.fe.tecCount < 128 ∧ d.fe.recCount < 128)
    (hg : heardGood h .ticket noTakerReply (.ticket num serial call lead gp go items))
    (ht : d.decideTicket h.frame.sender num serial call items = t) : d.receive .ticket h noTakerReply =
      Device.deliver h.frame (d.replyHeard .ticket h noTakerReply t) (.ticket num serial call lead gp go items)
        { d.heardFrame h with fe := { (d.heardFrame h).fe with drove := d.shortDriven t } } := by
  have happ : d.fe.station.applies = true := by rcases ha with ha | ha <;> rw [ha] <;> rfl
  have hbad : (d.replyHeard .ticket h noTakerReply t).bad = false := by
    obtain ⟨-, hf, hcrc, hgap, -, -, -⟩ := hg
    simp [replyHeard, foundBad, hf, hgap, hcrc]
  rw [receive_of_hears .ticket noTakerReply hh hg.1, rxBody_ticket hg.2.1 happ, ht, rxReply_ticket t hg]
  exact rxAccept_good _ hh.2.2.1 hg hlow happ hbad rfl

/-! ### The decision (R72, R73) -/

theorem Device.decideTicket_disregard {d : Device} {sender : Addr} {num : Byte} {serial : Serial} {call : Tick}
    {items : List Order} (h : d.ownTicket serial items = false ∨ ∃ x ∈ d.ti.tickets, x.pass = sender ∧ x.serial = serial) :
    d.decideTicket sender num serial call items = .disregard := by
  unfold decideTicket
  rcases h with h | h
  · simp [h]
  · simp [h]

theorem Device.ownTicket_iff (d : Device) (serial : Serial) (items : List Order) : d.ownTicket serial items = true ↔
    d.strap.cls ≠ 0 ∧ serial.toNat % d.sp.config.shareCount = d.sp.config.shareIndex ∧ d.keptItems items ≠ [] := by
  simp [ownTicket, isPass_iff, ← Bool.not_eq_true, cfg, and_assoc]

/-- A ticket to be taken that names the record of its call time: turned away where that record is AWAY (R73). -/
theorem Device.decideTicket_named {d : Device} {sender : Addr} {num : Byte} {serial : Serial} {call : Tick}
    {items : List Order} {w : Wave} (ho : d.ownTicket serial items = true)
    (hnew : ∀ x ∈ d.ti.tickets, ¬(x.pass = sender ∧ x.serial = serial)) (hw : d.named? sender num = some w)
    (hc : w.call = some call) : d.decideTicket sender num serial call items = if w.state = .away then .away else
      match pickCause (d.now.toNat * 65536 + serial.toNat) (d.shortCauses (some w) call (d.keptItems items)) with
      | some c => .cannotHold c
      | none => .hold := by
  have hno : d.ti.tickets.any (fun t => t.pass == sender && t.serial == serial) = false := by
    simpa using hnew
  unfold decideTicket
  rw [ho, hno, hw]
  by_cases ha : w.state = .away <;> simp [ha, hc] <;> rfl

/-- Filing a ticket in a record with room for its dishes can lack only a place in the index (R73). -/
theorem Device.shortCauses_file {d : Device} {w : Wave} {call : Tick} {kept : List Order} (hc : w.call = some call)
    (hroom : w.lines.length + kept.length ≤ 16) (hfull : 256 ≤ d.ti.tickets.length) :
    d.shortCauses (some w) call kept = [.ticketIndex] := by
  have hdishes : (newDishes w kept).length ≤ kept.length := calc
    (newDishes w kept).length ≤ ((kept.map (·.dish)).filter (fun c => !w.lines.any (fun l => l.dish == c))).length :=
      (List.dedup_sublist _).length_le
    _ ≤ kept.length := (List.length_filter_le _ _).trans (by simp)
  have huse : waveUse call (some w) = .file := by simp [waveUse, hc]
  have hlines : ¬Config.dishLineCapacity < w.lines.length + (newDishes w kept).length := by
    change ¬16 < _
    omega
  simp [shortCauses, huse, Config.ticketCapacity, hfull, hlines]

end Sys2Proof.Machine

namespace Sys2Proof

open Machine Machine.Device

/-- Settles O23: the three decisions that hold nothing. -/
theorem ticketTurnedAway : Obligations.TicketTurnedAway := by
  intro s h num serial call lead gp go items kept hh ha hlow hg hkept
  have hkept : kept = s.dev.keptItems items := hkept
  subst hkept
  have hexec : ∀ t, s.dev.decideTicket h.frame.sender num serial call items = t →
      exec (.ticketFrame h) s = .next { s with dev := (Device.deliver h.frame
        (s.dev.replyHeard .ticket h noTakerReply t) (.ticket num serial call lead gp go items)
        { s.dev.heardFrame h with fe := { (s.dev.heardFrame h).fe with drove := s.dev.shortDriven t } }) } := fun t ht =>
    exec_of_effect (receive_ticket hh ha hlow hg ht)
  have hquiet : (s.dev.fe.station != .onLine) = (s.dev.fe.station == .quiet) := by
    rcases ha with ha | ha <;> rw [ha] <;> rfl
  refine ⟨fun hno => hexec .disregard (decideTicket_disregard ?_), fun w hcls hshare hne hnew hw hcall => ?_⟩
  · refine or_iff_not_imp_left.mpr fun hown => ?_
    obtain ⟨hcls, hshare, hne⟩ := (ownTicket_iff _ _ _).mp (Bool.eq_true_of_not_eq_false hown)
    tauto
  · have hd := decideTicket_named ((ownTicket_iff _ _ _).mpr ⟨hcls, hshare, hne⟩) hnew hw hcall
    refine ⟨fun haway => ?_, fun haway hroom hfull => ?_⟩
    · rw [if_pos haway] at hd
      rw [hexec .away hd, ← hquiet]
      rfl
    · rw [if_neg haway, shortCauses_file hcall hroom hfull] at hd
      rw [hexec (.cannotHold .ticketIndex) hd, ← hquiet]
      have hdrove : s.dev.shortDriven (.cannotHold .ticketIndex) =
          if s.dev.fe.station = .onLine then [⟨.shortSlot, s.dev.lif.mode.wires⟩] else [] := by
        have hmay : s.dev.mayDrive s.dev.fe.station = true ↔ s.dev.fe.station = .onLine := by
          simp [mayDrive_iff, hh.2.1]
        simp only [shortDriven, hmay]
        rfl
      rw [hdrove]
      rfl

end Sys2Proof
end

section
/-! The fates of issue frames (O30). -/

namespace Sys2Proof.Machine

open Device

/-! ### The FE's part of a fate with both error counts below 128 -/

/-- The frame in flight ended, with what its sender drove in its accept slot (R32, R42, R43). -/
def Device.endedAs (fate : Fate) (line : Followed) (drove : List Drive) (d : Device) : Device :=
  { d.endedFrame fate line with fe := { (d.endedFrame fate line).fe with drove := drove } }

/-- Before it reports, a fate row records what the sender drives and what passes on the wires (R32, R42, R48). -/
def Device.ending (line : Followed) (drove : List Drive) (d : Device) : Device :=
  { d with lif := d.lif.hear line.toSilences, fe := { d.fe with drove := drove } }

theorem Device.endOwnFrame_ending {d : Device} (fate : Fate) (line : Followed) (drove : List Drive)
    (hbelow : d.fe.station = .onLine → tecAfter fate false d.fe.tecCount < 128 ∧ d.fe.recCount < 128) :
    (d.ending line drove).endOwnFrame fate false line.agree = d.endedAs fate line drove := by
  unfold endOwnFrame
  cases fate with
  | accepted => exact quietIfDue_of_below hbelow
  | rejected => exact quietIfDue_of_below hbelow
  | brokenOff => exact quietIfDue_of_below hbelow

/-- A fate row reports the fate as the sender itself decides it; one that drives its accept slot dominant has a reason of its
own (R32, R42). -/
theorem Device.fateOf_eq {d : Device} {f : InFlight} (fate : Fate) (rep : OfferReply) (short : SlotReading)
    (line : Followed) (hf : d.fe.inFlight = some f) (hs : d.fe.station ≠ .standby) : ∃ drove,
    d.fateOf f.frame.body.kind fate rep short line =
      (d.ending line drove).reportFate f (f.settles (f.refuses rep short) fate) false (short == .zero) rep.taker
        line.agree ∧
      (f.gapError = false → f.refuses rep short = false → drove = []) := by
  have hhear : ∀ drove, Device.hear line.toSilences { d with fe := { d.fe with drove := drove } } = d.ending line drove :=
    fun drove => by simp [hear, hs, ending, onLif]
  by_cases hd : ((f.gapError || (f.refuses rep short && fate != .brokenOff)) && d.mayDrive .onLine) = true
  · refine ⟨[d.driven .acceptDominant], ?_, fun hg hr => ?_⟩
    · unfold fateOf
      simp only [hf, BEq.rfl, if_true, hd]
      rw [← hhear]
      rfl
    · simp [hg, hr] at hd
  · refine ⟨[], ?_, fun _ _ => rfl⟩
    unfold fateOf
    simp only [hf, BEq.rfl, if_true, hd]
    rw [← hhear]
    rfl

/-- A fate row while both error counts stay below 128. -/
theorem Device.fateOf_below {d : Device} {f : InFlight} {final : Fate} (fate : Fate) (rep : OfferReply)
    (short : SlotReading) (line : Followed) (hf : d.fe.inFlight = some f) (hs : d.fe.station = .onLine)
    (hfinal : f.settles (f.refuses rep short) fate = final)
    (ht : tecAfter final false d.fe.tecCount < 128) (hr : d.fe.recCount < 128) : ∃ drove,
    d.fateOf f.frame.body.kind fate rep short line = ((d.endedAs final line drove).placerFate f final false
      (short == .zero) rep.taker).takeDeferred f.deferred ∧
      (f.gapError = false → f.refuses rep short = false → drove = []) := by
  obtain ⟨drove, he, hdrove⟩ := fateOf_eq fate rep short line hf (by simp [hs])
  refine ⟨drove, ?_, hdrove⟩
  rw [he, hfinal, reportFate, endOwnFrame_ending final line drove fun _ => ⟨ht, hr⟩]

/-! ### The issue queue -/

/-- The head of the issue queue placed changes the transmit queue alone, and with no issue frame in flight a head waits
there (R160). -/
theorem Device.placeHead_eq (d : Device) : ∃ q, d.placeHead = { d with fe := { d.fe with txq := q } } ∧
    (d.fe.inFlight = none → d.iu.queue ≠ [] → .issue ∈ q) := by
  unfold placeHead
  split
  · exact ⟨placeEntry .issue d.fe.txq, rfl, fun _ _ => by simp [placeEntry]⟩
  · next hno =>
    refine ⟨d.fe.txq, rfl, fun hf hq => ?_⟩
    have hw : d.waiting .issue = true := by
      simpa [flying, hf, hq] using hno
    obtain ⟨x, hx, hk⟩ := List.any_eq_true.mp hw
    cases x with
    | issue => exact hx
    | _ => cases hk

theorem Device.issueFate_orphan {d : Device} {e : IssueEntry} {rest : List IssueEntry} {b : Body} (fate : Fate)
    (byDown short : Bool) (hq : d.iu.queue = e :: rest) (ho : e.orphan = some b) :
    d.issueFate fate byDown short = d.dropHead.placeHead := by
  unfold issueFate
  simp [hq, ho]

theorem Device.issueFate_accepted {d : Device} {e : IssueEntry} {rest : List IssueEntry} (byDown short : Bool)
    (hq : d.iu.queue = e :: rest) (ho : e.orphan = none) :
    d.issueFate .accepted byDown short = (d.issueAccepted e short).placeHead := by
  unfold issueFate
  simp [hq, ho]

/-- A failure of the head below its eighth (R163). -/
theorem Device.issueFate_again {d : Device} {e : IssueEntry} {rest : List IssueEntry} {fate : Fate} (short : Bool)
    (hq : d.iu.queue = e :: rest) (ho : e.orphan = none) (hf : fate ≠ .accepted) (hn : e.fails < 7) :
    d.issueFate fate false short =
      (d.onIu (fun u => { u with queue := { e with fails := e.fails + 1 } :: u.queue.tail })).placeHead := by
  unfold issueFate
  cases fate with
  | accepted => exact absurd rfl hf
  | rejected => simp [hq, ho, show ¬8 ≤ e.fails + 1 by omega]
  | brokenOff => simp [hq, ho, show ¬8 ≤ e.fails + 1 by omega]

/-- The eighth failure of the head (R163). -/
theorem Device.issueFate_last {d : Device} {e : IssueEntry} {rest : List IssueEntry} {fate : Fate} (short : Bool)
    (hq : d.iu.queue = e :: rest) (ho : e.orphan = none) (hf : fate ≠ .accepted) (hn : 7 ≤ e.fails) :
    d.issueFate fate false short = (d.issueFails e).placeHead := by
  unfold issueFate
  cases fate with
  | accepted => exact absurd rfl hf
  | rejected => simp [hq, ho, show 8 ≤ e.fails + 1 by omega]
  | brokenOff => simp [hq, ho, show 8 ≤ e.fails + 1 by omega]

/-! ### What every fate of an issue frame leaves -/

/-- What the fate of an issue frame leaves alone, and the head placed again. -/
structure Device.IssueEnd (d t : Device) : Prop where
  lu      : t.lu = d.lu
  strap   : t.strap = d.strap
  tick    : t.sck.tick = d.sck.tick
  batches : t.bp.batches = d.bp.batches
  tickets : t.ti.tickets.Sublist d.ti.tickets
  issue   : t.iu.queue ≠ [] → .issue ∈ t.fe.txq

theorem Device.IssueEnd.placeHead {d x : Device} (hlu : x.lu = d.lu) (hstrap : x.strap = d.strap)
    (htick : x.sck.tick = d.sck.tick) (hb : x.bp.batches = d.bp.batches) (ht : x.ti.tickets.Sublist d.ti.tickets)
    (hf : x.fe.inFlight = none) : d.IssueEnd x.placeHead := by
  obtain ⟨q, he, hissue⟩ := placeHead_eq x
  rw [he]
  exact ⟨hlu, hstrap, htick, hb, ht, hissue hf⟩

@[simp] theorem Device.placeHead_wu (d : Device) : d.placeHead.wu = d.wu := by
  obtain ⟨q, he, -⟩ := placeHead_eq d
  rw [he]

@[simp] theorem Device.placeHead_ti (d : Device) : d.placeHead.ti = d.ti := by
  obtain ⟨q, he, -⟩ := placeHead_eq d
  rw [he]

@[simp] theorem Device.placeHead_iu (d : Device) : d.placeHead.iu = d.iu := by
  obtain ⟨q, he, -⟩ := placeHead_eq d
  rw [he]

@[simp] theorem Device.placeHead_sp (d : Device) : d.placeHead.sp = d.sp := by
  obtain ⟨q, he, -⟩ := placeHead_eq d
  rw [he]

/-! ### The head accepted, and its eighth failure (R163 to R165) -/

theorem Device.issueAccepted_ticket {e : IssueEntry} (short : Bool) (d : Device) (hk : e.kind = .ticket) :
    d.issueAccepted e short = { d with
      ti := { d.ti with issues := d.ti.issues.map (fun r =>
        if r.serial = e.serial then { r with issued := true, short := r.short || short } else r) }
      sp := if short then d.sp.queueNotice d.now (.ticketShort d.strap.addr e.serial e.num .shortRead false) else d.sp
      iu := { d.iu with queue := d.iu.queue.tail } } := by
  unfold issueAccepted
  rw [hk]
  cases short <;> simp [onIssue, onTi, notify, onSp, dropHead, onIu, now]

theorem Device.issueAccepted_void {e : IssueEntry} (short : Bool) (d : Device) (hk : e.kind = .void) :
    d.issueAccepted e short = { d with
      ti := { d.ti with issues := d.ti.issues.filter (fun r => r.serial ≠ e.serial) }
      iu := { d.iu with queue := d.iu.queue.tail } } := by
  unfold issueAccepted
  rw [hk]
  simp [dropIssue, onTi, dropHead, onIu, bne, decide_not]
  rfl

theorem Device.issueAccepted_pickup {e : IssueEntry} {w : Wave} (short : Bool) (d : Device) (hk : e.kind = .pickup)
    (hw : d.passWave? e.num = some w) : d.issueAccepted e short = (d.retire w.ref).dropHead := by
  simp [issueAccepted, hk, hw]

theorem Device.issueAccepted_lostPickup {e : IssueEntry} (short : Bool) (d : Device) (hk : e.kind = .pickup)
    (hw : d.passWave? e.num = none) : d.issueAccepted e short = d.dropHead := by
  simp [issueAccepted, hk, hw]

theorem Device.issueFails_ticket {e : IssueEntry} (d : Device) (hk : e.kind = .ticket) : d.issueFails e = { d with
    ti := { d.ti with issues := d.ti.issues.filter (fun r => r.serial ≠ e.serial) }
    sp := d.sp.queueNotice d.now (.issueFailed e.kind e.num (if e.kind = .pickup then 0 else e.serial))
    iu := { d.iu with queue := d.iu.queue.tail.filter (fun x => ¬(x.kind = .void ∧ x.serial = e.serial)) } } := by
  unfold issueFails
  simp [hk, dropIssue, onTi, dropHead, onIu, notify, onSp, bne, decide_not, now]
  exact ⟨rfl, rfl⟩

theorem Device.issueFails_void {e : IssueEntry} (d : Device) (hk : e.kind = .void) : d.issueFails e = { d with
    ti := { d.ti with issues := d.ti.issues.map (fun r =>
      if r.serial = e.serial then { r with voidPending := false } else r) }
    sp := d.sp.queueNotice d.now (.issueFailed e.kind e.num (if e.kind = .pickup then 0 else e.serial))
    iu := { d.iu with queue := d.iu.queue.tail } } := by
  unfold issueFails
  simp [hk, onIssue, onTi, dropHead, onIu, notify, onSp, now]

theorem Device.issueFails_pickup {e : IssueEntry} (d : Device) (hk : e.kind = .pickup) : d.issueFails e = { d with
    wu := match d.passWave? e.num with
      | some w => { d.wu with waves := d.wu.waves.map (fun x => if x.ref = w.ref then { x with pickupPending := false } else x) }
      | none => d.wu
    sp := d.sp.queueNotice d.now (.issueFailed e.kind e.num (if e.kind = .pickup then 0 else e.serial))
    iu := { d.iu with queue := d.iu.queue.tail } } := by
  have hp : d.dropHead.passWave? e.num = d.passWave? e.num := rfl
  unfold issueFails
  rw [hk]
  dsimp only
  rw [hp]
  cases d.passWave? e.num <;> simp [onWave, onWu, dropHead, onIu, notify, onSp, now]

/-- The notice of the eighth failure (R163). -/
theorem Device.issueFails_sp (e : IssueEntry) (d : Device) : (d.issueFails e).sp =
    d.sp.queueNotice d.now (.issueFailed e.kind e.num (if e.kind = .pickup then 0 else e.serial)) := by
  cases hk : e.kind with
  | ticket => rw [issueFails_ticket d hk, hk]
  | void => rw [issueFails_void d hk, hk]
  | pickup => rw [issueFails_pickup d hk, hk]

/-- The failures of a pending issue frame and its acceptance leave the lanes, the batches and the strap alone. -/
theorem Device.issueAccepted_end {d : Device} (e : IssueEntry) (short : Bool) (hf : d.fe.inFlight = none) :
    d.IssueEnd (d.issueAccepted e short).placeHead := by
  cases hk : e.kind with
  | ticket =>
    rw [issueAccepted_ticket short d hk]
    exact .placeHead rfl rfl rfl rfl (.refl _) hf
  | void =>
    rw [issueAccepted_void short d hk]
    exact .placeHead rfl rfl rfl rfl (.refl _) hf
  | pickup =>
    cases hw : d.passWave? e.num with
    | some w =>
      rw [issueAccepted_pickup short d hk hw]
      exact .placeHead rfl rfl rfl rfl List.filter_sublist hf
    | none =>
      rw [issueAccepted_lostPickup short d hk hw]
      exact .placeHead rfl rfl rfl rfl (.refl _) hf

theorem Device.issueFails_end {d : Device} (e : IssueEntry) (hf : d.fe.inFlight = none) :
    d.IssueEnd (d.issueFails e).placeHead := by
  cases hk : e.kind with
  | ticket =>
    rw [issueFails_ticket d hk]
    exact .placeHead rfl rfl rfl rfl (.refl _) hf
  | void =>
    rw [issueFails_void d hk]
    exact .placeHead rfl rfl rfl rfl (.refl _) hf
  | pickup =>
    rw [issueFails_pickup d hk]
    exact .placeHead rfl rfl rfl rfl (.refl _) hf

theorem Device.issueFate_end {d : Device} {e : IssueEntry} {rest : List IssueEntry} (fate : Fate) (short : Bool)
    (hq : d.iu.queue = e :: rest) (ho : e.orphan = none) (hf : d.fe.inFlight = none) :
    d.IssueEnd (d.issueFate fate false short) := by
  by_cases ha : fate = .accepted
  · rw [ha, issueFate_accepted false short hq ho]
    exact issueAccepted_end e short hf
  · by_cases hn : e.fails < 7
    · rw [issueFate_again short hq ho ha hn]
      exact .placeHead rfl rfl rfl rfl (.refl _) hf
    · rw [issueFate_last short hq ho ha (Nat.not_lt.mp hn)]
      exact issueFails_end e hf

/-! ### O30 -/

/-- An issue frame of the kind at the head, and its fate, while TEC has room for one more failure. -/
theorem Device.issueRow {d : Device} {f : InFlight} {e : IssueEntry} (fate : Fate) (rep : OfferReply) (short : Slot)
    (line : Followed) (hf : d.fe.inFlight = some f) (hentry : f.entry = .issue) (hk : f.frame.body.kind = e.kind.kind)
    (hdef : f.deferred = none) (hs : d.fe.station = .onLine) (ht : d.fe.tecCount < 120) (hr : d.fe.recCount < 128) :
    ∃ final drove, (fateCommand e.kind.kind fate rep short line).effect d =
      (d.endedAs final line drove).issueFate final false
        ((if e.kind = .ticket then short.read .shared else .one) == .zero) ∧
      (f.gapError = false → final =
        if fate = .accepted ∧ e.kind = .ticket ∧ short.read .shared = .violation then .rejected else fate) := by
  have hticket : (if e.kind.kind = .ticket then short.read .shared else .one) =
      if e.kind = .ticket then short.read .shared else .one := by cases e.kind <;> rfl
  generalize hfinal : f.settles (f.refuses (if e.kind.kind = .offer then rep else noTakerReply)
    (if e.kind = .ticket then short.read .shared else .one)) fate = final
  have htec : tecAfter final false d.fe.tecCount < 128 := by
    cases final <;> simp [tecAfter] <;> omega
  obtain ⟨drove, he, -⟩ := fateOf_below fate _ _ line hf hs hfinal htec hr
  refine ⟨final, drove, ?_, fun hg => ?_⟩
  · rw [hk] at he
    rw [effect_fateCommand, hticket, he, hdef]
    unfold placerFate
    rw [hentry]
    rfl
  · rw [← hfinal, InFlight.settles_eq, hg, if_neg Bool.false_ne_true]
    have href := InFlight.refuses_iff f (if e.kind.kind = .offer then rep else noTakerReply)
      (if e.kind = .ticket then short.read .shared else .one)
    simp only [href, hk]
    cases e.kind <;> simp [IssueKind.kind]

end Sys2Proof.Machine

namespace Sys2Proof

open Machine Machine.Device

/-- Settles O30: the fate as the head's kind and failures decide it. -/
theorem issueFates : Obligations.IssueFates := by
  refine ⟨fun s f e rest fate final rep short line hf hentry hk hdef hg hfinal hs ht hr hq ho => ?_,
    fun s f e rest b fate rep short line hf hentry hk hdef hs ht hr hq ho => ?_⟩
  · obtain ⟨final', drove, heff, hsettle⟩ := issueRow fate rep short line hf hentry hk hdef hs ht hr
    obtain rfl : final = final' := hfinal.trans (hsettle hg).symm
    set E := s.dev.endedAs final line drove with hE
    have hqE : E.iu.queue = e :: rest := hq
    obtain ⟨hlu, hstrap, htick, hb, htk, hissue⟩ := issueFate_end final
      ((if e.kind = .ticket then short.read .shared else .one) == .zero) hqE ho rfl
    refine ⟨_, exec_of_effect heff, rfl, hlu, hstrap, htick, hb, htk, hissue, fun ha hkind => ?_, fun ha hkind => ?_,
      fun ha hkind => ?_, fun ha hn => ?_, fun ha hn => ?_⟩
    · rw [ha, issueFate_accepted false _ hqE ho, issueAccepted_ticket _ E hkind, if_pos hkind]
      simp only [placeHead_iu, placeHead_wu, placeHead_ti, placeHead_sp, hqE, List.tail_cons]
      exact ⟨trivial, rfl, rfl, by by_cases hz : short.read .shared = .zero <;> simp [hz] <;> rfl⟩
    · rw [ha, issueFate_accepted false _ hqE ho, issueAccepted_void _ E hkind]
      simp only [placeHead_iu, placeHead_wu, placeHead_ti, placeHead_sp, hqE, List.tail_cons]
      exact ⟨trivial, rfl, rfl, rfl⟩
    · rw [ha, issueFate_accepted false _ hqE ho]
      cases hw : E.passWave? e.num with
      | none =>
        rw [issueAccepted_lostPickup _ E hkind hw]
        simp only [placeHead_iu, placeHead_wu, placeHead_ti, placeHead_sp]
        exact ⟨congrArg List.tail hqE, rfl, fun w hn => absurd (hw.symm.trans hn) nofun⟩
      | some v =>
        rw [issueAccepted_pickup _ E hkind hw]
        simp only [placeHead_iu, placeHead_wu, placeHead_ti, placeHead_sp]
        refine ⟨congrArg List.tail hqE, rfl, fun w hn => ?_⟩
        obtain rfl : v = w := Option.some.inj (hw.symm.trans hn)
        exact ⟨List.filter_congr fun _ _ => by simp [bne, beq_eq_decide],
          List.filter_congr fun _ _ => by simp [bne, beq_eq_decide]⟩
    · rw [issueFate_again _ hqE ho ha hn]
      simp only [placeHead_iu, placeHead_wu, placeHead_ti, placeHead_sp]
      exact ⟨by simp [onIu, hqE], rfl, rfl, rfl⟩
    · rw [issueFate_last _ hqE ho ha hn.ge]
      refine ⟨?_, fun hkind => ?_, fun hkind => ?_, fun hkind => ?_⟩
      · rw [placeHead_sp, issueFails_sp]
        rfl
      · rw [issueFails_ticket E hkind]
        simp only [placeHead_iu, placeHead_wu, placeHead_ti, hqE, List.tail_cons]
        exact ⟨rfl, trivial, rfl⟩
      · rw [issueFails_void E hkind]
        simp only [placeHead_iu, placeHead_wu, placeHead_ti, hqE, List.tail_cons]
        exact ⟨rfl, trivial, rfl⟩
      · rw [issueFails_pickup E hkind]
        simp only [placeHead_iu, placeHead_wu, placeHead_ti, hqE, List.tail_cons]
        refine ⟨trivial, rfl, fun w hn => ?_⟩
        rw [show E.passWave? e.num = some w from hn]
        rfl
  · obtain ⟨final, drove, heff, -⟩ := issueRow fate rep short line hf hentry hk hdef hs ht hr
    have hqE : (s.dev.endedAs final line drove).iu.queue = e :: rest := hq
    rw [issueFate_orphan final false _ hqE ho] at heff
    obtain ⟨q, he, hissue⟩ := placeHead_eq (s.dev.endedAs final line drove).dropHead
    have hrest : (s.dev.endedAs final line drove).dropHead.iu.queue = rest := congrArg List.tail hqE
    exact ⟨_, exec_of_effect (heff.trans he), rfl, hrest, rfl, rfl, rfl, rfl, rfl,
      fun hne => hissue rfl (hrest.symm ▸ hne)⟩

end Sys2Proof
end

section
/-! The fates of an own OFFER (O29). -/

namespace Sys2Proof.Machine

open Device

/-! ### What the evaluation leaves of the batches -/

/-- No OFFER is placed for a batch that is adopted, or that was offered at this instant (R146). -/
def Batch.barred (now : Tick) (b : Batch) : Prop := b.lastOffer = some now ∨ b.adopted = true

/-- From `d` to `e` the lanes, the tickets, the issue records, the handed records and the fire queue stand, and each batch
but for its late and offer-pending markers; one barred from an OFFER is not marked pending (R146). -/
structure Device.Graded (d e : Device) : Prop where
  lu      : e.lu = d.lu
  ti      : e.ti = d.ti
  iu      : e.iu = d.iu
  handed  : e.bp.handed = d.bp.handed
  fireQ   : e.bp.fireQ = d.bp.fireQ
  counter : e.bp.counter = d.bp.counter
  tick    : e.sck.tick = d.sck.tick
  bids    : e.bp.batches.map (·.bid) = d.bp.batches.map (·.bid)
  batches : ∀ x ∈ e.bp.batches, ∃ y ∈ d.bp.batches, x = { y with late := x.late, offerPending := x.offerPending }
  pending : ∀ bid, (∀ y ∈ d.bp.batches, y.bid = bid → y.barred d.sck.tick ∧ y.offerPending = false) →
    ∀ x ∈ e.bp.batches, x.bid = bid → x.offerPending = false

namespace Device.Graded

variable {a b c d e : Device}

theorem ofSame (hl : e.lu = d.lu) (ht : e.ti = d.ti) (hi : e.iu = d.iu) (hb : e.bp = d.bp) (hs : e.sck.tick = d.sck.tick) :
    d.Graded e :=
  ⟨hl, ht, hi, by rw [hb], by rw [hb], by rw [hb], hs, by rw [hb], fun x hx => ⟨x, hb ▸ hx, rfl⟩,
    fun _ h x hx hi => (h x (hb ▸ hx) hi).2⟩

theorem refl (d : Device) : d.Graded d := ofSame rfl rfl rfl rfl rfl

theorem trans (h : a.Graded b) (k : b.Graded c) : a.Graded c where
  lu := k.lu.trans h.lu
  ti := k.ti.trans h.ti
  iu := k.iu.trans h.iu
  handed := k.handed.trans h.handed
  fireQ := k.fireQ.trans h.fireQ
  counter := k.counter.trans h.counter
  tick := k.tick.trans h.tick
  bids := k.bids.trans h.bids
  batches x hx := by
    obtain ⟨y, hy, hxy⟩ := k.batches x hx
    obtain ⟨z, hz, hyz⟩ := h.batches y hy
    refine ⟨z, hz, ?_⟩
    rw [hxy, hyz]
  pending bid hoff := k.pending bid fun y hy hi => by
    obtain ⟨z, hz, hyz⟩ := h.batches y hy
    have hbar : y.barred b.sck.tick = z.barred a.sck.tick := by rw [hyz, h.tick]; rfl
    have hzi : z.bid = bid := by rw [← hi, hyz]
    exact ⟨hbar ▸ (hoff z hz hzi).1, h.pending bid hoff y hy hi⟩

theorem ite {p : Prop} [Decidable p] {x y : Device} (hx : p → d.Graded x) (hy : ¬p → d.Graded y) :
    d.Graded (if p then x else y) := by
  split
  · next h => exact hx h
  · next h => exact hy h

theorem foldl {α : Type} {f : Device → α → Device} (hf : ∀ (x : Device) (a : α), x.Graded (f x a)) (l : List α)
    (d : Device) : d.Graded (l.foldl f d) := by
  induction l generalizing d with
  | nil => exact refl d
  | cons a l ih => exact (hf d a).trans (ih _)

/-- The batches' two markers changed. -/
theorem onMap {f : Batch → Batch} (d : Device)
    (hf : ∀ y, f y = { y with late := (f y).late, offerPending := (f y).offerPending })
    (hp : ∀ y ∈ d.bp.batches, (∀ z ∈ d.bp.batches, z.bid = y.bid → z.barred d.sck.tick) →
      y.offerPending = false → (f y).offerPending = false) :
    d.Graded (d.onBp fun p => { p with batches := p.batches.map f }) := by
  have hbid : ∀ y, (f y).bid = y.bid := fun y => by rw [hf y]
  refine ⟨rfl, rfl, rfl, rfl, rfl, rfl, rfl, ?_, fun x hx => ?_, fun bid hoff x hx hi => ?_⟩
  · rw [onBp_bp, List.map_map]
    exact List.map_congr_left fun y _ => hbid y
  · obtain ⟨y, hy, rfl⟩ := List.mem_map.mp hx
    exact ⟨y, hy, hf y⟩
  · obtain ⟨y, hy, rfl⟩ := List.mem_map.mp hx
    have hyi : y.bid = bid := (hbid y).symm.trans hi
    exact hp y hy (fun z hz hzy => (hoff z hz (hzy.trans hyi)).1) (hoff y hy hyi).2

theorem onBatch (bid : Nat) {f : Batch → Batch} (d : Device)
    (hf : ∀ y, f y = { y with late := (f y).late, offerPending := (f y).offerPending })
    (hp : (∀ z ∈ d.bp.batches, z.bid = bid → z.barred d.sck.tick) →
      ∀ y, y.offerPending = false → (f y).offerPending = false) : d.Graded (d.onBatch bid f) := by
  refine onMap d (fun y => ?_) fun y _ hall ho => ?_
  · split
    · exact hf y
    · rfl
  · split
    · next hy => exact hp (fun z hz hzb => hall z hz (hzb.trans (beq_iff_eq.mp hy).symm)) y ho
    · exact ho

theorem place (x : TxEntry) (d : Device) : d.Graded (d.place x) := ofSame rfl rfl rfl rfl rfl

theorem notify (n : NoticeBody) (d : Device) : d.Graded (d.notify n) := ofSame rfl rfl rfl rfl rfl

theorem announce (r : Nat) (d : Device) : d.Graded (d.announce r) := by
  unfold Device.announce
  split
  · exact ite (fun _ => place _ d) fun _ => refl d
  · exact refl d

theorem slipEval (r : Nat) (d : Device) : d.Graded (d.slipEval r) := by
  unfold Device.slipEval
  split
  · exact ite (fun _ => place _ d) fun _ => refl d
  · exact refl d

theorem markLate (bid : Nat) (d : Device) : d.Graded (d.markLate bid) := by
  unfold Device.markLate
  split
  · exact refl d
  · split
    · exact refl d
    · exact ite (fun _ => (onBatch (f := fun x => { x with late := true }) bid d (fun _ => by rfl)
        fun _ _ h => h).trans (notify _ _)) fun _ => refl d

theorem not_candidate {d : Device} {x : Batch} (h : x.barred d.sck.tick) : d.candidate x = false := by
  have hlate : atOrAfter d.sck.tick (d.sck.tick + 8) = false := by
    have hsub : d.sck.tick + 8 - d.sck.tick = 8 := by
      rw [BitVec.add_comm, BitVec.add_sub_cancel]
    rw [atOrAfter, before, hsub]
    decide
  unfold candidate
  rcases h with h | h
  · rw [h]
    simp only [now, hlate, Bool.and_false]
  · simp only [h, Bool.not_true, Bool.and_false, Bool.false_and]

theorem offerEval (d : Device) : d.Graded d.offerEval := by
  unfold Device.offerEval
  refine ite (fun _ => ?_) fun _ => refl d
  split
  · next x hx =>
    have hm : x ∈ d.bp.batches.filter d.candidate := (mem_sortBy _ _ _).mp (List.mem_of_mem_head? hx)
    obtain ⟨hmem, hcand⟩ := List.mem_filter.mp hm
    refine (onBatch x.bid d (fun _ => by rfl) fun hall _ _ => ?_).trans (place _ _)
    rw [not_candidate (hall x hmem rfl)] at hcand
    exact absurd hcand Bool.false_ne_true
  · exact refl d

theorem evaluate (d : Device) : d.Graded d.evaluate := by
  unfold Device.evaluate
  refine ite (fun _ => refl d) fun _ => ?_
  have hr : d.Graded d.recompute := ofSame rfl rfl rfl rfl rfl
  exact (((hr.trans (foldl (fun x r => announce r x) _ _)).trans (foldl (fun x r => slipEval r x) _ _)).trans
    (foldl (fun x b => markLate b x) _ _)).trans (offerEval _)

theorem enterQuiet (d : Device) : d.Graded d.enterQuiet := by
  rw [enterQuiet_eq]
  have hmap : d.Graded (d.onBp (Bp.unmark d.fe.txq)) := onMap d
    (fun y => by by_cases hy : .offer y.bid ∈ d.fe.txq <;> simp [hy])
    fun y _ _ ho => by by_cases hy : .offer y.bid ∈ d.fe.txq <;> simp [hy, ho]
  exact ⟨rfl, rfl, rfl, hmap.handed, hmap.fireQ, hmap.counter, rfl, hmap.bids, hmap.batches, hmap.pending⟩

theorem endOwnFrame (fate : Fate) (agree : Bool) (d : Device) : d.Graded (d.endOwnFrame fate false agree) := by
  unfold Device.endOwnFrame
  extract_lets d1 d2 d3
  have h3 : d.Graded d3 := by cases fate <;> exact ofSame rfl rfl rfl rfl rfl
  refine h3.trans ?_
  unfold quietIfDue
  exact ite (fun _ => enterQuiet d3) fun _ => refl d3

end Device.Graded

/-! ### An attempt counted (R145, R148) -/

/-- What an attempt that failed leaves before the evaluation. -/
def Device.offerFailed (bid : Nat) (o : OfferOutcome) (d : Device) : Device :=
  (d.onBatch bid fun b => { b with offerPending := false }).onBatch bid (Batch.attempted d.now o)

theorem Device.offerFate_noTaker (bid : Nat) (d : Device) :
    d.offerFate bid .accepted 63 = (d.offerFailed bid .noTaker).evaluate := by
  simp [offerFate, offerFailed]

/-- The batches after an attempt that failed. -/
theorem Device.mem_offerFailed {d : Device} {bid : Nat} {o : OfferOutcome} {x : Batch}
    (hx : x ∈ (d.offerFailed bid o).bp.batches) : ∃ y ∈ d.bp.batches, x.bid = y.bid ∧ (y.bid ≠ bid → x = y) ∧
      (y.bid = bid → x = { y with
        attempts := min 2 (y.attempts + 1), lastOffer := some d.sck.tick, outcome := some o, offerPending := false }) := by
  simp only [offerFailed, onBatch, onBp_bp, List.map_map, List.mem_map, Function.comp_apply] at hx
  obtain ⟨y, hy, rfl⟩ := hx
  refine ⟨y, hy, ?_⟩
  by_cases hb : y.bid = bid
  · simp [hb, Batch.attempted, now]
  · simp [hb]

/-- An attempt that failed, counted and evaluated (R90, R145, R148). -/
theorem Device.Graded.offerFailed {d e : Device} (h : d.Graded e) (bid : Nat) (o : OfferOutcome) :
    (e.offerFailed bid o).evaluate.lu = d.lu ∧ (e.offerFailed bid o).evaluate.ti = d.ti ∧
      (e.offerFailed bid o).evaluate.iu = d.iu ∧ (e.offerFailed bid o).evaluate.bp.handed = d.bp.handed ∧
      (e.offerFailed bid o).evaluate.bp.fireQ = d.bp.fireQ ∧
      (e.offerFailed bid o).evaluate.sck.tick = d.sck.tick ∧
      (e.offerFailed bid o).evaluate.bp.batches.map (·.bid) = d.bp.batches.map (·.bid) ∧
      ∀ x ∈ (e.offerFailed bid o).evaluate.bp.batches, ∃ y ∈ d.bp.batches,
        (y.bid ≠ bid → x = { y with late := x.late, offerPending := x.offerPending }) ∧
        (y.bid = bid → x = { y with
          attempts := min 2 (y.attempts + 1), lastOffer := some d.sck.tick, outcome := some o, offerPending := false,
          late := x.late }) := by
  have hev := Graded.evaluate (e.offerFailed bid o)
  have hbids : (e.offerFailed bid o).bp.batches.map (·.bid) = e.bp.batches.map (·.bid) := by
    simp only [Device.offerFailed, Device.onBatch, onBp_bp, List.map_map]
    refine List.map_congr_left fun y _ => ?_
    by_cases hb : y.bid = bid <;> simp [hb, Batch.attempted]
  refine ⟨hev.lu.trans h.lu, hev.ti.trans h.ti, hev.iu.trans h.iu, hev.handed.trans h.handed, hev.fireQ.trans h.fireQ,
    hev.tick.trans h.tick, hev.bids.trans (hbids.trans h.bids), fun x hx => ?_⟩
  obtain ⟨z, hz, hxz⟩ := hev.batches x hx
  obtain ⟨y, hy, hzb, hother, hown⟩ := mem_offerFailed hz
  obtain ⟨v, hv, hyv⟩ := h.batches y hy
  have hvb : y.bid = v.bid := by rw [hyv]
  refine ⟨v, hv, fun hb => ?_, fun hb => ?_⟩
  · have hzy := hother (hvb ▸ hb)
    rw [hxz, hzy, hyv]
  · have hxb : x.bid = bid := by rw [hxz, hzb, hvb, hb]
    have hpend : x.offerPending = false := hev.pending bid (fun w hw hwb => by
      obtain ⟨u, -, hwu, -, hu⟩ := mem_offerFailed hw
      rw [hu (hwu.symm.trans hwb)]
      exact ⟨.inl rfl, rfl⟩) x hx hxb
    rw [hxz, hpend, hown (hvb.trans hb), hyv, ← h.tick]

/-! ### A batch that leaves (R125) -/

/-- The lane unit after a batch left its lane (R125 step 2). -/
def Device.leftLane (b : Batch) (d : Device) : Lu :=
  match b.lane with
  | some i =>
    if b.state == .formed then (d.onLane i fun l => { l with staged := none }).lu
    else if b.state == .called then (d.onLane i Lane.release).lu
    else d.lu
  | none => d.lu

theorem Device.removeBatch_eq (b : Batch) (d : Device) : ∃ q, d.removeBatch b = { d with
    bp := { d.bp with
      fireQ := d.bp.fireQ.filter (fun x => x != b.bid)
      batches := d.bp.batches.filter (fun x => x.bid != b.bid) }
    lu := d.leftLane b
    fe := { d.fe with txq := q } } := by
  unfold removeBatch
  extract_lets d1 d2 d3
  have h2 : d2 = { d1 with lu := d.leftLane b } := by
    unfold leftLane
    cases hl : b.lane with
    | none => simp only [d2, hl]; rfl
    | some i =>
      simp only [d2, hl]
      split
      · rfl
      · split <;> rfl
  have h3 : ∃ q, d3 = { d2 with fe := { d2.fe with txq := q } } := by
    simp only [d3]
    split
    · exact ⟨_, rfl⟩
    · exact ⟨d2.fe.txq, rfl⟩
  obtain ⟨q, h3⟩ := h3
  exact ⟨q, by rw [h3, h2]; rfl⟩

theorem Device.removeBatch_bp (b : Batch) (d : Device) : (d.removeBatch b).bp = { d.bp with
    fireQ := d.bp.fireQ.filter (fun x => x != b.bid)
    batches := d.bp.batches.filter (fun x => x.bid != b.bid) } := by
  obtain ⟨q, h⟩ := removeBatch_eq b d
  rw [h]

theorem Device.removeBatch_wu (b : Batch) (d : Device) : (d.removeBatch b).wu = d.wu := by
  obtain ⟨q, h⟩ := removeBatch_eq b d
  rw [h]

theorem Device.removeBatch_sp (b : Batch) (d : Device) : (d.removeBatch b).sp = d.sp := by
  obtain ⟨q, h⟩ := removeBatch_eq b d
  rw [h]

/-- A CALLED batch leaves its lane IDLE (R125, R127). -/
theorem Device.removeBatch_lane {b : Batch} {i : Fin 8} (d : Device) (hb : b.state = .called) (hl : b.lane = some i) :
    (d.removeBatch b).lane i = (d.lane i).release := by
  obtain ⟨q, h⟩ := removeBatch_eq b d
  have hlu : d.leftLane b = (d.onLane i Lane.release).lu := by
    simp [leftLane, hl, hb]
  rw [h, lane, hlu]
  exact (onLane_lane i i _ d).trans (if_pos rfl)

/-- The batches that stay keep their numbering. -/
theorem Bp.Numbered.sublist {p q : Bp} (h : p.Numbered) (hb : q.batches.Sublist p.batches) (hn : q.nextBid = p.nextBid) :
    q.Numbered :=
  ⟨(hb.map _).nodup h.1, fun b hm => hn ▸ h.2 b (hb.subset hm)⟩

/-- The batch an identity names. -/
theorem Device.batch?_of_mem {d : Device} {b : Batch} (h : d.bp.Numbered) (hb : b ∈ d.bp.batches) :
    d.batch? b.bid = some b := by
  unfold batch?
  cases hf : d.bp.batches.find? (fun x => x.bid == b.bid) with
  | none => exact absurd (beq_self_eq_true b.bid) (List.find?_eq_none.mp hf b hb)
  | some c =>
    have hc : c.bid = b.bid := by simpa using List.find?_some hf
    rw [List.inj_on_of_nodup_map h.1 (List.mem_of_find?_eq_some hf) hb hc]

/-- With no SET demand waiting, a record that returns brings no formation (R115). -/
theorem Device.formOthers_of_no_demand {d : Device} (ending : Option Nat)
    (h : ∀ w ∈ d.wu.waves, w.state = .goSet → ∀ l ∈ w.lines, l.demand = 0) : d.formOthers ending = d := by
  have hnone : d.waitingWaves ending = [] := by
    have hf : d.wu.waves.filter (fun w => w.state == .goSet && ending != some w.ref &&
        w.lines.any (fun l => decide (0 < l.demand))) = [] := by
      refine List.filter_eq_nil_iff.mpr fun w hw => ?_
      by_cases hs : w.state = .goSet
      · have hz : w.lines.any (fun l => decide (0 < l.demand)) = false := by
          simp only [List.any_eq_false, decide_eq_true_eq]
          exact fun l hl => by simp [h w hw hs l hl]
        simp [hz]
      · simp [hs]
    unfold waitingWaves
    rw [hf]
    rfl
  unfold formOthers
  rw [hnone]
  rfl

/-- Nothing released, nothing dispatched (R117). -/
theorem Device.dispatch_of_unreleased {d : Device} (h : ∀ x ∈ d.queued, d.released x = false) : d.dispatch = d := by
  have hlane : ∀ i, d.dispatchLane i = d := fun i => by
    have hnone : d.firstFor (d.laneKind i) = none :=
      List.find?_eq_none.mpr fun x hx => by simp [h x hx]
    unfold dispatchLane
    simp [hnone]
  have hfold : ∀ l : List (Fin 8), l.foldl (fun x i => x.dispatchLane i) d = d := fun l => by
    induction l with
    | nil => rfl
    | cons i l ih => rw [List.foldl_cons, hlane, ih]
  exact hfold _

/-- What stands in the fire queue after a batch left it stood there before. -/
theorem Device.mem_queued_removeBatch {b x : Batch} {d : Device} (hx : x ∈ (d.removeBatch b).queued) : x ∈ d.queued := by
  obtain ⟨k, hk, hkx⟩ := List.mem_filterMap.mp hx
  rw [removeBatch_bp] at hk
  obtain ⟨hkq, hkb⟩ := List.mem_filter.mp hk
  refine List.mem_filterMap.mpr ⟨k, hkq, ?_⟩
  have hkb : k ≠ b.bid := by simpa using hkb
  rw [← hkx, batch?, batch?, removeBatch_bp, List.find?_filter]
  refine congrArg (fun p => d.bp.batches.find? p) (funext fun y => ?_)
  by_cases hy : y.bid = k
  · simp [hy, hkb]
  · simp [hy]

/-- What stands in the fire queue after a batch was changed in place. -/
theorem Device.mem_queued_onBatch {bid : Nat} {f : Batch → Batch} {d : Device} {x : Batch} (hf : ∀ y, (f y).bid = y.bid)
    (hx : x ∈ (d.onBatch bid f).queued) : ∃ y ∈ d.queued, x = y ∨ x = f y := by
  obtain ⟨k, hk, hkx⟩ := List.mem_filterMap.mp hx
  have hbid : ∀ y, (if y.bid == bid then f y else y).bid = y.bid := fun y => by
    split
    · exact hf y
    · rfl
  simp only [batch?, onBatch, onBp_bp, List.find?_map, Option.map_eq_some_iff, Function.comp_def, hbid] at hkx
  obtain ⟨y, hy, rfl⟩ := hkx
  refine ⟨y, List.mem_filterMap.mpr ⟨k, hk, hy⟩, ?_⟩
  split
  · exact .inr rfl
  · exact .inl rfl

/-- A notice stays queued through the evaluation (R177). -/
theorem Device.mem_notices_notify {n : Notice} (m : NoticeBody) {d : Device} (h : n ∈ d.sp.notices) :
    n ∈ (d.notify m).sp.notices := by
  simp only [notify, onSp, Sp.queueNotice]
  split
  · exact h
  · split
    · exact h
    · exact List.mem_append_left _ h

/-- A notice queued while its group is on and the queue has room (R177). -/
theorem Device.mem_notices_self {d : Device} (n : NoticeBody) (hg : groupOn d.sp.config n = true)
    (hl : d.sp.notices.length < 32) : { tick := d.now, body := n } ∈ (d.notify n).sp.notices := by
  have hlen : ¬Config.noticeCapacity ≤ d.sp.notices.length := Nat.not_le.mpr hl
  simp [notify, onSp, Sp.queueNotice, hg, hlen]

theorem Device.mem_notices_markLate {n : Notice} (bid : Nat) {d : Device} (h : n ∈ d.sp.notices) :
    n ∈ (d.markLate bid).sp.notices := by
  unfold markLate
  split
  · exact h
  · split
    · exact h
    · split
      · exact mem_notices_notify _ h
      · exact h

theorem Device.announce_sp (r : Nat) (d : Device) : (d.announce r).sp = d.sp := by
  unfold announce
  (repeat' split) <;> rfl

theorem Device.slipEval_sp (r : Nat) (d : Device) : (d.slipEval r).sp = d.sp := by
  unfold slipEval
  (repeat' split) <;> rfl

theorem Device.offerEval_sp (d : Device) : d.offerEval.sp = d.sp := by
  unfold offerEval
  (repeat' split) <;> rfl

theorem Device.mem_notices_foldl {n : Notice} {α : Type} {f : Device → α → Device}
    (hf : ∀ (x : Device) (a : α), n ∈ x.sp.notices → n ∈ (f x a).sp.notices) (l : List α) {d : Device}
    (h : n ∈ d.sp.notices) : n ∈ (l.foldl f d).sp.notices := by
  induction l generalizing d with
  | nil => exact h
  | cons a l ih => exact ih (hf d a h)

theorem Device.mem_notices_evaluate {n : Notice} {d : Device} (h : n ∈ d.sp.notices) : n ∈ d.evaluate.sp.notices := by
  unfold evaluate
  split
  · exact h
  · rw [offerEval_sp]
    refine mem_notices_foldl (fun x b hx => mem_notices_markLate b hx) _ ?_
    refine mem_notices_foldl (fun x r hx => by rwa [slipEval_sp]) _ ?_
    exact mem_notices_foldl (fun x r hx => by rwa [announce_sp]) _ h

/-! ### The commit (R149) -/

/-- The offerer's record of the hand-off, before its batch leaves. -/
def Device.handsOver (taker : Addr) (b : Batch) (d : Device) : Device :=
  d.onBp fun p => { p with handed := p.handed ++
    [{ wave := b.wave, dish := b.dish, taker := taker, seq := b.seq, handedAt := d.now, contribs := b.contribs }] }

/-- A wave with a batch left is not retired (R86). -/
theorem Device.testNoWork_of_batch {d : Device} {ref : Nat} (h : ∃ x ∈ d.bp.batches, x.wave = ref) :
    d.testNoWork ref = d := by
  obtain ⟨x, hx, hxw⟩ := h
  unfold testNoWork
  split
  · next w hw =>
    have href : w.ref = ref := by simpa using List.find?_some hw
    have hwork : d.noWork w = false := by
      have hin : x ∈ d.batchesOf w.ref := List.mem_filter.mpr ⟨hx, by simp [hxw, href]⟩
      have hne : (d.batchesOf w.ref).isEmpty = false := List.isEmpty_eq_false_iff.mpr (List.ne_nil_of_mem hin)
      rw [noWork, hne, Bool.and_false]
    rw [hwork, if_neg Bool.false_ne_true]
  · rfl

/-- A batch of the pool is handed over: its OFFER no longer pending, then the commit and the evaluation. -/
theorem Device.offerFate_commit {d : Device} {b : Batch} {taker : Addr} (hn : d.bp.Numbered) (hb : b ∈ d.bp.batches)
    (ht : taker ≠ 63) : d.offerFate b.bid .accepted taker =
      ((d.onBatch b.bid fun x => { x with offerPending := false }).offererCommit taker
        { b with offerPending := false }).evaluate := by
  have hmem : { b with offerPending := false } ∈ (d.onBatch b.bid fun x => { x with offerPending := false }).bp.batches :=
    List.mem_map.mpr ⟨b, hb, by simp⟩
  have hnum := ((SameFiles.onBatch b.bid (f := fun x => { x with offerPending := false }) (fun _ => ⟨rfl, rfl, rfl⟩) d).grows
    hn).numbered
  have hfind := batch?_of_mem hnum hmem
  unfold offerFate
  simp only [ht, beq_iff_eq, if_false, hfind]

theorem Device.SameFiles.afterFree (idled : Bool) (d : Device) : d.SameFiles (d.afterFree none idled) := by
  have hf : d.SameFiles (d.formOthers none) := SameFiles.formWaiting d
  unfold Device.afterFree
  exact ite (fun _ => hf.trans (dispatch _)) fun _ => hf

/-- The batch gone and the hand-off recorded, before the formation passes of R125. -/
def Device.handedOff (taker : Addr) (b : Batch) (d : Device) : Device := (d.handsOver taker b).removeBatch b

theorem Device.handedOff_bp (taker : Addr) (b : Batch) (d : Device) : (d.handedOff taker b).bp = { d.bp with
    handed := d.bp.handed ++
      [{ wave := b.wave, dish := b.dish, taker := taker, seq := b.seq, handedAt := d.now, contribs := b.contribs }]
    fireQ := d.bp.fireQ.filter (fun x => x != b.bid)
    batches := d.bp.batches.filter (fun x => x.bid != b.bid) } := removeBatch_bp b _

theorem Device.handedOff_numbered {d : Device} (taker : Addr) (b : Batch) (h : d.bp.Numbered) :
    (d.handedOff taker b).bp.Numbered := by
  rw [handedOff_bp]
  exact h.sublist List.filter_sublist rfl

/-- The commit of a batch whose wave keeps another one (R86, R149). -/
theorem Device.offererCommit_eq {d : Device} {b : Batch} (taker : Addr) (hn : d.bp.Numbered)
    (hother : ∃ x ∈ d.bp.batches, x.wave = b.wave ∧ x.bid ≠ b.bid) : d.offererCommit taker b =
      ((d.handedOff taker b).afterFree none (b.state == .called)).notify
        (.batchHanded (d.waveIdOf b.wave) b.seq b.dish b.portions taker) := by
  obtain ⟨x, hx, hxw, hxb⟩ := hother
  have hin : x ∈ (d.handedOff taker b).bp.batches := by
    rw [handedOff_bp]
    exact List.mem_filter.mpr ⟨hx, by simpa using hxb⟩
  obtain ⟨y, hy, -, hyw⟩ := ((SameFiles.afterFree (b.state == .called) (d.handedOff taker b)).grows
    (handedOff_numbered taker b hn)).stay x hin
  exact testNoWork_of_batch ⟨y, hy, hyw.trans hxw⟩

/-- What a commit leaves of the batches and the handed records (R149). -/
theorem Device.offererCommit_files {d : Device} {b : Batch} (taker : Addr) (hn : d.bp.Numbered) (hb : b ∈ d.bp.batches)
    (hother : ∃ x ∈ d.bp.batches, x.wave = b.wave ∧ x.bid ≠ b.bid) :
    (∀ x ∈ (d.offererCommit taker b).evaluate.bp.batches, x.bid ≠ b.bid) ∧
      (d.offererCommit taker b).evaluate.bp.handed = d.bp.handed ++
        [{ wave := b.wave, dish := b.dish, taker := taker, seq := b.seq, handedAt := d.now, contribs := b.contribs }] := by
  rw [offererCommit_eq taker hn hother]
  have hfiles := ((SameFiles.afterFree (b.state == .called) (d.handedOff taker b)).trans
    (.notify (.batchHanded (d.waveIdOf b.wave) b.seq b.dish b.portions taker) _)).trans (.evaluate _)
  refine ⟨fun x hx => ?_, hfiles.handed.trans (by rw [handedOff_bp])⟩
  rcases (hfiles.grows (handedOff_numbered taker b hn)).fresh x hx with ⟨y, hy, hyx⟩ | hnew
  · rw [handedOff_bp] at hy
    have hyb := (List.mem_filter.mp hy).2
    rw [← hyx]
    simpa using hyb
  · rw [handedOff_bp] at hnew
    exact ((hn.2 b hb).trans_le hnew).ne'

/-- With no demand waiting and nothing released, nothing follows the batch that left (R115, R117). -/
theorem Device.afterFree_handedOff {d : Device} {b : Batch} (taker : Addr) (idled : Bool)
    (hdemand : ∀ w ∈ d.wu.waves, w.state = .goSet → ∀ l ∈ w.lines, l.demand = 0)
    (hrel : ∀ x ∈ d.queued, d.released x = false) :
    (d.handedOff taker b).afterFree none idled = d.handedOff taker b := by
  have hform : (d.handedOff taker b).formOthers none = d.handedOff taker b :=
    formOthers_of_no_demand none (by rw [handedOff, removeBatch_wu]; exact hdemand)
  have hdisp : (d.handedOff taker b).dispatch = d.handedOff taker b := dispatch_of_unreleased fun x hx => by
    have hnow : (d.handedOff taker b).now = d.now := congrArg Sck.tick (removeBatch_kept b _).sck
    rw [released, hnow]
    exact hrel x (mem_queued_removeBatch (d := d.handsOver taker b) hx)
  unfold afterFree
  simp only [hform, hdisp, ite_self]

/-- The notice and the lane of a commit that nothing follows (R127, R149, R177). -/
theorem Device.offererCommit_quiet {d : Device} {b : Batch} (taker : Addr) (hn : d.bp.Numbered)
    (hother : ∃ x ∈ d.bp.batches, x.wave = b.wave ∧ x.bid ≠ b.bid)
    (hdemand : ∀ w ∈ d.wu.waves, w.state = .goSet → ∀ l ∈ w.lines, l.demand = 0)
    (hrel : ∀ x ∈ d.queued, d.released x = false) :
    (d.sp.config.batchGroup = true → d.sp.notices.length < 32 →
      { tick := d.now, body := .batchHanded (d.waveIdOf b.wave) b.seq b.dish b.portions taker } ∈
        (d.offererCommit taker b).evaluate.sp.notices) ∧
    (∀ i : Fin 8, b.state = .called → b.lane = some i →
      (d.offererCommit taker b).evaluate.lane i = (d.lane i).release) := by
  rw [offererCommit_eq taker hn hother, afterFree_handedOff taker _ hdemand hrel]
  refine ⟨fun hg hl => mem_notices_evaluate ?_, fun i hs hl => ?_⟩
  · have hsp : (d.handedOff taker b).sp = d.sp := removeBatch_sp b _
    have hnow : (d.handedOff taker b).now = d.now := congrArg Sck.tick (removeBatch_kept b _).sck
    rw [← hnow]
    exact mem_notices_self _ (hsp ▸ hg) (hsp ▸ hl)
  · rw [lane, evaluate_lu]
    exact removeBatch_lane (d.handsOver taker b) hs hl

/-! ### O29 -/

/-- The row of an own OFFER's fate, as the sender itself decides it. -/
theorem Device.offerRow {d : Device} {f : InFlight} {bid : Nat} (fate : Fate) (rep : OfferReply) (line : Followed)
    (hf : d.fe.inFlight = some f) (hentry : f.entry = .offer bid) (hk : f.frame.body.kind = .offer)
    (hdef : f.deferred = none) (hs : d.fe.station = .onLine) : ∃ drove,
    (Instr.offerFate fate rep line).effect d =
      ((d.ending line drove).endOwnFrame (f.settles (f.refuses rep .one) fate) false line.agree).offerFate bid
        (f.settles (f.refuses rep .one) fate) rep.taker ∧
      (f.gapError = false → f.refuses rep .one = false → drove = []) := by
  obtain ⟨drove, he, hdrove⟩ := fateOf_eq fate rep .one line hf (by simp [hs])
  refine ⟨drove, ?_, hdrove⟩
  rw [hk] at he
  change d.fateOf .offer fate rep .one line = _
  rw [he, reportFate, hdef, placerFate, hentry]
  rfl

/-- An own OFFER that finds no taker, is rejected by its sender or another station, or is broken off (R25, R31, R148). -/
theorem Device.offerFate_failed {f : InFlight} {fate : Fate} {rep : OfferReply} {o : OfferOutcome} {bid : Nat}
    {d : Device} (hk : f.frame.body.kind = .offer) (hg : f.gapError = false)
    (h : (fate = .accepted ∧ f.rejectReq = false ∧ rep = noTakerReply ∧ o = .noTaker) ∨
      (fate = .accepted ∧ (f.rejectReq = true ∨ replyCheckError rep = true ∨ rep.fault = true) ∧ o = .rejected) ∨
      (fate = .rejected ∧ o = .rejected) ∨ (fate = .brokenOff ∧ o = .brokenOff)) :
    d.offerFate bid (f.settles (f.refuses rep .one) fate) rep.taker = (d.offerFailed bid o).evaluate := by
  rw [InFlight.settles_eq, hg, if_neg Bool.false_ne_true]
  rcases h with ⟨rfl, hreq, rfl, rfl⟩ | ⟨rfl, hreq, rfl⟩ | ⟨rfl, rfl⟩ | ⟨rfl, rfl⟩
  · have hcheck : replyCheckError noTakerReply = false := by decide
    have hfault : noTakerReply.fault = false := rfl
    have hno : f.refuses noTakerReply .one = false := by simp [InFlight.refuses, hk, hreq, hcheck, hfault]
    rw [hno, if_neg (by simp)]
    exact offerFate_noTaker bid d
  · have hyes : f.refuses rep .one = true := (InFlight.refuses_iff f rep .one).mpr (.inl ⟨hk, hreq⟩)
    rw [hyes, if_pos ⟨rfl, rfl⟩]
    rfl
  · rw [if_neg (by simp)]
    rfl
  · rw [if_neg (by simp)]
    rfl

end Sys2Proof.Machine

namespace Sys2Proof

open Machine Machine.Device

/-- Settles O29: an attempt that failed, and the commit. -/
theorem offerFates : Obligations.OfferFates := by
  intro s f b rep line hf hentry hk hdef hg hs hr ht hids hb hcls
  refine ⟨fun fate o hcase => ?_, fun hreq htaker hcheck hfault hstate hother => ?_⟩
  · obtain ⟨drove, heff, -⟩ := offerRow fate rep line hf hentry hk hdef hs
    refine ⟨_, exec_of_effect heff, rfl, ?_⟩
    dsimp only
    rw [offerFate_failed hk hg hcase]
    have hgraded : s.dev.Graded ((s.dev.ending line drove).endOwnFrame (f.settles (f.refuses rep .one) fate) false
        line.agree) :=
      (Graded.ofSame (d := s.dev) (e := s.dev.ending line drove) rfl rfl rfl rfl rfl).trans (.endOwnFrame _ _ _)
    exact hgraded.offerFailed b.bid o
  · obtain ⟨drove, heff, hdrove⟩ := offerRow .accepted rep line hf hentry hk hdef hs
    have href : f.refuses rep .one = false := by
      simp [InFlight.refuses, hk, hreq, hcheck, hfault]
    obtain rfl := hdrove hg href
    have hfinal : f.settles (f.refuses rep .one) .accepted = .accepted := by
      simp [InFlight.settles_eq, hg, href]
    have htec : tecAfter .accepted false s.dev.fe.tecCount < 128 := (Nat.sub_le _ _).trans_lt ht
    rw [hfinal, endOwnFrame_ending .accepted line [] fun _ => ⟨htec, hr⟩] at heff
    have hnum : s.dev.bp.Numbered := ⟨hids.2.2.1, hids.2.2.2.1⟩
    have hkept : (s.dev.endedFrame .accepted line).Kept ((s.dev.endedAs .accepted line []).offerFate b.bid .accepted
        rep.taker) := offerFate_kept b.bid .accepted rep.taker (s.dev.endedFrame .accepted line)
    rw [offerFate_commit (d := s.dev.endedAs .accepted line []) hnum hb htaker] at heff hkept
    set x := (s.dev.endedAs .accepted line []).onBatch b.bid fun y => { y with offerPending := false } with hx
    have hxnum : x.bp.Numbered := ((SameFiles.onBatch b.bid (fun _ => by exact ⟨rfl, rfl, rfl⟩) _).grows hnum).numbered
    have hxb : { b with offerPending := false } ∈ x.bp.batches := List.mem_map.mpr ⟨b, hb, by simp⟩
    have hxother : ∃ y ∈ x.bp.batches, y.wave = b.wave ∧ y.bid ≠ b.bid := by
      obtain ⟨y, hy, hyw, hyb⟩ := hother
      exact ⟨y, List.mem_map.mpr ⟨y, hy, by simp [hyb]⟩, hyw, hyb⟩
    obtain ⟨hgone, hhanded⟩ := offererCommit_files (b := { b with offerPending := false }) rep.taker hxnum hxb hxother
    refine ⟨_, exec_of_effect heff, rfl, hkept, hgone, hhanded, fun hdemand hrel => ?_⟩
    have hxrel : ∀ y ∈ x.queued, x.released y = false := fun y hy => by
      obtain ⟨z, hz, hyz⟩ := mem_queued_onBatch (f := fun y => { y with offerPending := false }) (fun _ => by rfl) hy
      have hrl : x.released z = false := hrel z hz
      rcases hyz with rfl | rfl
      · exact hrl
      · exact hrl
    obtain ⟨hnotice, hlane⟩ := offererCommit_quiet (b := { b with offerPending := false }) rep.taker hxnum hxother hdemand
      hxrel
    refine ⟨hnotice, fun i hs hl => ?_⟩
    dsimp only
    rw [hlane i hs hl]
    exact ⟨rfl, rfl, rfl⟩

end Sys2Proof
end

section
/-! An OFFER adopted by its taker (O27). -/

namespace Sys2Proof.Machine

open Device

/-! ### The slots a qualifier drives (R30) -/

theorem drivenSlots_self (xs : List Bool) : drivenSlots xs xs = xs := by
  induction xs with
  | nil => rfl
  | cons x xs ih => simp [drivenSlots, ih]

theorem drivenSlots_prefix (xs ys : List Bool) : drivenSlots xs ys <+: xs := by
  induction xs generalizing ys with
  | nil => exact List.nil_prefix
  | cons x xs ih =>
    cases ys with
    | nil => exact List.nil_prefix
    | cons y ys =>
      unfold drivenSlots
      split
      · exact List.cons_prefix_cons.mpr ⟨rfl, ih ys⟩
      · exact List.cons_prefix_cons.mpr ⟨rfl, List.nil_prefix⟩

/-- Up to the last slot driven, the slots read as they were driven. -/
theorem drivenSlots_dropLast_prefix (xs ys : List Bool) : (drivenSlots xs ys).dropLast <+: ys := by
  induction xs generalizing ys with
  | nil => exact List.nil_prefix
  | cons x xs ih =>
    cases ys with
    | nil => exact List.nil_prefix
    | cons y ys =>
      unfold drivenSlots
      split
      · next hxy =>
        obtain rfl : x = y := beq_iff_eq.mp hxy
        cases hd : drivenSlots xs ys with
        | nil => exact List.nil_prefix
        | cons z zs =>
          rw [List.dropLast_cons_of_ne_nil (List.cons_ne_nil z zs), ← hd]
          exact List.cons_prefix_cons.mpr ⟨rfl, ih ys⟩
      · exact List.nil_prefix

/-- A qualifier that reads another address reads a slot it did not drive. -/
theorem drivenSlots_ne_take {xs ys : List Bool} (hlen : xs.length = ys.length) (hne : xs ≠ ys) :
    drivenSlots xs ys ≠ ys.take (drivenSlots xs ys).length := by
  induction xs generalizing ys with
  | nil => exact absurd (List.length_eq_zero_iff.mp hlen.symm).symm hne
  | cons x xs ih =>
    cases ys with
    | nil => cases hlen
    | cons y ys =>
      by_cases hxy : x = y
      · subst hxy
        have htail : xs ≠ ys := fun h => hne (h ▸ rfl)
        have := ih (Nat.succ.inj hlen) htail
        simpa [drivenSlots] using this
      · simp [drivenSlots, hxy]

theorem bitsOf_inj {n a b : Nat} (ha : a < 2 ^ n) (hb : b < 2 ^ n) (h : bitsOf n a = bitsOf n b) : a = b := by
  have := congrArg natOf h
  rwa [natOf_bitsOf, natOf_bitsOf, Nat.mod_eq_of_lt ha, Nat.mod_eq_of_lt hb] at this

theorem bitsOf_addr_ne {a b : Addr} (h : a ≠ b) : bitsOf 6 a.toNat ≠ bitsOf 6 b.toNat := fun he =>
  h (BitVec.eq_of_toNat_eq (bitsOf_inj a.isLt b.isLt he))

/-! ### A qualifier (R150) -/

/-- A station that qualifies for an OFFER and may drive, at the end of the Body field. -/
theorem Device.rxBody_qualified {d : Device} {h : Heard} {num : Byte} {pass : Addr} {go : Tick} {slips : BitVec 2}
    {dish : Byte} {portions : Nat} {cs : List Contrib}
    (hf : framed .offer h.frame = some (.offer num pass go slips dish portions cs)) (hs : d.fe.station = .onLine)
    (hm : d.lif.mode ≠ .down)
    (hq : (d.following .offer h .start).qualifies h.frame.cls num pass go dish portions = true) :
    (d.following .offer h .start).rxBody .offer h.frame =
      d.followingAs h (d.bodyHeard .offer h .disregard .qualified) [] := by
  have hmay : (d.following .offer h .start).mayDrive d.fe.station = true := (mayDrive_iff _ _).mpr ⟨hs, hs, hm⟩
  unfold rxBody bodyHeard
  rw [hf]
  simp [following, followingAs, onRx, onFe, atBodyEnd, follower] at hmay hq ⊢
  simp [hmay, hq]

theorem Device.laneFree_iff (d : Device) (i : Fin 8) : d.laneFree i = true ↔
    i.val < d.sp.config.laneCount ∧ (d.lane i).state = .idle ∧ (d.lane i).reserved = false := by
  simp only [laneFree, configured, Bool.and_eq_true, beq_iff_eq, Bool.not_eq_true', and_assoc]
  exact and_congr_left' decide_eq_true_iff

/-- The conditions of R150 at a station that holds no record back. -/
theorem Device.qualifies_of {d : Device} {cls : ClassNo} {num : Byte} {pass : Addr} {go : Tick} {dish : Byte}
    {portions : Nat} {x : Dish} {i : Fin 8} (hx : d.dish? dish = some x) (hcls : cls = d.strap.cls)
    (hp : portions ≤ x.batch) (hfree : d.laneFree i = true) (hkind : d.laneKind i = x.kind)
    (hq : ∀ b ∈ d.queued, d.kindOf b.dish = some x.kind → d.released b = false)
    (hgo : before (go + 8) (d.now + ticks x.cook + ticks d.cfg.margin) = false) (hpool : 0 < d.poolFree)
    (hw : (∃ w, d.named? pass num = some w ∧ w.state = .goSet) ∨ d.named? pass num = none ∧ d.wu.waves.length < 32) :
    d.qualifies cls num pass go dish portions = true := by
  have hlane : (List.finRange 8).any (fun i => d.laneFree i && d.laneKind i == x.kind) = true :=
    List.any_eq_true.mpr ⟨i, List.mem_finRange i, by simp [hfree, hkind]⟩
  have hqueue : d.queued.any (fun b => d.kindOf b.dish == some x.kind && d.released b) = false := by
    refine List.any_eq_false.mpr fun b hb => ?_
    by_cases hk : d.kindOf b.dish = some x.kind
    · simp [hq b hb hk]
    · simp [hk]
  have hroom : Config.waveCapacity = 32 := rfl
  unfold qualifies
  rw [hx]
  dsimp only
  rw [hlane, hqueue, hgo]
  rcases hw with ⟨w, hw, hset⟩ | ⟨hw, hlen⟩
  · simp [hw, hset, hcls, hp, hpool]
  · simp [hw, hcls, hp, hpool, hlen, hroom]

/-- The first of a range that satisfies a condition is the lowest. -/
theorem find?_finRange_lowest {n : Nat} {p : Fin n → Bool} {i : Fin n} (hi : p i = true)
    (hlow : ∀ j, j < i → ¬p j = true) : (List.finRange n).find? p = some i := by
  cases hf : (List.finRange n).find? p with
  | none => exact absurd hi (by simpa using List.find?_eq_none.mp hf i (List.mem_finRange i))
  | some j =>
    obtain ⟨hj, as, bs, hl, has⟩ := List.find?_eq_some_iff_append.mp hf
    have hmem : i ∈ as ++ j :: bs := hl ▸ List.mem_finRange i
    have hsorted : (as ++ j :: bs).Pairwise (· < ·) := hl ▸ List.pairwise_lt_finRange n
    rcases List.mem_append.mp hmem with hia | hib
    · exact absurd (has i hia) (by simp [hi])
    · rcases List.mem_cons.mp hib with rfl | hib
      · rfl
      · exact absurd hj (hlow j ((List.pairwise_cons.mp (List.pairwise_append.mp hsorted).2.1).1 i hib))

/-- The lane a winner reserves (R151). -/
theorem Device.laneToReserve_eq {d : Device} {dish : Byte} {x : Dish} {i : Fin 8} (hx : d.dish? dish = some x)
    (hfree : d.laneFree i = true) (hkind : d.laneKind i = x.kind)
    (hlow : ∀ j, j < i → ¬(d.laneFree j = true ∧ d.laneKind j = x.kind)) : d.laneToReserve dish = some i := by
  have hk : d.kindOf dish = some x.kind := by rw [kindOf, hx]; rfl
  unfold laneToReserve
  rw [hk]
  exact find?_finRange_lowest (by simp [hfree, hkind]) fun j hj => by
    have := hlow j hj
    simpa using this

/-! ### The reply field at a qualifier that found nothing bad (R30, R31, R151) -/

/-- What a qualifier follows by the end of the reply field of a good OFFER. -/
def Device.offerHeard (h : Heard) (taker : TakerState) (d : Device) : Rx :=
  { startState := d.fe.station, frame := some (.offer, h.frame), stage := .reply, bad := false, ticket := .disregard,
    taker := taker }

/-- The reply field of a good OFFER comes to its taker slots. -/
theorem Device.rxReply_offer {d : Device} {h : Heard} {rep : OfferReply} {num : Byte} {pass : Addr} {go : Tick}
    {slips : BitVec 2} {dish : Byte} {portions : Nat} {cs : List Contrib}
    (hg : heardGood h .offer rep (.offer num pass go slips dish portions cs)) :
    (d.followingAs h (d.bodyHeard .offer h .disregard .qualified) []).rxReply .offer h.frame h.gapFault rep =
      ((d.followingAs h (d.offerHeard h .qualified) []).takerSlots rep dish).onRx fun x => { x with bad := x.bad } := by
  obtain ⟨-, hf, hcrc, hgap, -, -, hrep⟩ := hg
  obtain ⟨hcheck, hfault⟩ := hrep rfl
  have hd : (d.followingAs h (d.bodyHeard .offer h .disregard .qualified) []).onRx (fun x =>
      { x with stage := .reply, bad := x.bad || h.gapFault || crcError h.frame }) =
      d.followingAs h (d.offerHeard h .qualified) [] := by
    simp [onRx, onFe, followingAs, bodyHeard, offerHeard, hf, hgap, hcrc]
  unfold rxReply
  simp only [hd, hf, hcheck, hfault, Bool.or_false]
  rfl

/-- The taker slots at a qualifier that reads its own address: it has won (R31, R151). -/
theorem Device.takerSlots_won {d : Device} {h : Heard} {rep : OfferReply} {dish : Byte} {i : Fin 8}
    (hs : d.fe.station = .onLine) (hm : d.lif.mode ≠ .down) (ht : rep.taker = d.strap.addr)
    (hlane : d.laneToReserve dish = some i) :
    (d.followingAs h (d.offerHeard h .qualified) []).takerSlots rep dish =
      (d.reserve (some i)).followingAs h (d.offerHeard h (.won (some i)))
        [d.driven (.takerSlots (bitsOf 6 d.strap.addr.toNat)),
          d.driven (.checkSlots (~~~(d.strap.addr.extractLsb' 0 2)))] := by
  generalize hx : d.followingAs h (d.offerHeard h .qualified) [] = x
  have hmay : x.mayDrive d.fe.station = true := by rw [← hx]; exact (mayDrive_iff _ _).mpr ⟨hs, hs, hm⟩
  have hr : x.fe.rx = some (d.offerHeard h .qualified) := by rw [← hx]; rfl
  have haddr : x.strap.addr = d.strap.addr := by rw [← hx]; rfl
  have hslots : takerDriven d.strap.addr rep.taker = bitsOf 6 d.strap.addr.toNat := by
    rw [ht]
    exact drivenSlots_self _
  have hreserve : ∀ a, (x.drive a).laneToReserve dish = some i := fun a => by rw [← hx]; exact hlane
  unfold takerSlots
  rw [hr]
  simp only [offerHeard, hmay, haddr, ht, hreserve, bne_self_eq_false, Bool.not_true, Bool.or_self, Bool.false_eq_true,
    if_false, BEq.rfl, if_true]
  rw [← hx, ← hslots, ht]
  rfl

/-- With no demand waiting, a possible taker that gives up changes nothing else (R90, R150). -/
theorem Device.dropQualified_of_no_demand {d : Device} {r : Rx} (hr : d.fe.rx = some r) (hq : r.taker = .qualified)
    (hdemand : ∀ w ∈ d.wu.waves, w.state = .goSet → ∀ l ∈ w.lines, l.demand = 0) :
    d.dropQualified = d.onRx fun x => { x with taker := .notTaker } := by
  have hform : (d.onRx fun x => { x with taker := .notTaker }).formWaiting = d.onRx fun x => { x with taker := .notTaker } :=
    formOthers_of_no_demand none hdemand
  unfold dropQualified
  simp only [hr, hq, BEq.rfl, if_true, hform]
  exact if_pos (beq_self_eq_true _)

/-- The taker slots at a qualifier that reads another address: it is not the taker (R30). -/
theorem Device.takerSlots_lost {d : Device} {h : Heard} {rep : OfferReply} {dish : Byte}
    (hs : d.fe.station = .onLine) (hm : d.lif.mode ≠ .down) (ht : rep.taker ≠ d.strap.addr)
    (hdemand : ∀ w ∈ d.wu.waves, w.state = .goSet → ∀ l ∈ w.lines, l.demand = 0) :
    (d.followingAs h (d.offerHeard h .qualified) []).takerSlots rep dish =
      d.followingAs h (d.offerHeard h .notTaker) [d.driven (.takerSlots (takerDriven d.strap.addr rep.taker))] := by
  generalize hx : d.followingAs h (d.offerHeard h .qualified) [] = x
  have hmay : x.mayDrive d.fe.station = true := by rw [← hx]; exact (mayDrive_iff _ _).mpr ⟨hs, hs, hm⟩
  have hr : x.fe.rx = some (d.offerHeard h .qualified) := by rw [← hx]; rfl
  have haddr : x.strap.addr = d.strap.addr := by rw [← hx]; rfl
  have hwu : x.wu = d.wu := by rw [← hx]; rfl
  have hdrop : (x.drive (.takerSlots (takerDriven d.strap.addr rep.taker))).dropQualified =
      (x.drive (.takerSlots (takerDriven d.strap.addr rep.taker))).onRx fun y => { y with taker := .notTaker } :=
    dropQualified_of_no_demand (r := d.offerHeard h .qualified) hr rfl (by rw [drive, onFe_wu, hwu]; exact hdemand)
  unfold takerSlots
  rw [hr]
  simp only [offerHeard, hmay, haddr, beq_iff_eq, ht, bne_self_eq_false, Bool.not_true, Bool.or_self, Bool.false_eq_true,
    if_false]
  rw [hdrop, ← hx]
  rfl

/-! ### The taker's commit (R152) -/

/-- The batch adopted and called on the reserved lane (R127, R152). -/
def Device.adopts (i : Fin 8) (ref : Nat) (dish : Byte) (portions : Nat) (cs : List Contrib) (d : Device) : Device :=
  (d.addBatch (d.adoptedBatch ref dish portions cs)).beginCall i d.bp.nextBid

/-- The batch that an adoption calls. -/
def Device.adoptee (i : Fin 8) (ref : Nat) (dish : Byte) (portions : Nat) (cs : List Contrib) (d : Device) : Batch :=
  { d.adoptedBatch ref dish portions cs with
    bid := d.bp.nextBid, seq := d.bp.counter, state := .called, staged := false, lane := some i }

theorem Device.adopts_bp {d : Device} (i : Fin 8) (ref : Nat) (dish : Byte) (portions : Nat) (cs : List Contrib)
    (hn : d.bp.Numbered) : (d.adopts i ref dish portions cs).bp = { d.bp with
      batches := d.bp.batches ++ [d.adoptee i ref dish portions cs]
      fireQ := d.bp.fireQ.filter (fun b => b ≠ d.bp.nextBid)
      counter := d.bp.counter + 1
      nextBid := d.bp.nextBid + 1 } := by
  have hold : d.bp.batches.map (fun b => if b.bid == d.bp.nextBid then
      { b with state := .called, staged := false, lane := some i } else b) = d.bp.batches := by
    refine (List.map_congr_left fun b hb => ?_).trans (List.map_id _)
    simp [(hn.2 b hb).ne]
  have hq : d.bp.fireQ.filter (fun x => x != d.bp.nextBid) = d.bp.fireQ.filter (fun b => b ≠ d.bp.nextBid) :=
    List.filter_congr fun _ _ => by simp [bne, beq_eq_decide]
  simp only [adopts, beginCall, addBatch, leaveFire, onBatch, onLane, onBp, onLu, List.map_append, hold, hq]
  simp [adoptee]

theorem Device.adopts_lane (i j : Fin 8) (ref : Nat) (dish : Byte) (portions : Nat) (cs : List Contrib) (d : Device) :
    (d.adopts i ref dish portions cs).lane j = if i = j then (d.lane i).call d.bp.nextBid d.now else d.lane j :=
  onLane_lane i j _ _

/-- The adoption with its notice, evaluated (R90, R152). -/
def Device.adoption (i : Fin 8) (id : WaveId) (sender : Addr) (ref : Nat) (dish : Byte) (portions : Nat)
    (cs : List Contrib) (d : Device) : Device :=
  ((d.adopts i ref dish portions cs).notify (.batchAdopted id d.bp.counter dish portions sender (some i))).evaluate

/-- The part `y` into which a winner `d` adopts: its wave is held and SET, or is created adopted-only (R152). -/
def Device.AdoptionGround (stamp : Tick) (num : Byte) (pass : Addr) (go : Tick) (slips : Nat) (ref : Nat)
    (d y : Device) : Prop :=
  (∃ w, d.named? pass num = some w ∧ w.state = .goSet ∧ ref = w.ref ∧ y = d) ∨
    (d.named? pass num = none ∧ ref = d.wu.nextRef ∧ y = d.addWave (d.adoptedWave stamp num pass go slips))

/-- The commit of a winner whose wave is SET, or not held (R152). -/
theorem Device.takerCommit_eq {d y : Device} {i : Fin 8} {sender : Addr} {stamp : Tick} {num : Byte} {pass : Addr}
    {go : Tick} {slips : Nat} {dish : Byte} {portions : Nat} {cs : List Contrib} {ref : Nat}
    (h : d.AdoptionGround stamp num pass go slips ref y) :
    d.takerCommit (some i) sender stamp num pass go slips dish portions cs =
      y.adoption i { pass := pass, num := num } sender ref dish portions cs := by
  unfold takerCommit
  rcases h with ⟨w, hw, hset, rfl, rfl⟩ | ⟨hw, rfl, rfl⟩
  · simp [hw, hset]
    rfl
  · simp [hw]
    rfl

/-- The record an identity names. -/
theorem Device.wave?_of_mem {d : Device} {w : Wave} (h : (d.wu.waves.map (·.ref)).Nodup) (hw : w ∈ d.wu.waves) :
    d.wave? w.ref = some w := by
  unfold wave?
  cases hf : d.wu.waves.find? (fun x => x.ref == w.ref) with
  | none => exact absurd (beq_self_eq_true w.ref) (List.find?_eq_none.mp hf w hw)
  | some v =>
    have hv : v.ref = w.ref := by simpa using List.find?_some hf
    rw [List.inj_on_of_nodup_map h (List.mem_of_find?_eq_some hf) hw hv]

theorem Device.wave?_addWave {d : Device} (w : Wave) (hr : w.ref = d.wu.nextRef)
    (h : ∀ x ∈ d.wu.waves, x.ref < d.wu.nextRef) : (d.addWave w).wave? d.wu.nextRef = some w := by
  have hold : d.wu.waves.find? (fun x => x.ref == d.wu.nextRef) = none :=
    List.find?_eq_none.mpr fun x hx => by simp [(h x hx).ne]
  unfold wave? addWave
  rw [onWu_wu, List.find?_append, hold]
  simp [hr]

/-- A wave that is SET or not held gives the adoption its go time (R111, R152). -/
theorem Device.AdoptionGround.of_wave {d : Device} {num : Byte} {pass : Addr} {go goW : Tick} {ref : Nat} (stamp : Tick)
    (slips : Nat) (hids : d.idsOk)
    (hwave : (∃ w, d.named? pass num = some w ∧ w.state = .goSet ∧ w.go = some goW ∧ ref = w.ref) ∨
      (d.named? pass num = none ∧ d.wu.waves.length < 32 ∧ goW = go ∧ ref = d.wu.nextRef)) :
    ∃ y, d.AdoptionGround stamp num pass go slips ref y ∧ y.goOf ref = goW ∧ y = { d with wu := y.wu } := by
  rcases hwave with ⟨w, hw, hset, hgo, rfl⟩ | ⟨hw, -, rfl, rfl⟩
  · refine ⟨d, .inl ⟨w, hw, hset, rfl, rfl⟩, ?_, rfl⟩
    rw [goOf, wave?_of_mem hids.1 (List.mem_of_find?_eq_some hw)]
    simp [hgo]
  · refine ⟨_, .inr ⟨hw, rfl, rfl⟩, ?_, rfl⟩
    rw [goOf, wave?_addWave (d.adoptedWave stamp num pass goW slips) rfl hids.2.1]
    rfl

/-! ### What the evaluation leaves of an adoption -/

theorem Device.announce_wu (r : Nat) (d : Device) : (d.announce r).wu = d.wu := by
  unfold announce
  (repeat' split) <;> rfl

theorem Device.slipEval_wu (r : Nat) (d : Device) : (d.slipEval r).wu = d.wu := by
  unfold slipEval
  (repeat' split) <;> rfl

theorem Device.markLate_wu (b : Nat) (d : Device) : (d.markLate b).wu = d.wu := by
  unfold markLate
  (repeat' split) <;> rfl

theorem Device.offerEval_wu (d : Device) : d.offerEval.wu = d.wu := by
  unfold offerEval
  (repeat' split) <;> rfl

theorem Device.foldl_wu {α : Type} {f : Device → α → Device} (hf : ∀ (x : Device) (a : α), (f x a).wu = x.wu)
    (l : List α) (d : Device) : (l.foldl f d).wu = d.wu := by
  induction l generalizing d with
  | nil => rfl
  | cons a l ih => exact (ih _).trans (hf d a)

/-- The wave records stay through the evaluation, with their estimates computed anew (R90). -/
theorem Device.evaluate_waves {d : Device} {w : Wave} (hw : w ∈ d.wu.waves) :
    ∃ y ∈ d.evaluate.wu.waves, y = { w with est := y.est } := by
  unfold evaluate
  split
  · exact ⟨w, hw, rfl⟩
  · rw [offerEval_wu, foldl_wu (fun x b => markLate_wu b x), foldl_wu (fun x r => slipEval_wu r x),
      foldl_wu (fun x r => announce_wu r x)]
    exact ⟨_, List.mem_map_of_mem hw, rfl⟩

/-- A batch adopted and evaluated: one more batch, not marked for an OFFER (R146, R152). -/
theorem Device.Graded.adopted {d e : Device} {b : Batch} (h : d.Graded e) (hn : d.bp.Numbered) (hb : b ∈ d.bp.batches)
    (ha : b.adopted = true) (ho : b.offerPending = false) : ∃ x ∈ e.bp.batches, x = { b with late := x.late } := by
  have hid : b.bid ∈ e.bp.batches.map (·.bid) := by
    rw [h.bids]
    exact List.mem_map_of_mem hb
  obtain ⟨x, hx, hxb⟩ := List.mem_map.mp hid
  obtain ⟨y, hy, hxy⟩ := h.batches x hx
  obtain rfl : y = b := List.inj_on_of_nodup_map hn.1 hy hb (by rw [← hxb, hxy])
  have hpend : x.offerPending = false := h.pending y.bid (fun z hz hzb => by
    rw [List.inj_on_of_nodup_map hn.1 hz hb hzb]
    exact ⟨.inr ha, ho⟩) x hx hxb
  refine ⟨x, hx, ?_⟩
  rw [hxy, hpend, ← ho]

section Adoption

variable {d : Device} {i : Fin 8} {id : WaveId} {sender : Addr} {ref : Nat} {dish : Byte} {portions : Nat}
  {cs : List Contrib}

theorem Device.adoption_graded : (d.adopts i ref dish portions cs).Graded (d.adoption i id sender ref dish portions cs) :=
  (Graded.notify _ _).trans (.evaluate _)

/-- What an adoption leaves of the records. -/
theorem Device.adoption_records (hn : d.bp.Numbered) :
    (d.adoption i id sender ref dish portions cs).ti = d.ti ∧ (d.adoption i id sender ref dish portions cs).iu = d.iu ∧
      (d.adoption i id sender ref dish portions cs).bp.handed = d.bp.handed ∧
      (d.adoption i id sender ref dish portions cs).bp.fireQ = d.bp.fireQ.filter (fun b => b ≠ d.bp.nextBid) ∧
      (d.adoption i id sender ref dish portions cs).bp.counter = d.bp.counter + 1 ∧
      (d.adoption i id sender ref dish portions cs).bp.batches.map (·.bid) =
        d.bp.batches.map (·.bid) ++ [d.bp.nextBid] := by
  have hg := adoption_graded (d := d) (i := i) (id := id) (sender := sender) (ref := ref) (dish := dish)
    (portions := portions) (cs := cs)
  have hbp := adopts_bp (d := d) i ref dish portions cs hn
  refine ⟨hg.ti, hg.iu, hg.handed.trans ?_, hg.fireQ.trans ?_, hg.counter.trans ?_, hg.bids.trans ?_⟩
  · rw [hbp]
  · rw [hbp]
  · rw [hbp]
  · rw [hbp, List.map_append]
    rfl

/-- The adopted batch, CALLED on its lane (R127, R152). -/
theorem Device.adoption_batch (hn : d.bp.Numbered) : ∃ b ∈ (d.adoption i id sender ref dish portions cs).bp.batches,
    b = { d.adoptee i ref dish portions cs with late := b.late } := by
  have hnum : (d.adopts i ref dish portions cs).bp.Numbered := ((SameFiles.beginCall i d.bp.nextBid
    (d.addBatch (d.adoptedBatch ref dish portions cs))).grows (SameFiles.grows_addBatch _ hn).numbered).numbered
  have hin : d.adoptee i ref dish portions cs ∈ (d.adopts i ref dish portions cs).bp.batches := by
    rw [adopts_bp i ref dish portions cs hn]
    exact List.mem_append_right _ (.head _)
  exact adoption_graded.adopted hnum hin rfl rfl

theorem Device.adoption_lane (j : Fin 8) : (d.adoption i id sender ref dish portions cs).lane j =
    if i = j then (d.lane i).call d.bp.nextBid d.now else d.lane j := by
  rw [lane, adoption_graded.lu]
  exact adopts_lane i j ref dish portions cs d

theorem Device.adoption_ring : (d.adoption i id sender ref dish portions cs).lu.ring = d.lu.ring := by
  rw [adoption_graded.lu]
  rfl

theorem Device.adoption_notice (hg : d.sp.config.batchGroup = true) (hl : d.sp.notices.length < 32) :
    { tick := d.now, body := .batchAdopted id d.bp.counter dish portions sender (some i) } ∈
      (d.adoption i id sender ref dish portions cs).sp.notices :=
  mem_notices_evaluate (mem_notices_self (d := d.adopts i ref dish portions cs) _ hg hl)

theorem Device.adoption_waves {w : Wave} (hw : w ∈ d.wu.waves) :
    ∃ y ∈ (d.adoption i id sender ref dish portions cs).wu.waves, y = { w with est := y.est } :=
  evaluate_waves (d := (d.adopts i ref dish portions cs).notify _) hw

end Adoption

/-! ### O27 -/

/-- An OFFER found good and accepted, at a qualifier. -/
theorem Device.receive_offer {d : Device} {h : Heard} {rep : OfferReply} {num : Byte} {pass : Addr} {go : Tick}
    {slips : BitVec 2} {dish : Byte} {portions : Nat} {cs : List Contrib} (hh : d.hears h) (hs : d.fe.station = .onLine)
    (hg : heardGood h .offer rep (.offer num pass go slips dish portions cs))
    (hq : d.qualifies h.frame.cls num pass go dish portions = true) :
    d.receive .offer h rep =
      (((d.followingAs h (d.offerHeard h .qualified) []).takerSlots rep dish).onRx fun x => { x with bad := x.bad }).rxAccept
        .offer h.frame h.lateFault h.accept h.agree := by
  have hfree : (d.following .offer h .start).poolFree = d.poolFree := by
    have hnone : d.heldBack = 0 := by simp [heldBack, hh.2.2.1]
    rw [poolFree, poolFree, hnone]
    rfl
  have hq' : (d.following .offer h .start).qualifies h.frame.cls num pass go dish portions = true := by
    rw [← hq]
    unfold qualifies
    rw [hfree]
    rfl
  rw [receive_of_hears .offer rep hh hg.1, rxBody_qualified hg.2.1 hs hh.2.1 hq', rxReply_offer hg]

/-- The part of a winner when its OFFER's accept slot ends: the lane reserved, its address and its check driven (R30, R31,
R151). -/
def Device.wonAs (h : Heard) (i : Fin 8) (d : Device) : Device :=
  { (d.reserve (some i)).heardFrame h with fe := { ((d.reserve (some i)).heardFrame h).fe with
      drove := [d.driven (.takerSlots (bitsOf 6 d.strap.addr.toNat)),
        d.driven (.checkSlots (~~~(d.strap.addr.extractLsb' 0 2)))] } }

section Qualifier

variable {d : Device} {h : Heard} {rep : OfferReply} {num : Byte} {pass : Addr} {go : Tick} {slips : BitVec 2}
  {dish : Byte} {portions : Nat} {cs : List Contrib}

/-- A qualifier that reads its own address commits (R151, R152). -/
theorem Device.receive_won {i : Fin 8} (hh : d.hears h) (hs : d.fe.station = .onLine) (ht : d.fe.tecCount < 128)
    (hr : d.fe.recCount < 128) (hg : heardGood h .offer rep (.offer num pass go slips dish portions cs))
    (hq : d.qualifies h.frame.cls num pass go dish portions = true) (htaker : rep.taker = d.strap.addr)
    (hlane : d.laneToReserve dish = some i) : d.receive .offer h rep =
      (d.wonAs h i).takerCommit (some i) h.frame.sender (stampTick h.frame.stamp) num pass go slips.toNat dish portions cs := by
  rw [receive_offer hh hs hg hq, takerSlots_won hs hh.2.1 htaker hlane]
  exact rxAccept_good (d := d.reserve (some i)) (r := d.offerHeard h (.won (some i))) _ hh.2.2.1 hg (fun _ => ⟨ht, hr⟩)
    (by rw [show (d.reserve (some i)).fe.station = .onLine from hs]; rfl) rfl rfl

/-- A qualifier that reads another address, with no demand waiting, has only driven (R30, R150). -/
theorem Device.receive_lost (hh : d.hears h) (hs : d.fe.station = .onLine) (ht : d.fe.tecCount < 128)
    (hr : d.fe.recCount < 128) (hg : heardGood h .offer rep (.offer num pass go slips dish portions cs))
    (hq : d.qualifies h.frame.cls num pass go dish portions = true) (htaker : rep.taker ≠ d.strap.addr)
    (hdemand : ∀ w ∈ d.wu.waves, w.state = .goSet → ∀ l ∈ w.lines, l.demand = 0) : d.receive .offer h rep =
      { d.heardFrame h with fe := { (d.heardFrame h).fe with
          drove := [d.driven (.takerSlots (takerDriven d.strap.addr rep.taker))] } } := by
  rw [receive_offer hh hs hg hq, takerSlots_lost hs hh.2.1 htaker hdemand]
  exact rxAccept_good (d := d) (r := d.offerHeard h .notTaker) _ hh.2.2.1 hg (fun _ => ⟨ht, hr⟩) (by rw [hs]; rfl) rfl rfl

end Qualifier

end Sys2Proof.Machine

namespace Sys2Proof

open Machine Machine.Device

/-- Settles O27: the qualifier wins and adopts, or reads another taker. -/
theorem offerFrameAdopted : Obligations.OfferFrameAdopted := by
  intro s h rep num pass go goW slips dish portions cs x i ref hh hs ht hr hids hg hcls hcook hx hp hi hlow hqueue hgo
    hpool hwave
  obtain ⟨hcount, hidle, hfree, hkind⟩ := hi
  have hlane : s.dev.laneFree i = true := (laneFree_iff _ _).mpr ⟨hcount, hidle, hfree⟩
  have hq : s.dev.qualifies h.frame.cls num pass go dish portions = true := by
    refine qualifies_of hx hcls hp hlane hkind hqueue hgo ?_ ?_
    · rw [poolFree, show s.dev.heldBack = 0 by simp [heldBack, hh.2.2.1]]
      change 0 < 96 - _ - 0
      omega
    · exact hwave.imp (fun ⟨w, hw, hset, _⟩ => ⟨w, hw, hset⟩) fun ⟨hw, hlen, _⟩ => ⟨hw, hlen⟩
  refine ⟨fun htaker => ?_, fun htaker hdemand => ?_⟩
  · have hreserve : s.dev.laneToReserve dish = some i := laneToReserve_eq hx hlane hkind fun j hj => by
      rw [laneFree_iff]
      exact fun ⟨⟨h1, h2, h3⟩, h4⟩ => hlow j hj ⟨h1, h2, h3, h4⟩
    obtain ⟨y, hy, hygo, hyP⟩ := AdoptionGround.of_wave (d := s.dev.wonAs h i) (stampTick h.frame.stamp) slips.toNat hids hwave
    have hcommit := takerCommit_eq (i := i) (sender := h.frame.sender) (dish := dish) (portions := portions) (cs := cs) hy
    have heff : (Instr.offerFrame h rep).effect s.dev = _ :=
      (receive_won hh hs ht hr hg hq htaker hreserve).trans hcommit
    have hkept : (s.dev.wonAs h i).Kept _ := hcommit ▸ takerCommit_kept (some i) h.frame.sender (stampTick h.frame.stamp) num
      pass go slips.toNat dish portions cs (s.dev.wonAs h i)
    have hybp : y.bp = s.dev.bp := by rw [hyP]; rfl
    have hysp : y.sp = s.dev.sp := by rw [hyP]; rfl
    have hynow : y.now = s.dev.sck.tick := by rw [hyP]; rfl
    have hyti : y.ti = s.dev.ti := by rw [hyP]; rfl
    have hyiu : y.iu = s.dev.iu := by rw [hyP]; rfl
    have hyring : y.lu.ring = s.dev.lu.ring := by rw [hyP]; rfl
    have hylane : ∀ j, y.lane j = (s.dev.reserve (some i)).lane j := fun j => by rw [hyP]; rfl
    have hyn : y.bp.Numbered := hybp ▸ ⟨hids.2.2.1, hids.2.2.2.1⟩
    obtain ⟨hti, hiu, hhanded, hfire, hcounter, hbids⟩ := adoption_records (i := i) (id := { pass := pass, num := num })
      (sender := h.frame.sender) (ref := ref) (dish := dish) (portions := portions) (cs := cs) hyn
    obtain ⟨b, hb, hbx⟩ := adoption_batch (i := i) (id := { pass := pass, num := num }) (sender := h.frame.sender)
      (ref := ref) (dish := dish) (portions := portions) (cs := cs) hyn
    refine ⟨_, exec_of_effect heff, rfl, (onLane_kept i (fun l => { l with reserved := true }) _).trans hkept,
      hti.trans hyti, hiu.trans hyiu, hhanded.trans (congrArg Bp.handed hybp), ?_, ?_, ?_, ⟨b, hb, hbx.trans ?_⟩, ?_,
      fun j hj => ?_, adoption_ring.trans hyring, fun hgroup hlen => ?_, fun hnone => ?_⟩
    · rw [← hybp]
      exact hfire
    · rw [← hybp]
      exact hcounter
    · rw [← hybp]
      exact hbids
    · have hcook' : y.cookOf dish = x.cook := by
        rw [cookOf, dish?, hysp]
        exact congrArg (fun o => (o.map Dish.cook).getD 0) hx
      have hhold : y.holdOf dish = x.hold := by
        rw [holdOf, dish?, hysp]
        exact congrArg (fun o => (o.map Dish.hold).getD 0) hx
      simp only [adoptee, adoptedBatch, formedBatch, releaseOf, latestStart, hygo, hcook', hhold, hybp, cfg, hysp]
      rfl
    · refine (adoption_lane i).trans ?_
      rw [if_pos rfl, hylane, hybp, hynow, reserve, onLane_lane, if_pos rfl]
      rfl
    · refine (adoption_lane j).trans ?_
      rw [if_neg hj.symm, hylane, reserve, onLane_lane, if_neg hj.symm]
    · rw [← hybp, ← hynow]
      exact adoption_notice (hysp ▸ hgroup) (hysp ▸ hlen)
    · rcases hy with ⟨w, hw, -⟩ | ⟨-, href, hyw⟩
      · exact absurd (hnone.symm.trans hw) nofun
      · obtain ⟨z, hz, hzw⟩ := adoption_waves (d := y) (i := i) (id := { pass := pass, num := num })
          (sender := h.frame.sender) (ref := ref) (dish := dish) (portions := portions) (cs := cs)
          (w := (s.dev.wonAs h i).adoptedWave (stampTick h.frame.stamp) num pass go slips.toNat) (by
            rw [hyw]
            exact List.mem_append_right _ (.head _))
        refine ⟨z, hz, hzw.trans ?_⟩
        rw [href]
        rfl
  · exact ⟨takerDriven s.dev.strap.addr rep.taker, exec_of_effect (receive_lost hh hs ht hr hg hq htaker hdemand),
      drivenSlots_prefix _ _, drivenSlots_ne_take (by simp) (bitsOf_addr_ne (Ne.symm htaker)),
      drivenSlots_dropLast_prefix _ _⟩

end Sys2Proof
end

section
/-! Frames as bytes and as slots (O60). -/

namespace Sys2Proof

open Machine

/-! ### Slots read as they are driven (R18, R21) -/

/-- The slots of some bits read as their number, wherever they stand. -/
theorem slotsNat_at {xs pre post : List Slot} {bits : List Bool} {i n : Nat} (hx : xs = pre ++ bits.map Slot.symbol ++ post)
    (hi : pre.length = i) (hn : bits.length = n) : slotsNat xs i n = natOf bits := by
  have hmap : (bits.map Slot.symbol).map Slot.value = bits := by simp [Function.comp_def]
  have hlen : (bits.map Slot.symbol).length = n := by simp [hn]
  rw [slotsNat, hx, ← hi, List.append_assoc, List.drop_left, ← hlen, List.take_left, hmap]

theorem slotsNat_bits {xs pre post : List Slot} {i n v : Nat} (hx : xs = pre ++ (bitsOf n v).map Slot.symbol ++ post)
    (hi : pre.length = i) : slotsNat xs i n = v % 2 ^ n := by
  rw [slotsNat_at hx hi (bitsOf_length n v), natOf_bitsOf]

/-- A field of a frame as its slots read. -/
theorem ofNat_slotsNat {n : Nat} {v : BitVec n} {xs pre post : List Slot} {i : Nat}
    (hx : xs = pre ++ (bitsOf n v.toNat).map Slot.symbol ++ post) (hi : pre.length = i) :
    BitVec.ofNat n (slotsNat xs i n) = v := by
  rw [slotsNat_bits hx hi, Nat.mod_eq_of_lt v.isLt, BitVec.ofNat_toNat, BitVec.setWidth_eq]

namespace RawFrame

/-- The bits of a frame's body. -/
def bodyBits (f : RawFrame) : List Bool := f.body.flatMap fun b => bitsOf 8 b.toNat

theorem bodyBits_length (f : RawFrame) : f.bodyBits.length = 8 * f.body.length := by
  simp [bodyBits, List.length_flatMap, mul_comm]

theorem slots_eq (f : RawFrame) : f.slots = (bitsOf 3 f.kind.toNat).map Slot.symbol ++
    (bitsOf 6 f.sender.toNat).map Slot.symbol ++ (bitsOf 4 f.cls.toNat).map Slot.symbol ++
    (bitsOf 32 f.stamp.toNat).map Slot.symbol ++ (bitsOf 6 f.length.toNat).map Slot.symbol ++
    f.bodyBits.map Slot.symbol ++ (bitsOf 16 f.check.toNat).map Slot.symbol := by
  simp [slots, coveredBits, bodyBits]

theorem slots_length (f : RawFrame) : f.slots.length = fieldSlots f.body.length := by
  simp only [slots_eq, List.length_append, List.length_map, bitsOf_length, bodyBits_length, fieldSlots]
  omega

/-- The Length field as its slots read. -/
theorem slotsNat_length (f : RawFrame) (more : List Slot) : slotsNat (f.slots ++ more) 45 6 = f.length.toNat := by
  rw [slotsNat_bits (v := f.length.toNat) (pre := (bitsOf 3 f.kind.toNat).map Slot.symbol ++
    (bitsOf 6 f.sender.toNat).map Slot.symbol ++ (bitsOf 4 f.cls.toNat).map Slot.symbol ++
    (bitsOf 32 f.stamp.toNat).map Slot.symbol) (post := f.bodyBits.map Slot.symbol ++
    (bitsOf 16 f.check.toNat).map Slot.symbol ++ more) (by simp [slots_eq]) (by simp), Nat.mod_eq_of_lt f.length.isLt]

/-- A byte of the body as its slots read. -/
theorem slotsNat_byte (f : RawFrame) (more : List Slot) {i : Nat} (hi : i < f.body.length) :
    BitVec.ofNat 8 (slotsNat (f.slots ++ more) (51 + 8 * i) 8) = f.body[i] := by
  have hbits : f.bodyBits = ((f.body.take i).flatMap fun b => bitsOf 8 b.toNat) ++ bitsOf 8 f.body[i].toNat ++
      (f.body.drop (i + 1)).flatMap fun b => bitsOf 8 b.toNat := by
    have hsplit : f.body.take i ++ f.body[i] :: f.body.drop (i + 1) = f.body := by
      rw [← List.drop_eq_getElem_cons hi, List.take_append_drop]
    calc f.bodyBits = (f.body.take i ++ f.body[i] :: f.body.drop (i + 1)).flatMap fun b => bitsOf 8 b.toNat := by
          rw [hsplit]; rfl
      _ = _ := by simp only [List.flatMap_append, List.flatMap_cons, List.append_assoc]
  refine ofNat_slotsNat (pre := (bitsOf 3 f.kind.toNat).map Slot.symbol ++
    (bitsOf 6 f.sender.toNat).map Slot.symbol ++ (bitsOf 4 f.cls.toNat).map Slot.symbol ++
    (bitsOf 32 f.stamp.toNat).map Slot.symbol ++ (bitsOf 6 f.length.toNat).map Slot.symbol ++
    ((f.body.take i).flatMap fun b => bitsOf 8 b.toNat).map Slot.symbol) (post :=
    ((f.body.drop (i + 1)).flatMap fun b => bitsOf 8 b.toNat).map Slot.symbol ++
    (bitsOf 16 f.check.toNat).map Slot.symbol ++ more) ?_ ?_
  · simp [slots_eq, hbits]
  · simp [List.length_flatMap, hi.le]
    omega

/-- The slots of a frame's fields read back as its fields (R18, R21). -/
theorem ofSlots_slots {f : RawFrame} (hlen : f.length.toNat = f.body.length) (more : List Slot) :
    RawFrame.ofSlots (f.slots ++ more) = f := by
  have hn := f.slotsNat_length more
  have hkind : BitVec.ofNat 3 (slotsNat (f.slots ++ more) 0 3) = f.kind :=
    ofNat_slotsNat (pre := []) (by rw [slots_eq]; simp; rfl) rfl
  have hsender : BitVec.ofNat 6 (slotsNat (f.slots ++ more) 3 6) = f.sender :=
    ofNat_slotsNat (pre := (bitsOf 3 f.kind.toNat).map Slot.symbol) (by rw [slots_eq]; simp; rfl) (by simp)
  have hcls : BitVec.ofNat 4 (slotsNat (f.slots ++ more) 9 4) = f.cls :=
    ofNat_slotsNat (pre := (bitsOf 3 f.kind.toNat).map Slot.symbol ++ (bitsOf 6 f.sender.toNat).map Slot.symbol)
      (by rw [slots_eq]; simp; rfl) (by simp)
  have hstamp : BitVec.ofNat 32 (slotsNat (f.slots ++ more) 13 32) = f.stamp :=
    ofNat_slotsNat (pre := (bitsOf 3 f.kind.toNat).map Slot.symbol ++ (bitsOf 6 f.sender.toNat).map Slot.symbol ++
      (bitsOf 4 f.cls.toNat).map Slot.symbol) (by rw [slots_eq]; simp; rfl) (by simp)
  have hcheck : BitVec.ofNat 16 (slotsNat (f.slots ++ more) (51 + 8 * f.length.toNat) 16) = f.check :=
    ofNat_slotsNat (pre := (bitsOf 3 f.kind.toNat).map Slot.symbol ++ (bitsOf 6 f.sender.toNat).map Slot.symbol ++
      (bitsOf 4 f.cls.toNat).map Slot.symbol ++ (bitsOf 32 f.stamp.toNat).map Slot.symbol ++
      (bitsOf 6 f.length.toNat).map Slot.symbol ++ f.bodyBits.map Slot.symbol) (by rw [slots_eq])
      (by simp [bodyBits_length, hlen]; omega)
  have hbody : (List.range f.length.toNat).map (fun i => BitVec.ofNat 8 (slotsNat (f.slots ++ more) (51 + 8 * i) 8)) =
      f.body := by
    rw [hlen]
    refine List.ext_getElem (by simp) fun i hi1 hi2 => ?_
    rw [List.getElem_map, List.getElem_range, slotsNat_byte f more hi2]
  simp only [RawFrame.ofSlots, hn, hkind, hsender, hcls, hstamp, hcheck, hbody, BitVec.ofNat_toNat, BitVec.setWidth_eq]

/-- Every slot a sender drives for the fields is a symbol. -/
theorem mem_slots {f : RawFrame} {x : Slot} (hx : x ∈ f.slots) : ∃ b, x = Slot.symbol b := by
  obtain ⟨b, -, rfl⟩ := List.mem_map.mp hx
  exact ⟨b, rfl⟩

/-- The fields as they are driven hold no coding violation (R18, R25). -/
theorem slotsBroken_slots {f : RawFrame} (hlen : f.length.toNat = f.body.length) (more : List Slot) :
    slotsBroken (f.slots ++ more) = false := by
  have hfields : fieldSlots f.length.toNat = f.slots.length := by rw [hlen, f.slots_length]
  have hnine : 9 ≤ f.slots.length := by rw [f.slots_length, fieldSlots]; omega
  have hgood : ∀ sort, ∀ x ∈ f.slots, Slot.faulty sort x = false := fun sort x hx => by
    obtain ⟨b, rfl⟩ := mem_slots hx
    exact Slot.faulty_symbol sort b
  have hshared : ((f.slots ++ more).take 9).any (Slot.faulty .shared) = false := by
    rw [List.take_append_of_le_length hnine]
    exact List.any_eq_false.mpr fun x hx => by simp [hgood .shared x (List.mem_of_mem_take hx)]
  have hdriven : (f.slots.drop 9).any (Slot.faulty .senderDriven) = false :=
    List.any_eq_false.mpr fun x hx => by simp [hgood .senderDriven x (List.mem_of_mem_drop hx)]
  have hlong : ¬(f.slots ++ more).length < f.slots.length := by simp
  rw [slotsBroken, f.slotsNat_length, hfields, List.take_left, hshared, hdriven, decide_eq_false hlong]
  rfl

/-! ### One faulty slot (R18, R25) -/

/-- A slot outside the Length field leaves its reading as it was. -/
theorem slotsNat_set {xs : List Slot} {y : Slot} {i : Nat} (hi : i < 45 ∨ 51 ≤ i) :
    slotsNat (xs.set i y) 45 6 = slotsNat xs 45 6 := by
  have hsame : ((xs.set i y).drop 45).take 6 = (xs.drop 45).take 6 := by
    rcases hi with hi | hi
    · rw [List.drop_set, if_pos hi]
    · rw [List.drop_set, if_neg (by omega), List.take_set, List.set_eq_of_length_le]
      exact (List.length_take_le _ _).trans (by omega)
  rw [slotsNat, slotsNat, hsame]

/-- A faulty slot of the fields is found. -/
theorem slotsBroken_of_faulty {xs : List Slot} {i : Nat} {x : Slot} (hi : xs[i]? = some x)
    (h : i < 9 ∧ x.faulty .shared = true ∨ 9 ≤ i ∧ i < fieldSlots (slotsNat xs 45 6) ∧ x.faulty .senderDriven = true) :
    slotsBroken xs = true := by
  unfold slotsBroken
  rcases h with ⟨hlt, hx⟩ | ⟨hge, hlt, hx⟩
  · have hmem : x ∈ xs.take 9 := List.mem_of_getElem? (by rw [List.getElem?_take, if_pos hlt, hi])
    have hany := List.any_eq_true.mpr ⟨x, hmem, hx⟩
    rw [hany, Bool.or_true, Bool.true_or]
  · have hmem : x ∈ (xs.take (fieldSlots (slotsNat xs 45 6))).drop 9 :=
      List.mem_of_getElem? (i := i - 9) (by rw [List.getElem?_drop, Nat.add_sub_cancel' hge, List.getElem?_take, if_pos hlt, hi])
    have hany := List.any_eq_true.mpr ⟨x, hmem, hx⟩
    rw [hany, Bool.or_true]

/-- The slot at a place in the fields lies within the fields that are read, whatever it reads. -/
theorem lt_fieldSlots_set {f : RawFrame} (hlen : f.length.toNat = f.body.length) {i : Nat} (y : Slot)
    (hi : i < f.slots.length) : i < fieldSlots (slotsNat (f.slots.set i y) 45 6) := by
  by_cases hfar : 51 ≤ i
  · rw [slotsNat_set (.inr hfar), ← List.append_nil f.slots, f.slotsNat_length, hlen, ← f.slots_length]
    exact hi
  · rw [fieldSlots]
    omega

/-- An end that is missing is found. -/
theorem slotsBroken_take {f : RawFrame} (hlen : f.length.toNat = f.body.length) {i : Nat} (hi : i < f.slots.length) :
    slotsBroken (f.slots.take i) = true := by
  have hshort : (f.slots.take i).length < fieldSlots (slotsNat (f.slots.take i) 45 6) := by
    rw [List.length_take_of_le hi.le]
    by_cases hfar : 51 ≤ i
    · have hsame : ((f.slots.take i).drop 45).take 6 = (f.slots.drop 45).take 6 := by
        rw [List.drop_take, List.take_take, min_eq_left (by omega)]
      rw [slotsNat, hsame, ← slotsNat, ← List.append_nil f.slots, f.slotsNat_length, hlen, ← f.slots_length]
      exact hi
    · rw [fieldSlots]
      omega
  rw [slotsBroken, decide_eq_true hshort, Bool.true_or, Bool.true_or]

end RawFrame

/-! ### Symbols and replies (R18, R30, R31) -/

/-- A symbol reads as its bit in a slot of either sort. -/
theorem Slot.read_symbol (sort : SlotSort) (a : Bool) : (Slot.symbol a).read sort = if a then .one else .zero := by
  cases sort <;> cases a <;> rfl

/-- Two different symbols in one slot are dominant in both halves. -/
theorem Slot.wired_symbol_ne {a b : Bool} (h : a ≠ b) :
    (Slot.symbol a).wired (Slot.symbol b) = ⟨.dominant, .dominant⟩ := by
  cases a <;> cases b
  · exact absurd rfl h
  · rfl
  · rfl
  · exact absurd rfl h

theorem Slot.value_reply (b : Bool) : (Slot.reply b).value = b := by cases b <;> rfl

theorem Slot.faulty_reply (b : Bool) : (Slot.reply b).faulty .shared = false := by cases b <;> rfl

namespace OfferReply

theorem ofBits_taker (taker : Addr) (check : BitVec 2) : (OfferReply.ofBits taker check).taker = taker := by
  have hbits : (OfferReply.ofBits taker check).takerSlots.toList.map Slot.value = bitsOf 6 taker.toNat := by
    simp [ofBits, bitsOf, List.ofFn_succ, Vector.toList_ofFn, Slot.value_reply]
  rw [OfferReply.taker, hbits, natOf_bitsOf, Nat.mod_eq_of_lt taker.isLt, BitVec.ofNat_toNat, BitVec.setWidth_eq]

theorem ofBits_check (taker : Addr) (check : BitVec 2) : (OfferReply.ofBits taker check).check = check := by
  have hbits : (OfferReply.ofBits taker check).checkSlots.toList.map Slot.value = bitsOf 2 check.toNat := by
    simp [ofBits, bitsOf, List.ofFn_succ, Vector.toList_ofFn, Slot.value_reply]
  rw [OfferReply.check, hbits, natOf_bitsOf, Nat.mod_eq_of_lt check.isLt, BitVec.ofNat_toNat, BitVec.setWidth_eq]

theorem ofBits_fault (taker : Addr) (check : BitVec 2) : (OfferReply.ofBits taker check).fault = false := by
  simp [OfferReply.fault, ofBits, Vector.toList_ofFn, Slot.faulty_reply, List.ofFn_succ]

end OfferReply

/-! ### Bodies as bytes (R22) -/

namespace Machine

theorem byteOf_toNat (n : Nat) : (byteOf n).toNat = n % 256 := by simp [byteOf]

theorem append_byte_toNat {n : Nat} (x : BitVec n) (b : Byte) : (x ++ b).toNat = x.toNat * 256 + b.toNat := by
  rw [BitVec.toNat_append, ← Nat.shiftLeft_add_eq_or_of_lt b.isLt, Nat.shiftLeft_eq]

theorem be16_append (v : BitVec 16) : byteOf (v.toNat / 256) ++ byteOf v.toNat = v := by
  refine BitVec.eq_of_toNat_eq ?_
  have := v.isLt
  simp only [append_byte_toNat, byteOf_toNat]
  omega

theorem be24_append (v : BitVec 24) : byteOf (v.toNat / 65536) ++ byteOf (v.toNat / 256) ++ byteOf v.toNat = v := by
  refine BitVec.eq_of_toNat_eq ?_
  have := v.isLt
  simp only [append_byte_toNat, byteOf_toNat]
  omega

/-- An estimate offset in its two bytes, the top bit clear (R22). -/
theorem offset_append (v : BitVec 15) : (byteOf (v.toNat / 256) ++ byteOf v.toNat).extractLsb' 0 15 = v ∧
    (byteOf (v.toNat / 256)).msb = false := by
  have := v.isLt
  refine ⟨BitVec.eq_of_toNat_eq ?_, ?_⟩
  · simp only [BitVec.extractLsb'_toNat, append_byte_toNat, byteOf_toNat, Nat.shiftRight_zero]
    omega
  · rw [BitVec.msb_eq_false_iff_two_mul_lt, byteOf_toNat]
    omega

/-- A pass address in its byte (R22, R23). -/
theorem passOk_addrByte {a : Addr} (h : addrOk a = true) : passOk (addrByte a) = true := by
  have hlt := a.isLt
  have h0 : a.toNat ≠ 0 := fun he => by
    have : a = 0 := BitVec.eq_of_toNat_eq he
    simp [addrOk, this] at h
  have h63 : a.toNat ≠ 63 := fun he => by
    have : a = 63 := BitVec.eq_of_toNat_eq he
    simp [addrOk, this] at h
  simp only [passOk, addrByte, byteOf_toNat, Bool.and_eq_true, decide_eq_true_eq]
  omega

theorem addrByte_extract (a : Addr) : (addrByte a).extractLsb' 0 6 = a := by
  have := a.isLt
  refine BitVec.eq_of_toNat_eq ?_
  simp only [BitVec.extractLsb'_toNat, addrByte, byteOf_toNat, Nat.shiftRight_zero]
  omega

/-- The markers of a READY (R22). -/
theorem markers_read (far wd : Bool) : (byteOf (bit far 7 + bit wd 6)).getLsbD 7 = far ∧
    (byteOf (bit far 7 + bit wd 6)).getLsbD 6 = wd := by
  cases far <;> cases wd <;> exact ⟨by decide, by decide⟩

theorem slips_read (v : BitVec 2) : (byteOf v.toNat).extractLsb' 0 2 = v ∧ (byteOf v.toNat).toNat ≤ 3 := by
  have := v.isLt
  refine ⟨BitVec.eq_of_toNat_eq ?_, ?_⟩
  · simp only [BitVec.extractLsb'_toNat, byteOf_toNat, Nat.shiftRight_zero]
    omega
  · rw [byteOf_toNat]
    omega

theorem byteOf_toNat_of_lt {n : Nat} (h : n < 256) : (byteOf n).toNat = n := by
  rw [byteOf_toNat, Nat.mod_eq_of_lt h]

theorem contribOk_iff (c : Contrib) : contribOk c = true ↔ c.serial ≠ 0 ∧ 1 ≤ c.portions ∧ c.portions ≤ 16 := by
  simp [contribOk, and_assoc]

theorem orderOk_iff (o : Order) : orderOk o = true ↔ o.dish ≠ 0 ∧ 1 ≤ o.qty ∧ o.qty ≤ 63 := by
  simp [orderOk, and_assoc]

theorem readContribs_bytes {cs : List Contrib} (h : ∀ c ∈ cs, contribOk c = true) :
    readContribs (cs.flatMap contribBytes) = some cs := by
  induction cs with
  | nil => rfl
  | cons c cs ih =>
    obtain ⟨-, -, hp⟩ := (contribOk_iff c).mp (h c (.head _))
    have hrest := ih fun x hx => h x (.tail _ hx)
    have hbytes : (c :: cs).flatMap contribBytes = byteOf (c.serial.toNat / 256) :: byteOf c.serial.toNat ::
        byteOf c.portions :: cs.flatMap contribBytes := rfl
    rw [hbytes, readContribs, hrest, be16_append, byteOf_toNat_of_lt (by omega)]
    rfl

theorem readOrders_bytes {os : List Order} (h : ∀ o ∈ os, orderOk o = true) :
    readOrders (os.flatMap orderBytes) = some os := by
  induction os with
  | nil => rfl
  | cons o os ih =>
    obtain ⟨-, -, hq⟩ := (orderOk_iff o).mp (h o (.head _))
    have hrest := ih fun x hx => h x (.tail _ hx)
    have hbytes : (o :: os).flatMap orderBytes = o.dish :: byteOf o.qty :: os.flatMap orderBytes := rfl
    rw [hbytes, readOrders, hrest, byteOf_toNat_of_lt (by omega)]
    rfl

/-! ### Bodies by kind (R22, R23) -/

/-- The bytes of a READY or SLIP are read back. -/
theorem readEstimateBody_bytes (f : Byte → Addr → BitVec 15 → Bool → Bool → Body) (num : Byte) {pass : Addr}
    (off : BitVec 15) (far wd : Bool) (h : addrOk pass = true) :
    readEstimateBody f ([num, addrByte pass] ++ be16 off.toNat ++ [byteOf (bit far 7 + bit wd 6)]) =
      some (f num pass off far wd) := by
  obtain ⟨hoff, htop⟩ := offset_append off
  obtain ⟨hfar, hwd⟩ := markers_read far wd
  simp only [be16, List.cons_append, List.nil_append, readEstimateBody, passOk_addrByte h, htop, hoff, hfar, hwd,
    addrByte_extract]
  rfl

theorem readOffer_bytes (num : Byte) (pass : Addr) (go : Tick) (slips : BitVec 2) (dish : Byte) (portions : Nat)
    (cs : List Contrib) (h : (Body.offer num pass go slips dish portions cs).wf = true) :
    readOffer (Body.offer num pass go slips dish portions cs).bytes = some (.offer num pass go slips dish portions cs) := by
  simp only [Body.wf, Bool.and_eq_true, decide_eq_true_eq] at h
  obtain ⟨⟨⟨⟨⟨⟨hpass, hdish⟩, hp1⟩, hp16⟩, hc1⟩, hc16⟩, hcs⟩ := h
  have hall : ∀ c ∈ cs, contribOk c = true := by
    simp only [contribsOk, Bool.and_eq_true] at hcs
    exact List.all_eq_true.mp hcs.1.1
  obtain ⟨hslips, hslips3⟩ := slips_read slips
  simp only [Body.bytes, be24, List.cons_append, List.nil_append, readOffer, readContribs_bytes hall, passOk_addrByte hpass,
    byteOf_toNat_of_lt (show portions < 256 by omega), byteOf_toNat_of_lt (show cs.length < 256 by omega), hslips,
    decide_eq_true hslips3, hdish, decide_eq_true hp1, decide_eq_true hp16, decide_eq_true hc1, decide_eq_true hc16, hcs,
    addrByte_extract, be24_append, BEq.rfl, Bool.and_self, if_true]

theorem readTicket_bytes (num : Byte) (serial : Serial) (call : Tick) (lead : BitVec 16) (gp : Bool) (go : Tick)
    (items : List Order) (h : (Body.ticket num serial call lead gp go items).wf = true) :
    readTicketBody (Body.ticket num serial call lead gp go items).bytes = some (.ticket num serial call lead gp go items) := by
  simp only [Body.wf, Bool.and_eq_true, decide_eq_true_eq] at h
  obtain ⟨⟨⟨hserial, hn1⟩, hn12⟩, hitems⟩ := h
  have hserial : (serial != 0#16) = true := hserial
  have hgp : (byteOf (bit gp 0)).getLsbD 0 = gp ∧ (byteOf (bit gp 0)).toNat ≤ 1 := by
    cases gp <;> exact ⟨by decide, by decide⟩
  simp only [Body.bytes, be16, be24, List.cons_append, List.nil_append, readTicketBody,
    readOrders_bytes (List.all_eq_true.mp hitems), byteOf_toNat_of_lt (show items.length < 256 by omega), be16_append,
    be24_append, hserial, decide_eq_true hgp.2, hgp.1, decide_eq_true hn1, decide_eq_true hn12, hitems, BEq.rfl, Bool.and_self,
    if_true]

/-- Every body within its ranges is read back from its bytes by its kind (R22, R23). -/
theorem readBody_bytes {b : Body} (h : b.wf = true) : readBody b.kind b.bytes = some b := by
  cases b with
  | ready num pass off far wd => exact readEstimateBody_bytes (fun n p o f w => .ready n p o f w) num off far wd h
  | slip num pass off far => exact readEstimateBody_bytes (fun n p o f _ => .slip n p o f) num off far false h
  | offer num pass go slips dish portions cs => exact readOffer_bytes num pass go slips dish portions cs h
  | void num serial =>
    have hs : (serial != 0#16) = true := h
    simp only [Body.kind, Body.bytes, be16, readBody, readVoid, List.cons_append, List.nil_append, be16_append, hs, if_true]
  | ticket num serial call lead gp go items => exact readTicket_bytes num serial call lead gp go items h
  | pickup num => rfl
  | mark => rfl

/-- The length of a body is one its kind allows (R22, R23). -/
theorem lengthOk_bytes {b : Body} (h : b.wf = true) : b.kind.lengthOk b.bytes.length = true ∧ b.bytes.length < 64 := by
  cases b with
  | offer num pass go slips dish portions cs =>
    simp only [Body.wf, Bool.and_eq_true, decide_eq_true_eq] at h
    obtain ⟨⟨⟨-, hc1⟩, hc16⟩, -⟩ := h
    have hlen : (Body.offer num pass go slips dish portions cs).bytes.length = 9 + 3 * cs.length := by
      have hcs : (cs.flatMap contribBytes).length = 3 * cs.length := by
        simp [List.length_flatMap, contribBytes, be16, mul_comm]
      simp [Body.bytes, be24, hcs]
      omega
    rw [hlen]
    simp only [Body.kind, Kind.lengthOk, Bool.and_eq_true, decide_eq_true_eq, beq_iff_eq]
    omega
  | ticket num serial call lead gp go items =>
    simp only [Body.wf, Bool.and_eq_true, decide_eq_true_eq] at h
    obtain ⟨⟨⟨-, hn1⟩, hn12⟩, -⟩ := h
    have hlen : (Body.ticket num serial call lead gp go items).bytes.length = 13 + 2 * items.length := by
      have hitems : (items.flatMap orderBytes).length = 2 * items.length := by
        simp [List.length_flatMap, orderBytes, mul_comm]
      simp [Body.bytes, be16, be24, hitems]
      omega
    rw [hlen]
    simp only [Body.kind, Kind.lengthOk, Bool.and_eq_true, decide_eq_true_eq, beq_iff_eq]
    omega
  | ready | slip | void | pickup | mark => exact ⟨rfl, by simp [Body.bytes, be16]⟩

/-- An own frame carries its body, its length and its check (R22 to R24, R38). -/
theorem Frame.raw_length {f : Frame} (h : f.body.wf = true) : f.raw.length.toNat = f.raw.body.length := by
  have hlt := (lengthOk_bytes h).2
  simp only [Frame.raw, BitVec.toNat_ofNat]
  omega

theorem framed_raw {f : Frame} (h : f.body.wf = true) (ha : addrOk f.sender = true)
    (hc : f.body.kind.classOk f.cls = true) : framed f.body.kind f.raw = some f.body := by
  have hlen := Frame.raw_length h
  have hkind : f.raw.kind.toNat = f.body.kind.code := by
    change (BitVec.ofNat 3 f.body.kind.code).toNat = _
    cases f.body.kind <;> rfl
  have hok : f.body.kind.lengthOk f.raw.length.toNat = true := by
    rw [hlen]
    exact (lengthOk_bytes h).1
  unfold framed
  rw [hkind, hok, hlen, show f.raw.sender = f.sender from rfl, show f.raw.cls = f.cls from rfl, ha, hc]
  rw [show f.raw.body = f.body.bytes from rfl, readBody_bytes h]
  simp

/-- The check covers nothing of itself (R24). -/
theorem crcError_raw (f : Frame) : crcError f.raw = false := by
  simp only [crcError, Frame.raw, coveredBits]
  exact bne_self_eq_false _

end Machine

/-- Settles O60: bodies by their bytes, fields by their slots, symbols and replies by the table. -/
theorem bodyRoundTrip : Obligations.BodyRoundTrip := by
  refine ⟨fun b hb => ⟨readBody_bytes hb, fun f hf ha hc => ?_⟩, fun f more hlen => ?_, fun sort a b => ?_,
    fun taker check => ⟨OfferReply.ofBits_taker taker check, OfferReply.ofBits_check taker check,
      OfferReply.ofBits_fault taker check⟩⟩
  · subst hf
    have hlen := Frame.raw_length hb
    refine ⟨framed_raw hb ha hc, crcError_raw f, ?_, ?_⟩
    · simpa using RawFrame.ofSlots_slots hlen []
    · simpa using RawFrame.slotsBroken_slots hlen []
  · refine ⟨f.slots_length, RawFrame.ofSlots_slots hlen more, RawFrame.slotsBroken_slots hlen more, fun i hi =>
      ⟨RawFrame.slotsBroken_of_faulty (List.getElem?_set_self hi) ?_, RawFrame.slotsBroken_take hlen hi, fun h9 =>
        RawFrame.slotsBroken_of_faulty (List.getElem?_set_self hi)
          (.inr ⟨h9, RawFrame.lt_fieldSlots_set hlen _ hi, rfl⟩)⟩⟩
    by_cases h9 : i < 9
    · exact .inl ⟨h9, rfl⟩
    · exact .inr ⟨Nat.not_lt.mp h9, RawFrame.lt_fieldSlots_set hlen _ hi, rfl⟩
  · refine ⟨Slot.read_symbol sort a, Slot.wired_symbol_ne, rfl, rfl, by cases sort <;> rfl, fun x hx => ?_⟩
    have hx : x = ⟨.dominant, .dominant⟩ := by simpa [LineAct.slots] using hx
    subst hx
    exact ⟨rfl, rfl⟩

end Sys2Proof
end

section
/-! An own frame broken off by an own bit error (O14). -/

namespace Sys2Proof.Machine

open Device

/-! ### The floor: lanes, tickets, handed records and the fire queue -/

/-- From `d` to `e` no lane, ticket, handed record or fire queue changes. -/
structure Device.FloorStands (d e : Device) : Prop where
  lu      : e.lu = d.lu
  tickets : e.ti.tickets = d.ti.tickets
  handed  : e.bp.handed = d.bp.handed
  fireQ   : e.bp.fireQ = d.bp.fireQ

namespace Device.FloorStands

variable {a b c d e : Device}

theorem refl (d : Device) : d.FloorStands d := ⟨rfl, rfl, rfl, rfl⟩

theorem trans (h : a.FloorStands b) (k : b.FloorStands c) : a.FloorStands c :=
  ⟨k.lu.trans h.lu, k.tickets.trans h.tickets, k.handed.trans h.handed, k.fireQ.trans h.fireQ⟩

theorem ofGraded (h : d.Graded e) : d.FloorStands e := ⟨h.lu, by rw [h.ti], h.handed, h.fireQ⟩

theorem placeHead (h : d.FloorStands e) : d.FloorStands e.placeHead := by
  obtain ⟨q, he, -⟩ := placeHead_eq e
  rw [he]
  exact ⟨h.lu, h.tickets, h.handed, h.fireQ⟩

theorem issueFails (e : IssueEntry) (d : Device) : d.FloorStands (d.issueFails e) := by
  cases hk : e.kind with
  | ticket => rw [issueFails_ticket d hk]; exact ⟨rfl, rfl, rfl, rfl⟩
  | void => rw [issueFails_void d hk]; exact ⟨rfl, rfl, rfl, rfl⟩
  | pickup => rw [issueFails_pickup d hk]; exact ⟨rfl, rfl, rfl, rfl⟩

/-- An issue frame broken off: the head fails once more, or leaves the queue (R163, R166). -/
theorem issueFate_brokenOff (short : Bool) (d : Device) : d.FloorStands (d.issueFate .brokenOff false short) := by
  have hdrop : d.FloorStands d.dropHead := ⟨rfl, rfl, rfl, rfl⟩
  cases hq : d.iu.queue with
  | nil =>
    have he : d.issueFate .brokenOff false short = d := by simp [Device.issueFate, hq]
    rw [he]
    exact refl d
  | cons e rest =>
    cases ho : e.orphan with
    | some b =>
      rw [issueFate_orphan .brokenOff false short hq ho]
      exact hdrop.placeHead
    | none =>
      by_cases hn : e.fails < 7
      · rw [issueFate_again (fate := .brokenOff) short hq ho nofun hn]
        exact placeHead ⟨rfl, rfl, rfl, rfl⟩
      · rw [issueFate_last (fate := .brokenOff) short hq ho nofun (Nat.not_lt.mp hn)]
        exact (issueFails e d).placeHead

/-- The placer of a frame that is broken off places its entry again, or counts an attempt or a failure (R39, R97, R105,
R148, R163). -/
theorem placerFate_brokenOff (f : InFlight) (short : Bool) (taker : Addr) (d : Device) :
    d.FloorStands (d.placerFate f .brokenOff false short taker) := by
  unfold Device.placerFate
  split
  · exact ofGraded (.ite (fun _ => .refl d) fun _ => .announce _ d)
  · exact ofGraded (.ite (fun _ => .refl d) fun _ => .slipEval _ d)
  · next bid _ =>
    obtain ⟨hlu, hti, -, hhanded, hfire, -⟩ := (Graded.refl d).offerFailed bid .brokenOff
    exact ⟨hlu, congrArg Ti.tickets hti, hhanded, hfire⟩
  · exact issueFate_brokenOff short d
  · exact refl d

end Device.FloorStands

/-! ### A frame broken off (R42, R43, R46) -/

/-- What an ON_LINE sender is left with when its frame is broken off by an error of its own: the counts of the fate, QUIET
where one of them stands at 128, the wires compared, and the floor as it was. -/
structure Device.BrokenOff (agree : Bool) (d e : Device) : Prop where
  counted : d.FateCounted .brokenOff e
  floor   : d.FloorStands e
  lif     : e.lif = d.lif.frameEnds d.sp.config.lock agree
  drove   : e.fe.drove = d.fe.drove
  station : e.fe.station = if 128 ≤ d.fe.tecCount + 8 ∨ 128 ≤ d.fe.recCount then .quiet else .onLine

theorem Device.endOwnFrame_brokenOff {d : Device} (agree : Bool) (hs : d.fe.station = .onLine) :
    d.BrokenOff agree (d.endOwnFrame .brokenOff false agree) := by
  obtain ⟨x, hx, hquiet⟩ : ∃ x, x = (((d.onFe (fun f =>
      { f with inFlight := none, idleCount := 0, tecCount := tecAfter .brokenOff false f.tecCount })).onSck
        (fun k => { k with capture := none })).onLif (Lif.frameEnds d.cfg.lock agree)) ∧
      d.endOwnFrame .brokenOff false agree = x.quietIfDue := ⟨_, rfl, rfl⟩
  have hstation : x.fe.station = .onLine := by rw [hx]; exact hs
  refine ⟨endOwnFrame_counted .brokenOff agree d, .ofGraded (.endOwnFrame .brokenOff agree d), ?_, ?_, ?_⟩
  · rw [hquiet, quietIfDue, apply_ite Device.lif, enterQuiet_eq, ite_self, hx]
    rfl
  · rw [hquiet, quietIfDue, apply_ite (fun y : Device => y.fe.drove), enterQuiet_eq, ite_self, hx]
    rfl
  · rw [hquiet, quietIfDue, apply_ite (fun y : Device => y.fe.station), enterQuiet_eq, hstation, hx]
    simp [tecAfter]

/-- A frame with no press deferred is reported broken off. -/
theorem Device.reportFate_brokenOff {d : Device} {f : InFlight} (short : Bool) (taker : Addr) (agree : Bool)
    (hdef : f.deferred = none) (hs : d.fe.station = .onLine) :
    d.BrokenOff agree (d.reportFate f .brokenOff false short taker agree) := by
  have hend := endOwnFrame_brokenOff agree hs
  have hkept := placerFate_kept f .brokenOff false short taker (d.endOwnFrame .brokenOff false agree)
  have heq : d.reportFate f .brokenOff false short taker agree =
      (d.endOwnFrame .brokenOff false agree).placerFate f .brokenOff false short taker := by
    rw [reportFate, hdef, takeDeferred]
  refine ⟨reportFate_counted f .brokenOff short taker agree d, ?_, ?_, ?_, ?_⟩ <;> rw [heq]
  · exact hend.floor.trans (.placerFate_brokenOff f short taker _)
  · exact hkept.lif.trans hend.lif
  · exact hkept.drove.trans hend.drove
  · exact hkept.station.trans hend.station

/-! ### OWN_BIT_ERROR -/

/-- Before the reply gap the station drives its reject break, and the frame is broken off (R42). -/
theorem Device.bitError_early {d : Device} {f : InFlight} (agree : Bool) (hf : d.fe.inFlight = some f)
    (hs : d.fe.station = .onLine) (hm : d.lif.mode ≠ .down) : d.bitError false agree =
      (d.onFe fun x => { x with drove := [d.driven .rejectBreak] }).reportFate f .brokenOff false false 63 agree := by
  have hmay : d.mayDrive .onLine = true := (mayDrive_iff .onLine d).mpr ⟨rfl, hs, hm⟩
  unfold bitError
  simp only [hf, hmay, if_true, Bool.false_eq_true, if_false]
  rfl

theorem Device.ownBitError_early {d : Device} {f : InFlight} (line : Followed) (hf : d.fe.inFlight = some f)
    (hs : d.fe.station = .onLine) (hm : d.lif.mode ≠ .down) : d.ownBitError false line =
      (d.ending line [d.driven .rejectBreak]).reportFate f .brokenOff false false 63 line.agree := by
  have hhear : d.hear line.toSilences = d.onLif (Lif.hear line.toSilences) := hear_eq _ (by simp [hs])
  rw [ownBitError, hf, Option.isSome_some, if_pos rfl, hhear]
  exact bitError_early line.agree hf hs hm

/-- In the reply gap the error is only held, for the accept slot (R42). -/
theorem Device.bitError_inGap {d : Device} {f : InFlight} (agree : Bool) (hf : d.fe.inFlight = some f) :
    d.bitError true agree = { d with fe := { d.fe with inFlight := some { f with gapError := true } } } := by
  simp [bitError, hf, onFe]

theorem Device.ownBitError_inGap {d : Device} {f : InFlight} (line : Followed) (hf : d.fe.inFlight = some f)
    (hs : d.fe.station ≠ .standby) : d.ownBitError true line = { d with
      lif := d.lif.hear line.toSilences
      fe := { d.fe with inFlight := some { f with gapError := true } } } := by
  rw [ownBitError, hf, Option.isSome_some, if_pos rfl, hear_eq _ hs]
  exact bitError_inGap (d := d.onLif _) line.agree hf

/-- The fate of a frame with an error held from its reply gap: the accept slot is driven dominant, and the fate is broken off
whatever the row reads (R42). -/
theorem Device.fateOf_gapError {d : Device} {f : InFlight} (fate : Fate) (rep : OfferReply) (short : SlotReading)
    (line : Followed) (hf : d.fe.inFlight = some f) (hg : f.gapError = true) (hs : d.fe.station = .onLine)
    (hm : d.lif.mode ≠ .down) : d.fateOf f.frame.body.kind fate rep short line =
      (d.ending line [d.driven .acceptDominant]).reportFate f .brokenOff false (short == .zero) rep.taker
        line.agree := by
  have hmay : d.mayDrive .onLine = true := (mayDrive_iff .onLine d).mpr ⟨rfl, hs, hm⟩
  have hhear : (d.quietLine.drive .acceptDominant).hear line.toSilences = d.ending line [d.driven .acceptDominant] :=
    hear_eq _ (show d.fe.station ≠ .standby by simp [hs])
  unfold fateOf
  simp only [hf, BEq.rfl, if_true, hg, Bool.true_or, hmay, Bool.and_true, hhear, InFlight.settles_eq]

theorem effect_fateCommand_gapError {d : Device} {f : InFlight} (fate : Fate) (rep : OfferReply) (short : Slot)
    (line : Followed) (hf : d.fe.inFlight = some f) (hg : f.gapError = true) (hs : d.fe.station = .onLine)
    (hm : d.lif.mode ≠ .down) : ∃ short' taker, (fateCommand f.frame.body.kind fate rep short line).effect d =
      (d.ending line [d.driven .acceptDominant]).reportFate f .brokenOff false short' taker line.agree := by
  rw [effect_fateCommand, fateOf_gapError fate _ _ line hf hg hs hm]
  exact ⟨_, _, rfl⟩

end Sys2Proof.Machine

namespace Sys2Proof

open Machine Machine.Device

/-- Settles O14: before the gap the frame is broken off at once; from the gap on, at its accept slot. -/
theorem ownBitErrorBreaks : Obligations.OwnBitErrorBreaks := by
  intro s f line hf hstand
  refine ⟨fun hdef hs hm hr => ?_, exec_of_effect (ownBitError_inGap line hf hstand),
    fun fate rep short hg hdef hs hm hr => ?_⟩
  · obtain ⟨⟨hflight, hcapture, htick, htec, hrec, hsetup, -⟩, ⟨hlu, htickets, hhanded, hfire⟩, hlif, hdrove,
      hstation⟩ :=
      reportFate_brokenOff (d := s.dev.ending line [s.dev.driven .rejectBreak]) false 63 line.agree hdef hs
    obtain ⟨hstrap, hconfig, hmenu, hreply⟩ := setup_eq_iff.mp hsetup
    have hquiet : (128 ≤ s.dev.fe.tecCount + 8 ∨ 128 ≤ s.dev.fe.recCount) ↔ 128 ≤ s.dev.fe.tecCount + 8 :=
      or_iff_left (Nat.not_le.mpr hr)
    exact ⟨_, exec_of_effect (ownBitError_early line hf hs hm), rfl, by simpa using hflight, htec, hrec, hlif, hdrove,
      hcapture, htick, hstation.trans (if_congr hquiet rfl rfl), hlu, htickets, hhanded, hfire, hstrap, hconfig, hmenu,
      hreply⟩
  · obtain ⟨short', taker, heff⟩ := effect_fateCommand_gapError fate rep short line hf hg hs hm
    obtain ⟨⟨hflight, hcapture, -, htec, -, -, -⟩, ⟨hlu, htickets, hhanded, hfire⟩, -, hdrove, -⟩ :=
      reportFate_brokenOff (d := s.dev.ending line [s.dev.driven .acceptDominant]) short' taker line.agree hdef hs
    exact ⟨_, exec_of_effect heff, rfl, by simpa using hflight, htec, hdrove, hcapture, hlu, htickets, hhanded, hfire⟩

end Sys2Proof
end

section
/-! The line modes (O31). -/

namespace Sys2Proof.Machine

open Device

/-! ### A wire fails in DUAL (R49, R54) -/

/-- The station after the failover itself, before what becomes of the frame in hand (R49). -/
def Device.failedOver (w : Wire) (other : Fin 2) (d : Device) : Device :=
  { d with
    lif :=
      { mode := if w = .a then .bOnly else .aOnly
        wireA := if w = .a then .failed else d.lif.wireA
        wireB := if w = .b then .failed else d.lif.wireB
        silenceA := if w = .a then 16 else other.val
        silenceB := if w = .b then 16 else other.val
        cleanCount := 0 }
    sp := d.sp.queueNotice d.sck.tick
      (.lineMode .dual (if w = .a then .bOnly else .aOnly) (if w = .a then .wireAFailed else .wireBFailed)) }

theorem Device.wireFails_eq {d : Device} (w : Wire) (x : Failure) (hs : d.fe.station ≠ .standby)
    (hm : d.lif.mode = .dual) : d.wireFails w x = (d.failedOver w x.other).failover x.inGap := by
  have hgate : (d.fe.station != .standby && d.lif.mode == .dual) = true := by simp [hs, hm]
  unfold wireFails
  rw [if_pos hgate]
  cases w <;> simp only [changeMode, failedOver, notify, onSp, onLif, hm] <;> rfl

/-- A receiver that is no possible taker finds its frame bad; a station with no frame has none to find bad (R54). -/
theorem Device.failover_receiver {d : Device} (inGap : Bool) (hf : d.fe.inFlight = none)
    (hx : ∀ r, d.fe.rx = some r → r.taker = .notTaker) : d.failover inGap =
      { d with fe := { d.fe with drove := [], rx := d.fe.rx.map fun r => { r with bad := true } } } := by
  have hkeep : d.quietLine.dropQualified = d.quietLine := by
    unfold dropQualified
    split
    · next r hr => simp [hx r hr]
    · rfl
  have hrx : d.failover inGap = d.quietLine.dropQualified.onRx fun x => { x with bad := true } := by
    simp only [failover, hf]
  rw [hrx, hkeep]
  rfl

theorem Device.wireFails_receiver {d : Device} (w : Wire) (x : Failure) (hs : d.fe.station ≠ .standby)
    (hm : d.lif.mode = .dual) (hf : d.fe.inFlight = none) (hx : ∀ r, d.fe.rx = some r → r.taker = .notTaker) :
    d.wireFails w x = { d.failedOver w x.other with
      fe := { d.fe with drove := [], rx := d.fe.rx.map fun r => { r with bad := true } } } :=
  (wireFails_eq w x hs hm).trans (failover_receiver (d := d.failedOver w x.other) x.inGap hf hx)

/-- The failover is an own bit error in that slot for the sender (R42, R54). -/
theorem Device.wireFails_sender {d : Device} {f : InFlight} {inGap : Bool} (w : Wire) (x : Failure)
    (hs : d.fe.station ≠ .standby) (hm : d.lif.mode = .dual) (hf : d.fe.inFlight = some f) (hgap : x.inGap = inGap) :
    d.wireFails w x = (d.failedOver w x.other).bitError inGap false := by
  have hf' : (d.failedOver w x.other).fe.inFlight = some f := hf
  rw [wireFails_eq w x hs hm, failover, hgap]
  simp only [hf']

/-! ### The return to DUAL (R50) -/

theorem LineMode.single_iff (m : LineMode) : m.single = true ↔ m = .aOnly ∨ m = .bOnly := by
  cases m <;> simp [LineMode.single]

theorem Device.lineReturn_eq {d : Device} (hs : d.fe.station ≠ .standby)
    (hm : d.lif.mode = .aOnly ∨ d.lif.mode = .bOnly) (hl : d.sp.config.lock = .auto) (hc : d.lif.cleanCount = 64) :
    d.lineReturn = { d with
      lif := { d.lif with mode := .dual, wireA := .good, wireB := .good, cleanCount := 0 }
      sp := d.sp.queueNotice d.sck.tick (.lineMode d.lif.mode .dual .lineReturn) } := by
  have hdue : d.returnDue = true := by simp [returnDue, hs, (LineMode.single_iff _).mpr hm, cfg, hl, hc]
  rw [lineReturn, if_pos hdue]
  rfl

/-! ### DOWN (R51, R55) -/

/-- The wires and the silence counts as DOWN finds them, by its cause (R51; log entries 10 and 17). -/
def Lif.downBy (cause : DownCause) (other : Fin 2) (l : Lif) : Lif :=
  if cause = .stuckDominant then { l with mode := .down, silenceA := 16, silenceB := 16 }
  else
    { l with
      mode := .down
      wireA := .failed
      wireB := .failed
      silenceA := if l.mode = .aOnly then 16 else other.val
      silenceB := if l.mode = .bOnly then 16 else other.val }

theorem Device.dropLine_of_no_frame {d : Device} (hf : d.fe.inFlight = none) (hx : d.fe.rx = none) :
    d.dropLine = d := by
  simp [dropLine, hf, hx]

theorem Device.lineDown_eq {d : Device} (cause : DownCause) (other : Fin 2) (hs : d.fe.station ≠ .standby)
    (hf : d.fe.inFlight = none) (hx : d.fe.rx = none) (hm : d.lif.mode ≠ .down)
    (hboth : cause = .bothFailed → d.lif.mode = .aOnly ∨ d.lif.mode = .bOnly) : d.lineDown cause other = { d with
      lif := d.lif.downBy cause other
      fe := { d.fe with drove := [], idleCount := 0 }
      wu := if d.fe.station = .listen then d.wu else d.wu.markPartial
      sp := d.sp.queueNotice d.sck.tick
        (.lineMode d.lif.mode .down (if cause = .stuckDominant then .stuckDominant else .bothFailed)) } := by
  have hmark : ∀ x : Device, x.fe.station = d.fe.station →
      (if x.fe.station.applies = true then x.markPartial else x) =
        { x with wu := if d.fe.station = .listen then x.wu else x.wu.markPartial } := fun x hx => by
    rw [hx, markPartial_eq]
    cases hst : d.fe.station with
    | standby => exact absurd hst hs
    | listen => rfl
    | onLine => rfl
    | quiet => rfl
  unfold lineDown
  extract_lets found good d1 d2 d3
  have hfound : found = true := by
    cases cause with
    | stuckDominant => simpa [found] using hm
    | bothFailed => exact (LineMode.single_iff _).mpr (hboth rfl)
  have h2 : d2 = { d1 with lif := d.lif.downBy cause other } := by
    cases cause with
    | stuckDominant => rfl
    | bothFailed =>
      rcases hboth rfl with h | h <;>
        simp [d2, d1, good, h, Lif.downBy, LineMode.goodWire, Lif.setSilence, onLif, changeMode]
  have h3 : d3 = (d2.quietLine).onFe (fun f => { f with idleCount := 0 }) := by
    refine dropLine_of_no_frame ?_ ?_
    · rw [h2]; exact hf
    · rw [h2]; exact hx
  rw [if_pos (by simp [hs, hfound]), hmark d3 (by rw [h3, h2]; rfl), h3, h2]
  cases cause <;> rfl

/-! ### A valid frame ends in DOWN (R52, R53) -/

theorem lockAdmits_iff (l : LineLock) (w : Wire) :
    lockAdmits l w = true ↔ l = .auto ∨ (l = .aOnly ∧ w = .a) ∨ (l = .bOnly ∧ w = .b) := by
  cases l <;> simp [lockAdmits]

theorem Device.frameSeen_eq {d : Device} (w : Wire) (beside : Fin 17) (hs : d.fe.station ≠ .standby)
    (hm : d.lif.mode = .down)
    (hl : d.sp.config.lock = .auto ∨ (d.sp.config.lock = .aOnly ∧ w = .a) ∨ (d.sp.config.lock = .bOnly ∧ w = .b)) :
    d.frameSeen ⟨w, beside⟩ = { d with
      lif := { d.lif with
        mode := if w = .a then .aOnly else .bOnly
        wireA := if w = .a then .good else d.lif.wireA
        wireB := if w = .b then .good else d.lif.wireB
        silenceA := if w = .a then 7 else beside.val
        silenceB := if w = .b then 7 else beside.val
        cleanCount := 0 }
      fe := { d.fe with idleCount := 7 }
      sp := d.sp.queueNotice d.sck.tick (.lineMode .down (if w = .a then .aOnly else .bOnly) .frameSeen) } := by
  have hgate : (d.fe.station != .standby && d.lif.mode == .down && lockAdmits d.cfg.lock w) = true := by
    simp [hs, hm, cfg, (lockAdmits_iff _ _).mpr hl]
  unfold frameSeen
  rw [if_pos hgate]
  cases w <;> simp only [changeMode, notify, onSp, onLif, onFe, hm] <;> rfl

end Sys2Proof.Machine

namespace Sys2Proof

open Machine Machine.Device

/-- Settles O31: the paths by the mode, a failover by the frame in hand, and the moves without one. -/
theorem lineModes : Obligations.LineModes := by
  refine ⟨⟨rfl, rfl, rfl, rfl, rfl, rfl, rfl, rfl, fun _ _ => rfl⟩, fun s w failure hs hm => ⟨fun r hf hr ht => ?_,
    fun f hf hgap => ?_, fun f hf hgap hdef hon => ?_⟩, fun s other hs hf hx => ⟨fun w inGap hm => ?_,
    fun hm hl hc => ?_, fun cause hm hboth => ?_, fun w beside hm hl => ?_⟩⟩
  · refine ⟨_, exec_of_effect (wireFails_receiver w failure hs hm hf fun x hrx => ?_), rfl, ?_⟩
    · exact Option.some.inj (hr.symm.trans hrx) ▸ ht
    · simp [hr]
  · exact ⟨_, exec_of_effect ((wireFails_sender w failure hs hm hf hgap).trans
      (bitError_inGap (d := s.dev.failedOver w failure.other) false hf)), rfl, rfl⟩
  · set e := s.dev.failedOver w failure.other with he
    have hup : e.lif.mode ≠ .down := by cases w <;> simp [he, failedOver]
    have heff := (wireFails_sender w failure hs hm hf hgap).trans (bitError_early (d := e) false hf hon hup)
    obtain ⟨⟨hflight, -, -, htec, -, -, -⟩, -, hlif, hdrove, -⟩ := reportFate_brokenOff
      (d := e.onFe fun x => { x with drove := [e.driven .rejectBreak] }) false 63 false hdef hon
    refine ⟨_, exec_of_effect heff, congrArg Lif.mode hlif, by simpa using hflight, htec, hdrove.trans ?_⟩
    cases w <;> rfl
  · refine exec_of_effect ((wireFails_receiver w _ hs hm hf fun r hr => absurd (hx.symm.trans hr) nofun).trans ?_)
    simp [failedOver, hx]
  · exact exec_of_effect (lineReturn_eq hs hm hl hc)
  · exact exec_of_effect (lineDown_eq cause other hs hf hx hm hboth)
  · exact exec_of_effect (frameSeen_eq w beside hs hm hl)

end Sys2Proof
end

section
/-! The setup and bell commands (O45). -/

namespace Sys2Proof.Machine

open Device

/-! ### CONFIGURE (R58, R59, R53, R126) -/

theorem countsOk_eq_false_iff (p : List Byte) : countsOk p = false ↔
    8 < param8 p 0 ∨ param8 p 14 = 0 ∨ 8 < param8 p 14 ∨ param8 p 14 ≤ param8 p 15 := by
  simp only [countsOk, Bool.and_eq_false_iff, decide_eq_false_iff_not]
  omega

/-- The clamped record, written out by the parameter bytes (R59, R170). -/
theorem configOf_eq (d : Device) (p : List Byte) : configOf d.isPass p =
    { laneCount := if d.strap.cls = 0 then 0 else param8 p 0
      laneKinds := Vector.ofFn (fun i => min 3 (param8 p (i.val + 1)))
      margin := param8 p 9
      threshold := max 8 (param8 p 10)
      callWindow := max 8 (min 240 (param8 p 11))
      dueWindow := max 8 (min 240 (param8 p 12))
      reportStep := max 1 (min 32 (param8 p 13))
      shareCount := param8 p 14
      shareIndex := param8 p 15
      lock := if param8 p 16 = 0 then .auto else if param8 p 16 = 1 then .aOnly else .bOnly
      waveGroup := (param p 17).getLsbD 0
      batchGroup := (param p 17).getLsbD 1
      ticketGroup := (param p 17).getLsbD 2
      linkGroup := (param p 17).getLsbD 3 } := by
  simp [configOf, isPass_iff, clamp, lockOf, Nat.add_comm]

/-- The mode set from the line lock, with a notice where it changes (R53). -/
theorem Device.applyLock_eq {d : Device} {m : LineMode} (cause : ModeCause)
    (hm : m = if d.sp.config.lock = .auto then .dual else if d.sp.config.lock = .aOnly then .aOnly else .bOnly) :
    d.applyLock cause = { d with
      lif := { d.lif with
        mode := m
        wireA := if d.sp.config.lock = .bOnly then .failed else .good
        wireB := if d.sp.config.lock = .aOnly then .failed else .good }
      sp := if d.lif.mode = m then d.sp else d.sp.queueNotice d.sck.tick (.lineMode d.lif.mode m cause) } := by
  have hl : lockMode d.sp.config.lock = m := by rw [hm]; cases d.sp.config.lock <;> rfl
  by_cases he : d.lif.mode = m
  · simp [applyLock, cfg, hl, he, onLif]
  · simp [applyLock, cfg, hl, he, onLif, changeMode, notify, onSp, now]

/-- The lanes that a configuration record does not configure at their reset values, their lamps lit (R126; log entry 49). -/
theorem Device.resetUnconfigured_eq (d : Device) : d.resetUnconfigured = { d with
    lu := { d.lu with lanes := Vector.ofFn (fun i => if i.val < d.sp.config.laneCount then d.lane i else
      { state := .idle, current := none, staged := none, reserved := false, calledSince := none,
        turnTick := none, dueTick := none, flashEnd := none, dueSince := none, overdue := .none, ack := false,
        lastPress := none, lamp := (d.lane i).lamp }) } } := by
  simp only [resetUnconfigured, onLu, configured_iff]
  rfl

theorem Device.configure_refused {d : Device} {p : List Byte} (hs : d.fe.station = .standby) (hl : p.length = 18)
    (hc : countsOk p = false) : d.configure p = d.answer .badValue [] := by
  simp [configure, hs, hl, hc]

theorem Device.configure_taken {d : Device} {p : List Byte} (hs : d.fe.station = .standby) (hl : p.length = 18)
    (hc : countsOk p = true) : d.configure p =
      (((d.onSp fun x => { x with config := configOf d.isPass p }).resetUnconfigured).applyLock .configure).answer .ok
        [] := by
  simp [configure, hs, hl, hc]

/-! ### LOAD_DISH (R60, R61) -/

theorem dishFrom_eq (p : List Byte) : dishFrom p =
    { code := param p 0
      kind := min 3 (param8 p 1)
      cook := max 8 (min 19200 (param16 p 2))
      turn := if max 8 (min 19200 (param16 p 2)) ≤ param16 p 4 then max 8 (min 19200 (param16 p 2)) - 1
        else param16 p 4
      hold := max 16 (min 4800 (param16 p 6))
      batch := max 1 (min 16 (param8 p 8)) } := rfl

/-- An entry takes the place of any of its code (R60). -/
theorem mem_loadEntry_iff (x y : Dish) (m : List Dish) :
    y ∈ loadEntry x m ↔ y = x ∨ (y ∈ m ∧ y.code ≠ x.code) := by
  rw [loadEntry, (insertBy_perm _ _ _).mem_iff, List.mem_cons, List.mem_filter, bne_iff_ne]

theorem Device.dish?_isNone_iff (d : Device) (code : Byte) :
    (d.dish? code).isNone = true ↔ ∀ y ∈ d.sp.menu, y.code ≠ code := by
  simp [dish?]

/-- LOAD_DISH by its checks: a dish the setup has no lane for, a full menu, the entry loaded (R61). -/
theorem Device.loadDish_cases {d : Device} {p : List Byte} (hs : d.fe.station = .standby) (hl : p.length = 9) :
    d.loadDish p =
      if param p 0 = 0 ∨ (d.strap.cls ≠ 0 ∧
          ∀ i : Fin 8, i.val < d.sp.config.laneCount → d.laneKind i ≠ param8 p 1) then d.answer .badValue []
      else if 64 ≤ d.sp.menu.length ∧ ∀ y ∈ d.sp.menu, y.code ≠ param p 0 then d.answer .full []
      else (d.onSp fun x => { x with menu := loadEntry (dishFrom p) x.menu }).answer .ok [] := by
  have hkind : (!d.isPass && !d.kindConfigured (param8 p 1)) = true ↔ d.strap.cls ≠ 0 ∧
      ∀ i : Fin 8, i.val < d.sp.config.laneCount → d.laneKind i ≠ param8 p 1 := by
    rw [Bool.and_eq_true, Bool.not_eq_true', Bool.not_eq_true', ← Bool.not_eq_true, ← Bool.not_eq_true, isPass_iff,
      kindConfigured_iff]
    push Not
    rfl
  have hfull : ((d.dish? (param p 0)).isNone && decide (Config.menuCapacity ≤ d.sp.menu.length)) = true ↔
      64 ≤ d.sp.menu.length ∧ ∀ y ∈ d.sp.menu, y.code ≠ param p 0 := by
    rw [Bool.and_eq_true, dish?_isNone_iff, decide_eq_true_iff, and_comm]
    rfl
  unfold loadDish
  simp only [hs, hl, hkind, hfull, beq_iff_eq, ite_or]
  rfl

/-! ### The bell commands (R140, R141) -/

theorem Lane.acknowledge_eq (l : Lane) : l.acknowledge = { l with ack := l.ack || l.overdue != .none } := by
  unfold Lane.acknowledge
  split
  · next h => rw [bne, h, Bool.not_true, Bool.or_false]
  · next h => rw [bne, Bool.not_eq_true _ |>.mp h, Bool.not_false, Bool.or_true]

/-- Every lane's cause acknowledged and the ring ended: nothing rings (R139, R140). -/
theorem Device.bellActive_silenced {d : Device} (hr : d.lu.ring = false)
    (hl : ∀ i : Fin 8, ∃ l : Lane, d.lane i = l.acknowledge) : d.bellActive = false := by
  rw [← Bool.not_eq_true, bellActive_iff]
  rintro (h | ⟨i, -, hover, hack⟩)
  · exact absurd (hr.symm.trans h) nofun
  · obtain ⟨l, hi⟩ := hl i
    rw [hi, Lane.acknowledge_eq] at hover hack
    simp_all

end Sys2Proof.Machine

namespace Sys2Proof

open Machine Machine.Device

/-- Settles O45: each command by its checks, and what it leaves where it is taken. -/
theorem hostCommands : Obligations.HostCommands := by
  intro s p
  refine ⟨fun c m hs hl => ?_, fun x hs hl => ?_, fun hs => ?_, ?_, ?_⟩
  · split
    · next hbad => exact exec_of_effect (configure_refused hs hl ((countsOk_eq_false_iff p).mpr hbad))
    · next hok =>
      intro hc hm
      have hcounts : countsOk p = true := by simpa [← countsOk_eq_false_iff] using hok
      rw [← configOf_eq] at hc
      subst hc
      refine exec_of_effect ((configure_taken hs hl hcounts).trans ?_)
      rw [resetUnconfigured_eq, applyLock_eq .configure hm]
      rfl
  · have hload := loadDish_cases hs hl
    split
    · next hbad => exact exec_of_effect (hload.trans (if_pos hbad))
    · next hok =>
      rw [if_neg hok] at hload
      split
      · next hfull => exact exec_of_effect (hload.trans (if_pos hfull))
      · next hroom =>
        intro hx
        rw [← dishFrom_eq] at hx
        subst hx
        exact ⟨_, exec_of_effect (hload.trans (if_neg hroom)), rfl, rfl, fun y => mem_loadEntry_iff _ y _,
          pairwise_loadEntry _⟩
  · exact exec_of_effect (show s.dev.clearMenu [] = _ by simp [clearMenu, hs]; rfl)
  · refine ⟨_, exec_eq (.silence []) s, rfl, ?_, rfl, fun i => ?_⟩
    · exact bellActive_silenced rfl fun i => ⟨s.dev.lane i, by simp [lane, Instr.effect, silence]⟩
    · rw [← Lane.acknowledge_eq]
      simp [lane, Instr.effect, silence]
  · exact ⟨_, exec_eq (.ring []) s, rfl, (bellActive_iff _).mpr (.inl rfl), rfl⟩

end Sys2Proof
end

section
/-! What RESET leaves (O3, O4). -/

namespace Sys2Proof.Machine

open Device

namespace Device

variable (addr : Addr) (cls : ClassNo)

theorem reset_lane (i : Fin 8) : (reset addr cls).lane i = Lane.reset := by
  fin_cases i <;> rfl

/-! ### The invariants of a part without records -/

theorem reset_clockOk : (reset addr cls).clockOk := by
  simp [clockOk, reset, Sck.reset, Fe.reset]

theorem reset_idsOk : (reset addr cls).idsOk := by
  simp [idsOk, reset]

theorem reset_floorOk : (reset addr cls).floorOk := by
  simp [floorOk, reset_lane, Lane.reset]
  simp [reset, Fe.reset]

theorem reset_fireOk : (reset addr cls).fireOk := by
  simp [fireOk, queued, reset]

theorem reset_filedOk : (reset addr cls).filedOk := by
  simp [filedOk, reset, Fe.reset]

theorem reset_accountsOk : (reset addr cls).accountsOk := by
  simp [accountsOk, reset]

end Device

end Sys2Proof.Machine

namespace Sys2Proof

open Machine Machine.Device

/-- Settles O3: the reset values, block by block. -/
theorem resetLeaves : Obligations.ResetLeaves := by
  intro addr cls s
  refine ⟨_, exec_eq (.reset addr cls) s, rfl, rfl, rfl, rfl, rfl, rfl, rfl, rfl, rfl, rfl, rfl, rfl, rfl, rfl, rfl, rfl,
    rfl, rfl, rfl, rfl, rfl, rfl, reset_lane addr cls, rfl, rfl, rfl, rfl, rfl, rfl, rfl⟩

/-- Settles O4: power-on is a RESET with the pins open, and each invariant holds of a part without records. -/
theorem resetHoldsInvariants : Obligations.ResetHoldsInvariants := by
  intro addr cls s t ht
  obtain ⟨a, c, hd⟩ : ∃ a c, t.dev = Device.reset a c := by
    rcases ht with rfl | h
    · exact ⟨63, 15, rfl⟩
    · rw [exec_eq_next.mp h]
      exact ⟨addr, cls, rfl⟩
  obtain ⟨hlink, hrest⟩ := (inLine_iff _).mp (InLine.reset a c)
  have hroomy : (Device.reset a c).Roomy True True := Roomy.reset a c
  rw [hd]
  exact ⟨reset_clockOk a c, reset_idsOk a c, hlink, hrest, hroomy.port trivial, hroomy.room trivial, reset_floorOk a c,
    reset_fireOk a c, reset_filedOk a c, reset_accountsOk a c⟩

end Sys2Proof
end

section
/-! The floor: what lanes, batches and the fire queue say of each other, and the moves on it (O54). -/

namespace Sys2Proof.Machine

/-- The place a batch record gives its batch: waiting in the fire queue, staged on a lane, current on a lane in a state, or
holding; a record whose state, marker and lane do not go together gives none of these (R110, R116, R119, R128). -/
inductive Seat where
  | waiting
  | staged (i : Fin 8)
  | onLane (st : LaneState) (i : Fin 8)
  | holding
  | stray

/-- A batch on the heat. -/
def Seat.hot : Seat → Prop
  | .onLane .cooking _ => True
  | .onLane .due _ => True
  | _ => False

/-- What a lane record says of its batches. -/
structure Post where
  state    : LaneState
  current  : Option Nat
  staged   : Option Nat
  reserved : Bool

/-- The batches by identity, the lanes, the fire queue, the batch whose OFFER is in flight and not to be refused, and the
lane reserved for a won OFFER. -/
structure Floor where
  bids  : List Nat
  next  : Nat
  seat  : Nat → Option Seat
  post  : Fin 8 → Post
  fire  : List Nat
  offer : Option Nat
  won   : Option (Fin 8)

namespace Floor

/-- The laws of `floorOk` and of the identities of the batches, with some batches known not to be on the heat. -/
structure Sound (cold : Nat → Prop) (f : Floor) : Prop where
  nodup   : f.bids.Nodup
  below   : ∀ bid ∈ f.bids, bid < f.next
  seated  : ∀ bid, bid ∈ f.bids ↔ (f.seat bid).isSome
  lawful  : ∀ bid, f.seat bid ≠ some .stray
  current : ∀ bid st i, f.seat bid = some (.onLane st i) ↔ (f.post i).current = some bid ∧ (f.post i).state = st
  staged  : ∀ bid i, f.seat bid = some (.staged i) ↔ (f.post i).staged = some bid
  due     : ∀ i bid, (f.post i).staged = some bid → (f.post i).state = .due
  idle    : ∀ i, (f.post i).state = .idle ↔ (f.post i).current = none
  once    : f.fire.Nodup
  queue   : ∀ bid, bid ∈ f.fire ↔ f.seat bid = some .waiting
  offered : ∀ bid s, f.offer = some bid → f.seat bid = some s → s = .waiting ∨ ∃ i, s = .onLane .called i
  won     : ∀ i, f.won = some i → (f.post i).state = .idle ∧ (f.post i).reserved = true
  cool    : ∀ bid s, cold bid → f.seat bid = some s → ¬s.hot

/-! ### The moves -/

/-- A batch takes a place, or leaves the pool. -/
def setSeat (bid : Nat) (s : Option Seat) (f : Floor) : Floor := { f with seat := Function.update f.seat bid s }

/-- A lane changes. -/
def setPost (i : Fin 8) (p : Post) (f : Floor) : Floor := { f with post := Function.update f.post i p }

/-- A batch leaves the fire queue. -/
def unqueue (bid : Nat) (f : Floor) : Floor := { f with fire := f.fire.filter (fun x => x != bid) }

/-- A batch leaves the pool. -/
def drop (bid : Nat) (f : Floor) : Floor :=
  { (f.setSeat bid none).unqueue bid with bids := f.bids.filter (fun x => x != bid) }

/-- A batch enters the pool. -/
def enter (s : Seat) (f : Floor) : Floor :=
  { f.setSeat f.next (some s) with bids := f.bids ++ [f.next], next := f.next + 1 }

/-- A batch called to a lane (R127). -/
def call (i : Fin 8) (bid : Nat) (f : Floor) : Floor :=
  ((f.unqueue bid).setSeat bid (some (.onLane .called i))).setPost i ⟨.called, some bid, none, false⟩

/-- A lane made IDLE (R127, R133). -/
def release (i : Fin 8) (f : Floor) : Floor := f.setPost i ⟨.idle, none, none, (f.post i).reserved⟩

theorem drop_release (bid : Nat) (s : Option Seat) (i : Fin 8) (f : Floor) :
    ((f.setSeat bid s).release i).drop bid = (f.drop bid).release i := by
  simp [drop, release, setSeat, setPost, unqueue]

theorem drop_call {bid next : Nat} (hn : bid ≠ next) (i : Fin 8) (f : Floor) :
    (f.call i next).drop bid = (f.drop bid).call i next := by
  simp [drop, call, setSeat, setPost, unqueue, Function.update_comm hn, List.filter_filter, Bool.and_comm]

namespace Sound

variable {C : Nat → Prop} {f : Floor} {bid : Nat} {i : Fin 8}

/-- The identity to be given next names no batch. -/
theorem seat_next (h : f.Sound C) : f.seat f.next = none := by
  have hn : f.next ∉ f.bids := fun hm => Nat.lt_irrefl _ (h.below _ hm)
  simpa [h.seated] using hn

theorem call (h : f.Sound C) (hi : (f.post i).state = .idle) (hw : f.won ≠ some i) (hs : f.seat bid = some .waiting) :
    (f.call i bid).Sound C := by
  obtain ⟨nodup, below, seated, lawful, current, staged, due, idle, once, queue, offered, won, cool⟩ := h
  constructor <;> simp only [Floor.call, setSeat, setPost, unqueue, Function.update_apply] at *
  case once => exact once.filter _
  all_goals grind [Seat.hot]

/-- A batch adopted is called at once to the lane its winner reserved (R152). -/
theorem adopt (h : f.Sound C) (hi : (f.post i).state = .idle) (hw : f.won ≠ some i) :
    ((f.enter .waiting).call i f.next).Sound C := by
  have hn := h.seat_next
  obtain ⟨nodup, below, seated, lawful, current, staged, due, idle, once, queue, offered, won, cool⟩ := h
  constructor <;> simp only [enter, Floor.call, setSeat, setPost, unqueue, Function.update_apply] at *
  case once => exact once.filter _
  all_goals grind [Seat.hot]

/-- A batch that enters the pool takes its place in the fire queue (R114, R116). -/
theorem join (h : f.Sound C) {q : List Nat} (hq : q.Perm (f.next :: f.fire)) : ({ f.enter .waiting with fire := q }).Sound C := by
  have hn := h.seat_next
  obtain ⟨nodup, below, seated, lawful, current, staged, due, idle, once, queue, offered, won, cool⟩ := h
  have hm : ∀ x, x ∈ q ↔ x = f.next ∨ x ∈ f.fire := fun x => by rw [hq.mem_iff, List.mem_cons]
  constructor <;> simp only [enter, setSeat, Function.update_apply] at *
  case once => exact hq.nodup_iff.mpr (List.nodup_cons.mpr ⟨by grind, once⟩)
  all_goals grind [Seat.hot]

/-- A spoiled batch takes its place in the fire queue again (R122). -/
theorem rejoin (h : f.Sound C) {q : List Nat} (hs : f.seat bid = some .holding) (hq : q.Perm (bid :: f.fire)) :
    ({ f.setSeat bid (some .waiting) with fire := q }).Sound C := by
  obtain ⟨nodup, below, seated, lawful, current, staged, due, idle, once, queue, offered, won, cool⟩ := h
  have hm : ∀ x, x ∈ q ↔ x = bid ∨ x ∈ f.fire := fun x => by rw [hq.mem_iff, List.mem_cons]
  constructor <;> simp only [setSeat, Function.update_apply] at *
  case once => exact hq.nodup_iff.mpr (List.nodup_cons.mpr ⟨by grind, once⟩)
  all_goals grind [Seat.hot]

/-- The fire queue put in another order. -/
theorem reorder (h : f.Sound C) {q : List Nat} (hq : q.Perm f.fire) : ({ f with fire := q }).Sound C := by
  obtain ⟨nodup, below, seated, lawful, current, staged, due, idle, once, queue, offered, won, cool⟩ := h
  exact ⟨nodup, below, seated, lawful, current, staged, due, idle, hq.nodup_iff.mpr once,
    fun x => hq.mem_iff.trans (queue x), offered, won, cool⟩

/-- A batch in the fire queue or holding leaves the pool. -/
theorem dropLoose (h : f.Sound C) (hs : f.seat bid = some .waiting ∨ f.seat bid = some .holding) : (f.drop bid).Sound C := by
  obtain ⟨nodup, below, seated, lawful, current, staged, due, idle, once, queue, offered, won, cool⟩ := h
  constructor <;> simp only [drop, setSeat, unqueue, Function.update_apply] at *
  case nodup => exact nodup.filter _
  case once => exact once.filter _
  all_goals grind [Seat.hot]

/-- A staged batch leaves the pool and its lane. -/
theorem dropStaged (h : f.Sound C) (hs : f.seat bid = some (.staged i)) :
    ((f.drop bid).setPost i { f.post i with staged := none }).Sound C := by
  obtain ⟨nodup, below, seated, lawful, current, staged, due, idle, once, queue, offered, won, cool⟩ := h
  constructor <;> simp only [drop, setSeat, setPost, unqueue, Function.update_apply] at *
  case nodup => exact nodup.filter _
  case once => exact once.filter _
  all_goals grind [Seat.hot]

/-- A CALLED batch leaves the pool, its call withdrawn. -/
theorem dropCalled (h : f.Sound C) (hs : f.seat bid = some (.onLane .called i)) : ((f.drop bid).release i).Sound C := by
  obtain ⟨nodup, below, seated, lawful, current, staged, due, idle, once, queue, offered, won, cool⟩ := h
  constructor <;> simp only [drop, Floor.release, setSeat, setPost, unqueue, Function.update_apply] at *
  case nodup => exact nodup.filter _
  case once => exact once.filter _
  all_goals grind [Seat.hot]

/-- A start press; an OFFER of the batch is to be refused (R131, R148). -/
theorem start (h : f.Sound C) (hs : f.seat bid = some (.onLane .called i)) (hc : ¬C bid) :
    ({ (f.setSeat bid (some (.onLane .cooking i))).setPost i { f.post i with state := .cooking } with
      offer := if f.offer = some bid then none else f.offer }).Sound C := by
  obtain ⟨nodup, below, seated, lawful, current, staged, due, idle, once, queue, offered, won, cool⟩ := h
  constructor <;> simp only [setSeat, setPost, Function.update_apply] at *
  case once => exact once
  all_goals grind [Seat.hot]

/-- A batch and its lane become DUE (R134). -/
theorem becomeDue (h : f.Sound C) (hs : f.seat bid = some (.onLane .cooking i)) :
    ((f.setSeat bid (some (.onLane .due i))).setPost i { f.post i with state := .due }).Sound C := by
  obtain ⟨nodup, below, seated, lawful, current, staged, due, idle, once, queue, offered, won, cool⟩ := h
  constructor <;> simp only [setSeat, setPost, Function.update_apply] at *
  case once => exact once
  all_goals grind [Seat.hot]

/-- A batch staged on a DUE lane with none staged (R119). -/
theorem stage (h : f.Sound C) (hs : f.seat bid = some .waiting) (hi : (f.post i).state = .due)
    (hn : (f.post i).staged = none) (ho : f.offer ≠ some bid) :
    (((f.unqueue bid).setSeat bid (some (.staged i))).setPost i { f.post i with staged := some bid }).Sound C := by
  obtain ⟨nodup, below, seated, lawful, current, staged, due, idle, once, queue, offered, won, cool⟩ := h
  constructor <;> simp only [setSeat, setPost, unqueue, Function.update_apply] at *
  case once => exact once.filter _
  all_goals grind [Seat.hot]

/-- A hot batch becomes HOLDING and its lane IDLE (R132, R133). -/
theorem done (h : f.Sound C) (hs : ∃ st, f.seat bid = some (.onLane st i)) (hn : (f.post i).staged = none)
    (hh : (f.post i).state ≠ .called) :
    ((f.setSeat bid (some .holding)).release i).Sound C := by
  obtain ⟨st, hs⟩ := hs
  obtain ⟨nodup, below, seated, lawful, current, staged, due, idle, once, queue, offered, won, cool⟩ := h
  constructor <;> simp only [Floor.release, setSeat, setPost, Function.update_apply] at *
  case once => exact once
  all_goals grind [Seat.hot]

/-- A DUE batch becomes HOLDING and the staged one is called (R132, R133). -/
theorem doneNext (h : f.Sound C) {next : Nat} (hs : ∃ st, f.seat bid = some (.onLane st i))
    (hn : (f.post i).staged = some next) : (((f.setSeat bid (some .holding)).release i).call i next).Sound C := by
  obtain ⟨st, hs⟩ := hs
  have hdue := h.due i next hn
  have hnext := (h.staged next i).mpr hn
  obtain ⟨nodup, below, seated, lawful, current, staged, due, idle, once, queue, offered, won, cool⟩ := h
  constructor <;> simp only [Floor.release, Floor.call, setSeat, setPost, unqueue, Function.update_apply] at *
  case once => exact once.filter _
  all_goals grind [Seat.hot]

/-- A hot batch leaves the pool, and its lane is IDLE (R85, R133). -/
theorem gone (h : f.Sound C) (hs : ∃ st, f.seat bid = some (.onLane st i)) (hn : (f.post i).staged = none)
    (hh : (f.post i).state ≠ .called) : ((f.drop bid).release i).Sound C := by
  rw [← drop_release bid (some .holding)]
  exact (h.done hs hn hh).dropLoose (.inr (Function.update_self ..))

/-- A DUE batch leaves the pool, and the staged one is called (R85, R133). -/
theorem goneNext (h : f.Sound C) {next : Nat} (hs : ∃ st, f.seat bid = some (.onLane st i))
    (hn : (f.post i).staged = some next) : (((f.drop bid).release i).call i next).Sound C := by
  have hne : bid ≠ next := by
    rintro rfl
    obtain ⟨st, hs⟩ := hs
    simp [(h.staged _ _).mpr hn] at hs
  rw [← drop_release bid (some .holding), ← drop_call hne]
  refine (h.doneNext hs hn).dropLoose (.inr ?_)
  simp [Floor.call, release, setSeat, setPost, unqueue, hne]

/-- What the Link has in hand changed: the OFFER in flight, and the lane reserved. -/
theorem link (h : f.Sound C) {offer : Option Nat} {won : Option (Fin 8)}
    (ho : ∀ bid s, offer = some bid → f.seat bid = some s → s = .waiting ∨ ∃ i, s = .onLane .called i)
    (hw : ∀ i, won = some i → (f.post i).state = .idle ∧ (f.post i).reserved = true) :
    ({ f with offer := offer, won := won }).Sound C :=
  ⟨h.nodup, h.below, h.seated, h.lawful, h.current, h.staged, h.due, h.idle, h.once, h.queue, ho, hw, h.cool⟩

/-- A reservation cleared, with no frame in reception that it stands for (R128). -/
theorem clearReserved (h : f.Sound C) (hw : f.won = none) : (f.setPost i { f.post i with reserved := false }).Sound C := by
  obtain ⟨nodup, below, seated, lawful, current, staged, due, idle, once, queue, offered, won, cool⟩ := h
  constructor <;> simp only [setPost, Function.update_apply] at *
  case once => exact once
  all_goals grind [Seat.hot]

/-- An IDLE lane reserved for a won OFFER (R151). -/
theorem reserve (h : f.Sound C) (hi : (f.post i).state = .idle) :
    ({ f.setPost i { f.post i with reserved := true } with won := some i }).Sound C := by
  obtain ⟨nodup, below, seated, lawful, current, staged, due, idle, once, queue, offered, won, cool⟩ := h
  constructor <;> simp only [setPost, Function.update_apply] at *
  case once => exact once
  all_goals grind [Seat.hot]

end Sound
end Floor
end Sys2Proof.Machine
end

section
/-! The floor of the part, what its records say of it, and `floorOk` as its laws (O54). -/

namespace Sys2Proof.Machine

open Device

/-! ### Reading the records -/

/-- The place of a batch by its record. -/
def Batch.seat (b : Batch) : Seat :=
  match b.state, b.staged, b.lane with
  | .formed, false, none => .waiting
  | .formed, true, some i => .staged i
  | .called, false, some i => .onLane .called i
  | .cooking, false, some i => .onLane .cooking i
  | .due, false, some i => .onLane .due i
  | .holding, false, none => .holding
  | _, _, _ => .stray

theorem Batch.seat_eq_waiting {b : Batch} : b.seat = .waiting ↔ b.state = .formed ∧ b.staged = false ∧ b.lane = none := by
  unfold seat
  split <;> simp_all

theorem Batch.seat_eq_staged {b : Batch} {i : Fin 8} :
    b.seat = .staged i ↔ b.state = .formed ∧ b.staged = true ∧ b.lane = some i := by
  unfold seat
  split <;> simp_all

theorem Batch.seat_eq_holding {b : Batch} : b.seat = .holding ↔ b.state = .holding ∧ b.staged = false ∧ b.lane = none := by
  unfold seat
  split <;> simp_all

/-- A batch current on a lane is in the lane's state, unstaged. -/
theorem Batch.seat_eq_onLane {b : Batch} {st : LaneState} {i : Fin 8} : b.seat = .onLane st i ↔
    (st = .called ∧ b.state = .called ∨ st = .cooking ∧ b.state = .cooking ∨ st = .due ∧ b.state = .due) ∧
      b.staged = false ∧ b.lane = some i := by
  unfold seat
  cases st <;> split <;> simp_all

theorem Batch.seat_hot {b : Batch} (h : b.seat.hot) : b.state = .cooking ∨ b.state = .due := by
  unfold seat Seat.hot at h
  grind

/-- What a lane record says of its batches. -/
def Lane.post (l : Lane) : Post := ⟨l.state, l.current, l.staged, l.reserved⟩

/-- The batch of an own OFFER that is not to be refused (R148). -/
def InFlight.offering (x : InFlight) : Option Nat :=
  match x.entry with
  | .offer bid => if x.rejectReq then none else some bid
  | _ => none

theorem InFlight.offering_eq_some {x : InFlight} {bid : Nat} :
    x.offering = some bid ↔ x.entry = .offer bid ∧ x.rejectReq = false := by
  unfold offering
  split
  · next b he => cases hr : x.rejectReq <;> simp [he]
  · next hn => exact ⟨nofun, fun ⟨he, _⟩ => (hn _ he).elim⟩

/-- The lane a winner has reserved (R151). -/
def TakerState.lane : TakerState → Option (Fin 8)
  | .won l => l
  | .qualified => none
  | .notTaker => none

theorem TakerState.lane_eq_some {t : TakerState} {i : Fin 8} : t.lane = some i ↔ t = .won (some i) := by
  cases t <;> simp [lane]

/-- The floor of the part. -/
def Device.floor (d : Device) : Floor where
  bids  := d.bp.batches.map (·.bid)
  next  := d.bp.nextBid
  seat bid := (d.batch? bid).map Batch.seat
  post i := (d.lane i).post
  fire  := d.bp.fireQ
  offer := d.fe.inFlight.bind InFlight.offering
  won   := d.fe.rx.bind (fun r => r.taker.lane)

theorem Device.bid_of_batch? {d : Device} {bid : Nat} {b : Batch} (h : d.batch? bid = some b) : b.bid = bid := by
  simpa using List.find?_some h

theorem Device.mem_of_batch? {d : Device} {bid : Nat} {b : Batch} (h : d.batch? bid = some b) : b ∈ d.bp.batches :=
  List.mem_of_find?_eq_some h

theorem Device.seat_of_batch? {d : Device} {bid : Nat} {b : Batch} (h : d.batch? bid = some b) :
    d.floor.seat bid = some b.seat := by simp [floor, h]

theorem Device.seat_eq_some {d : Device} {bid : Nat} {s : Seat} :
    d.floor.seat bid = some s ↔ ∃ b, d.batch? bid = some b ∧ b.seat = s := Option.map_eq_some_iff

theorem Device.batch?_eq_some {d : Device} (h : d.bp.Numbered) {bid : Nat} {b : Batch} :
    d.batch? bid = some b ↔ b ∈ d.bp.batches ∧ b.bid = bid :=
  ⟨fun hb => ⟨mem_of_batch? hb, bid_of_batch? hb⟩, fun ⟨hm, hb⟩ => hb ▸ batch?_of_mem h hm⟩

/-- A batch in the fire queue waits there by its identity. -/
theorem Device.of_mem_queued {d : Device} {b : Batch} (h : b ∈ d.queued) : b.bid ∈ d.bp.fireQ ∧ d.batch? b.bid = some b := by
  obtain ⟨bid, hm, hb⟩ := List.mem_filterMap.mp h
  rw [bid_of_batch? hb]
  exact ⟨hm, hb⟩

/-- The batches that stand in the fire queue are the ones it names, in its order. -/
theorem Device.queued_bids {d : Device} (h : ∀ bid ∈ d.bp.fireQ, (d.batch? bid).isSome) :
    d.queued.map (·.bid) = d.bp.fireQ := by
  unfold queued
  generalize d.bp.fireQ = q at h
  induction q with
  | nil => rfl
  | cons bid q ih =>
    obtain ⟨b, hb⟩ := Option.isSome_iff_exists.mp (h bid (.head _))
    rw [List.filterMap_cons_some hb, List.map_cons, bid_of_batch? hb, ih fun x hx => h x (.tail _ hx)]

/-! ### The laws -/

theorem Floor.Sound.numbered {C : Nat → Prop} {d : Device} (h : d.floor.Sound C) : d.bp.Numbered :=
  ⟨h.nodup, fun b hb => h.below b.bid (List.mem_map_of_mem hb)⟩

theorem Floor.Sound.seat_of_mem {C : Nat → Prop} {d : Device} (h : d.floor.Sound C) {b : Batch} (hb : b ∈ d.bp.batches) :
    d.floor.seat b.bid = some b.seat := seat_of_batch? (batch?_of_mem h.numbered hb)

/-- A batch's place is one of those that `floorOk` allows. -/
theorem Device.floorOk_seat {d : Device} (h : d.floorOk) {b : Batch} (hb : b ∈ d.bp.batches) : b.seat ≠ .stray := by
  obtain ⟨-, -, -, hlane, hstaged, hwaits, hholds, -⟩ := h
  have h1 := hlane b hb
  have h2 := hstaged b hb
  have h3 := hwaits b hb
  have h4 := hholds b hb
  unfold Batch.seat
  cases hs : b.state <;> cases hm : b.staged <;> grind

/-- Of the laws of the identities and of `floorOk`, those of the floor. -/
theorem Device.sound_of_floorOk {d : Device} (hn : d.bp.Numbered) (h : d.floorOk) : d.floor.Sound (fun _ => False) := by
  have hseat : ∀ {bid s}, d.floor.seat bid = some s ↔ ∃ b ∈ d.bp.batches, b.bid = bid ∧ b.seat = s := fun {bid s} => by
    simp only [seat_eq_some, batch?_eq_some hn, and_assoc]
  have hlawful := fun b hb => floorOk_seat h (b := b) hb
  obtain ⟨hcurrent, hstaged, hidle, honLane, hisStaged, hwaits, hholds, honce, hqueue, hoffer, hwon⟩ := h
  refine ⟨hn.1, fun bid hb => ?_, fun bid => ?_, fun bid hs => ?_, fun bid st i => ?_, fun bid i => ?_,
    fun i bid hs => (hstaged i bid hs).1, hidle, honce, fun bid => ?_, fun bid s ho hs => ?_, fun i hw => ?_, nofun⟩
  · obtain ⟨b, hm, rfl⟩ := List.mem_map.mp hb
    exact hn.2 b hm
  · simp only [Option.isSome_iff_exists, hseat]
    simp [floor]
  · obtain ⟨b, hb, -, hs⟩ := hseat.mp hs
    exact hlawful b hb hs
  · simp only [hseat, Batch.seat_eq_onLane]
    constructor
    · rintro ⟨b, hb, rfl, hst, -, hl⟩
      obtain ⟨-, j, hj, hc⟩ := honLane b hb (by tauto)
      obtain rfl : i = j := by simpa [hl] using hj
      obtain ⟨c, hcm, hcb, -, hag⟩ := hcurrent i b.bid hc
      obtain rfl : c = b := List.inj_on_of_nodup_map hn.1 hcm hb hcb
      refine ⟨hc, ?_⟩
      change (d.lane i).state = st
      grind
    · rintro ⟨hc, rfl⟩
      obtain ⟨b, hb, hbid, hl, hag⟩ := hcurrent i bid hc
      exact ⟨b, hb, hbid, hag, (honLane b hb (by tauto)).1, hl⟩
  · simp only [hseat, Batch.seat_eq_staged]
    constructor
    · rintro ⟨b, hb, rfl, hst, hm, hl⟩
      obtain ⟨j, hj, hs⟩ := hisStaged b hb hst hm
      obtain rfl : i = j := by simpa [hl] using hj
      exact hs
    · intro hs
      obtain ⟨-, b, hb, hbid, hl, hst, hm⟩ := hstaged i bid hs
      exact ⟨b, hb, hbid, hst, hm, hl⟩
  · simp only [hseat, Batch.seat_eq_waiting]
    refine (hqueue bid).trans ⟨?_, ?_⟩
    · rintro ⟨b, hb, hbid, hst, hm⟩
      exact ⟨b, hb, hbid, hst, hm, hwaits b hb hst hm⟩
    · rintro ⟨b, hb, hbid, hst, hm, -⟩
      exact ⟨b, hb, hbid, hst, hm⟩
  · obtain ⟨b, hb, hbid, rfl⟩ := hseat.mp hs
    obtain ⟨x, hx, ho⟩ := Option.bind_eq_some_iff.mp ho
    obtain ⟨he, hr⟩ := InFlight.offering_eq_some.mp ho
    obtain ⟨hst | hst, hm⟩ := ((hoffer x bid hx he).resolve_left (by simp [hr])) b hb hbid
    · exact .inl (Batch.seat_eq_waiting.mpr ⟨hst, hm, hwaits b hb hst hm⟩)
    · obtain ⟨-, i, hl, -⟩ := honLane b hb (.inl hst)
      exact .inr ⟨i, Batch.seat_eq_onLane.mpr ⟨.inl ⟨rfl, hst⟩, hm, hl⟩⟩
  · obtain ⟨r, hr, ht⟩ := Option.bind_eq_some_iff.mp hw
    exact hwon r i hr (TakerState.lane_eq_some.mp ht)

/-- The laws of the floor are those of `floorOk`. -/
theorem Floor.Sound.floorOk {C : Nat → Prop} {d : Device} (h : d.floor.Sound C) : d.floorOk := by
  have hseat : ∀ {bid s}, d.floor.seat bid = some s ↔ ∃ b ∈ d.bp.batches, b.bid = bid ∧ b.seat = s := fun {bid s} => by
    simp only [seat_eq_some, batch?_eq_some h.numbered, and_assoc]
  have hlawful : ∀ b ∈ d.bp.batches, b.seat ≠ .stray := fun b hb hs =>
    h.lawful b.bid (hseat.mpr ⟨b, hb, rfl, hs⟩)
  have honLane : ∀ b ∈ d.bp.batches, b.state = .called ∨ b.state = .cooking ∨ b.state = .due →
      ∃ st i, b.seat = .onLane st i := fun b hb hst => by
    have := hlawful b hb
    unfold Batch.seat at this ⊢
    grind
  refine ⟨fun i bid hc => ?_, fun i bid hs => ?_, h.idle, fun b hb hst => ?_, fun b hb hst hm => ?_, fun b hb hst hm => ?_,
    fun b hb hst => ?_, h.once, fun bid => ?_, fun x bid hx he => ?_, fun r i hr ht => ?_⟩
  · obtain ⟨b, hb, hbid, hs⟩ := hseat.mp ((h.current bid _ i).mpr ⟨hc, rfl⟩)
    obtain ⟨hst, -, hl⟩ := Batch.seat_eq_onLane.mp hs
    exact ⟨b, hb, hbid, hl, hst⟩
  · obtain ⟨b, hb, hbid, hs'⟩ := hseat.mp ((h.staged bid i).mpr hs)
    obtain ⟨hst, hm, hl⟩ := Batch.seat_eq_staged.mp hs'
    exact ⟨h.due i bid hs, b, hb, hbid, hl, hst, hm⟩
  · obtain ⟨st, i, hs⟩ := honLane b hb hst
    obtain ⟨-, hm, hl⟩ := Batch.seat_eq_onLane.mp hs
    exact ⟨hm, i, hl, ((h.current b.bid st i).mp (hseat.mpr ⟨b, hb, rfl, hs⟩)).1⟩
  · have := hlawful b hb
    obtain ⟨i, hs⟩ : ∃ i, b.seat = .staged i := by
      unfold Batch.seat at this ⊢
      grind
    exact ⟨i, (Batch.seat_eq_staged.mp hs).2.2, (h.staged b.bid i).mp (hseat.mpr ⟨b, hb, rfl, hs⟩)⟩
  · have := hlawful b hb
    unfold Batch.seat at this
    grind
  · have := hlawful b hb
    unfold Batch.seat at this
    grind
  · refine (h.queue bid).trans (hseat.trans ⟨?_, ?_⟩)
    · rintro ⟨b, hb, hbid, hs⟩
      obtain ⟨hst, hm, -⟩ := Batch.seat_eq_waiting.mp hs
      exact ⟨b, hb, hbid, hst, hm⟩
    · rintro ⟨b, hb, hbid, hst, hm⟩
      refine ⟨b, hb, hbid, ?_⟩
      have := hlawful b hb
      unfold Batch.seat at this ⊢
      grind
  · cases hr : x.rejectReq with
    | true => exact .inl rfl
    | false =>
      refine .inr fun b hb hbid => ?_
      have ho : d.floor.offer = some bid := Option.bind_eq_some_iff.mpr ⟨x, hx, InFlight.offering_eq_some.mpr ⟨he, hr⟩⟩
      rcases h.offered bid b.seat ho (hseat.mpr ⟨b, hb, hbid, rfl⟩) with hs | ⟨i, hs⟩
      · obtain ⟨hst, hm, -⟩ := Batch.seat_eq_waiting.mp hs
        exact ⟨.inl hst, hm⟩
      · obtain ⟨hst, hm, -⟩ := Batch.seat_eq_onLane.mp hs
        exact ⟨.inr (by simpa using hst), hm⟩
  · exact h.won i (Option.bind_eq_some_iff.mpr ⟨r, hr, TakerState.lane_eq_some.mpr ht⟩)

end Sys2Proof.Machine
end

section
/-! What leaves the floor as it is (O54). -/

namespace Sys2Proof.Machine

open Device

namespace Device

/-! ### One part of the device changed -/

@[simp] theorem floor_onSck (f : Sck → Sck) (d : Device) : (d.onSck f).floor = d.floor := rfl
@[simp] theorem floor_onLif (f : Lif → Lif) (d : Device) : (d.onLif f).floor = d.floor := rfl
@[simp] theorem floor_onTi (f : Ti → Ti) (d : Device) : (d.onTi f).floor = d.floor := rfl
@[simp] theorem floor_onIu (f : Iu → Iu) (d : Device) : (d.onIu f).floor = d.floor := rfl
@[simp] theorem floor_onSp (f : Sp → Sp) (d : Device) : (d.onSp f).floor = d.floor := rfl
@[simp] theorem floor_onWave (r : Nat) (f : Wave → Wave) (d : Device) : (d.onWave r f).floor = d.floor := rfl
@[simp] theorem floor_notify (n : NoticeBody) (d : Device) : (d.notify n).floor = d.floor := rfl
@[simp] theorem floor_answer (st : Status) (l : List Byte) (d : Device) : (d.answer st l).floor = d.floor := rfl
@[simp] theorem floor_withdraw (e : TxEntry) (d : Device) : (d.withdraw e).floor = d.floor := rfl

/-- The Frame Engine changed: what it has in hand is all the floor sees. -/
theorem floor_onFe (f : Fe → Fe) (d : Device) : (d.onFe f).floor = { d.floor with
    offer := (f d.fe).inFlight.bind InFlight.offering
    won := (f d.fe).rx.bind (fun r => r.taker.lane) } := rfl

theorem floor_onFe_same {f : Fe → Fe} {d : Device} (hf : (f d.fe).inFlight = d.fe.inFlight) (hx : (f d.fe).rx = d.fe.rx) :
    (d.onFe f).floor = d.floor := by
  rw [floor_onFe, hf, hx]
  rfl

theorem floor_onLane (i : Fin 8) (f : Lane → Lane) (d : Device) :
    (d.onLane i f).floor = d.floor.setPost i (f (d.lane i)).post := by
  have hpost : (d.onLane i f).floor.post = Function.update d.floor.post i (f (d.lane i)).post := by
    funext j
    have hl : (d.onLane i f).floor.post j = ((d.onLane i f).lane j).post := rfl
    rw [hl, onLane_lane, Function.update_apply]
    by_cases h : i = j
    · subst h
      simp
    · simp [h, Ne.symm h, floor]
  change { d.floor with post := (d.onLane i f).floor.post } = _
  rw [hpost]
  rfl

/-- A lane changed in what the floor does not see. -/
theorem floor_onLane_same {f : Lane → Lane} (hf : ∀ l, (f l).post = l.post) (i : Fin 8) (d : Device) :
    (d.onLane i f).floor = d.floor := by
  rw [floor_onLane, hf]
  change { d.floor with post := Function.update d.floor.post i (d.floor.post i) } = _
  rw [Function.update_eq_self]

/-- Every lane changed in what the floor does not see. -/
theorem floor_onLu_same {f : Lu → Lu} {d : Device} (hf : ∀ i, ((d.onLu f).lane i).post = (d.lane i).post) :
    (d.onLu f).floor = d.floor := by
  change { d.floor with post := fun i => ((d.onLu f).lane i).post } = _
  rw [funext hf]
  rfl

/-- The batch records changed in place. -/
theorem batch?_onBp {f : Bp → Bp} {g : Batch → Batch} {d : Device} (hf : (f d.bp).batches = d.bp.batches.map g)
    (hg : ∀ b ∈ d.bp.batches, (g b).bid = b.bid) (bid : Nat) : (d.onBp f).batch? bid = (d.batch? bid).map g := by
  unfold batch?
  rw [onBp_bp, hf]
  generalize d.bp.batches = l at hg
  induction l with
  | nil => rfl
  | cons b l ih =>
    have ih := ih fun x hx => hg x (.tail _ hx)
    by_cases hb : b.bid = bid <;> simp [hg b (.head _), hb, ih]

/-- The batch records changed in what the floor does not see. -/
theorem floor_onBp_map {f : Bp → Bp} {g : Batch → Batch} {d : Device} (hf : (f d.bp).batches = d.bp.batches.map g)
    (hn : (f d.bp).nextBid = d.bp.nextBid) (hq : (f d.bp).fireQ = d.bp.fireQ)
    (hg : ∀ b ∈ d.bp.batches, (g b).bid = b.bid ∧ (g b).seat = b.seat) : (d.onBp f).floor = d.floor := by
  have hseat : ∀ bid, ((d.onBp f).batch? bid).map Batch.seat = (d.batch? bid).map Batch.seat := fun bid => by
    rw [batch?_onBp hf fun b hb => (hg b hb).1, Option.map_map]
    refine Option.map_congr fun b hb => ?_
    exact (hg b (mem_of_batch? hb)).2
  have hbids : (f d.bp).batches.map (fun b : Batch => b.bid) = d.bp.batches.map (·.bid) := by
    rw [hf, List.map_map]
    exact List.map_congr_left fun b hb => (hg b hb).1
  change { d.floor with
    bids := (f d.bp).batches.map (fun b : Batch => b.bid), next := (f d.bp).nextBid, fire := (f d.bp).fireQ
    seat := fun bid => ((d.onBp f).batch? bid).map Batch.seat } = _
  rw [hbids, hn, hq, funext hseat]
  rfl

theorem floor_onBatch_same {f : Batch → Batch} (hf : ∀ b, (f b).bid = b.bid ∧ (f b).seat = b.seat) (bid : Nat) (d : Device) :
    (d.onBatch bid f).floor = d.floor := by
  refine floor_onBp_map rfl rfl rfl fun b _ => ?_
  split
  · exact hf b
  · exact ⟨rfl, rfl⟩

theorem floor_ite {c : Prop} [Decidable c] {d x y : Device} (hx : x.floor = d.floor) (hy : y.floor = d.floor) :
    (if c then x else y).floor = d.floor := by
  split
  · exact hx
  · exact hy

theorem floor_foldl {α : Type} {f : Device → α → Device} (hf : ∀ (x : Device) (a : α), (f x a).floor = x.floor) (l : List α)
    (d : Device) : (l.foldl f d).floor = d.floor := foldl_keeps Device.floor f hf l d

/-! ### Records, and the evaluation (R83, R86, R90) -/

@[simp] theorem floor_lowerDemand (r : Nat) (c : Byte) (n : Nat) (d : Device) : (d.lowerDemand r c n).floor = d.floor := rfl
@[simp] theorem floor_takeOff (b : Batch) (d : Device) : (d.takeOff b).floor = d.floor := floor_ite rfl rfl
@[simp] theorem floor_withdrawWave (r : Nat) (d : Device) : (d.withdrawWave r).floor = d.floor := rfl
@[simp] theorem floor_retire (r : Nat) (d : Device) : (d.retire r).floor = d.floor := rfl
@[simp] theorem floor_makeAnonymous (r : Nat) (d : Device) : (d.makeAnonymous r).floor = d.floor := rfl
@[simp] theorem floor_recompute (d : Device) : d.recompute.floor = d.floor := rfl
@[simp] theorem floor_addWave (w : Wave) (d : Device) : (d.addWave w).floor = d.floor := rfl
@[simp] theorem floor_dropHanded (r : Nat) (d : Device) : (d.dropHanded r).floor = d.floor := rfl
@[simp] theorem floor_dropUnbatched (r : Nat) (d : Device) : (d.dropUnbatched r).floor = d.floor := rfl
@[simp] theorem floor_enterAway (w : Wave) (d : Device) : (d.enterAway w).floor = d.floor := rfl
@[simp] theorem floor_enterSettling (r : Nat) (d : Device) : (d.enterSettling r).floor = d.floor := rfl
@[simp] theorem floor_markPartial (d : Device) : d.markPartial.floor = d.floor := rfl
@[simp] theorem floor_dropHead (d : Device) : d.dropHead.floor = d.floor := rfl
@[simp] theorem floor_onIssue (s : Serial) (f : Issue → Issue) (d : Device) : (d.onIssue s f).floor = d.floor := rfl
@[simp] theorem floor_fileTicket (a : Addr) (s : Serial) (r : Nat) (k : List Order) (d : Device) :
    (d.fileTicket a s r k).floor = d.floor := rfl

@[simp] theorem floor_testNoWork (r : Nat) (d : Device) : (d.testNoWork r).floor = d.floor := by
  unfold testNoWork
  split
  · exact floor_ite rfl rfl
  · rfl

@[simp] theorem floor_retireIfRunOut (r : Nat) (d : Device) : (d.retireIfRunOut r).floor = d.floor := by
  unfold retireIfRunOut
  split
  · exact floor_ite rfl rfl
  · rfl

@[simp] theorem floor_announce (r : Nat) (d : Device) : (d.announce r).floor = d.floor := by
  unfold announce
  split
  · exact floor_ite rfl rfl
  · rfl

@[simp] theorem floor_slipEval (r : Nat) (d : Device) : (d.slipEval r).floor = d.floor := by
  unfold slipEval
  split
  · exact floor_ite rfl rfl
  · rfl

@[simp] theorem floor_markLate (b : Nat) (d : Device) : (d.markLate b).floor = d.floor := by
  unfold markLate
  split
  · rfl
  · split
    · rfl
    · exact floor_ite (floor_onBatch_same (fun _ => by exact ⟨rfl, rfl⟩) _ _) rfl

@[simp] theorem floor_offerEval (d : Device) : d.offerEval.floor = d.floor := by
  unfold offerEval
  refine floor_ite ?_ rfl
  split
  · exact floor_onBatch_same (fun _ => by exact ⟨rfl, rfl⟩) _ _
  · rfl

@[simp] theorem floor_evaluate (d : Device) : d.evaluate.floor = d.floor := by
  unfold evaluate
  refine floor_ite rfl ?_
  extract_lets d1 refs d2 d3 d4
  calc d4.offerEval.floor = d4.floor := floor_offerEval d4
    _ = d3.floor := floor_foldl (fun x b => floor_markLate b x) _ _
    _ = d2.floor := floor_foldl (fun x r => floor_slipEval r x) _ _
    _ = d1.floor := floor_foldl (fun x r => floor_announce r x) _ _
    _ = d.floor := rfl

@[simp] theorem floor_evaluateSince (b d : Device) : (d.evaluateSince b).floor = d.floor :=
  floor_ite rfl (floor_evaluate d)

/-! ### Waves and tickets (spec/05, spec/06) -/

@[simp] theorem floor_enterSet (w : Wave) (d : Device) : (d.enterSet w).floor = d.floor := by
  unfold enterSet
  (repeat' split) <;> rfl

@[simp] theorem floor_applyReady (a : Addr) (st : Tick) (n : Byte) (p : Addr) (off : BitVec 15) (far wd : Bool) (d : Device) :
    (d.applyReady a st n p off far wd).floor = d.floor := by
  unfold applyReady
  split <;> rfl

@[simp] theorem floor_slipNotices (w : Wave) (a : Addr) (t : Tick) (far : Bool) (d : Device) :
    (d.slipNotices w a t far).floor = d.floor := floor_ite (floor_ite rfl rfl) rfl

@[simp] theorem floor_catchUp (r : Nat) (d : Device) : (d.catchUp r).floor = d.floor := by
  unfold catchUp
  extract_lets d1
  have h1 : d1.floor = d.floor := by
    simp only [d1]
    split
    · exact floor_ite rfl rfl
    · rfl
  split
  · exact floor_ite ((floor_enterSet _ d1).trans h1) h1
  · exact h1

@[simp] theorem floor_createFromTicket (a : Addr) (st : Tick) (n : Byte) (c : Tick) (l : BitVec 16) (gp : Bool) (g : Tick)
    (d : Device) : (d.createFromTicket a st n c l gp g).floor = d.floor := floor_ite rfl (floor_catchUp _ _)

@[simp] theorem floor_dropTicket (t : Ticket) (d : Device) : (d.dropTicket t).floor = d.floor :=
  floor_foldl (fun x (it : Item) => floor_lowerDemand t.wave it.dish it.unb x) _ _

/-! ### Formation that fills (R82, R113) -/

@[simp] theorem floor_fillBatch (r : Nat) (c : Byte) (b : Batch) (d : Device) : (d.fillBatch r c b).floor = d.floor :=
  (floor_onBatch_same (fun _ => by exact ⟨rfl, rfl⟩) _ _)

@[simp] theorem floor_fillFormed (r : Nat) (c : Byte) (d : Device) : (d.fillFormed r c).floor = d.floor :=
  floor_foldl (fun x b => floor_fillBatch r c b x) _ _

/-- A claim changes the contributors of a batch alone. -/
theorem claimItem_place {serial : Serial} {n : Nat} {bs : List Batch} {x : Batch} (hx : x ∈ (claimItem serial n bs).2) :
    ∃ y ∈ bs, x.bid = y.bid ∧ x.seat = y.seat := by
  induction bs generalizing n with
  | nil => cases hx
  | cons b bs ih =>
    unfold claimItem at hx
    rcases List.mem_cons.mp hx with rfl | hx
    · refine ⟨b, .head _, ?_⟩
      (repeat' split) <;> exact ⟨rfl, rfl⟩
    · obtain ⟨y, hy, h⟩ := ih hx
      exact ⟨y, .tail _ hy, h⟩

theorem claimItems_place {serial : Serial} {dish : Byte} {its : List Item} {bs : List Batch} {x : Batch}
    (hx : x ∈ (claimItems serial dish its bs).2) : ∃ y ∈ bs, x.bid = y.bid ∧ x.seat = y.seat := by
  induction its generalizing bs with
  | nil => exact ⟨x, hx, rfl, rfl⟩
  | cons it its ih =>
    unfold claimItems at hx
    split at hx
    · obtain ⟨y, hy, h1, h2⟩ := ih hx
      obtain ⟨z, hz, h3, h4⟩ := claimItem_place hy
      exact ⟨z, hz, h1.trans h3, h2.trans h4⟩
    · exact ih hx

theorem claimTickets_place {ref : Nat} {dish : Byte} {ts : List Ticket} {bs : List Batch} {x : Batch}
    (hx : x ∈ (claimTickets ref dish ts bs).2) : ∃ y ∈ bs, x.bid = y.bid ∧ x.seat = y.seat := by
  induction ts generalizing bs with
  | nil => exact ⟨x, hx, rfl, rfl⟩
  | cons t ts ih =>
    unfold claimTickets at hx
    split at hx
    · obtain ⟨y, hy, h1, h2⟩ := ih hx
      obtain ⟨z, hz, h3, h4⟩ := claimItems_place hy
      exact ⟨z, hz, h1.trans h3, h2.trans h4⟩
    · exact ih hx

/-- Batches put back by identity keep their places, where no two share one. -/
theorem floor_claimSpares {d : Device} (h : d.bp.Numbered) (r : Nat) (c : Byte) : (d.claimSpares r c).floor = d.floor := by
  unfold claimSpares
  extract_lets x moved
  rw [floor_lowerDemand]
  refine (floor_onBp_map (d := d.onTi _) rfl rfl rfl fun b hb => ?_).trans rfl
  cases hf : List.find? (fun y => y.bid == b.bid) x.2 with
  | none => exact ⟨by rw [Option.getD_none], by rw [Option.getD_none]⟩
  | some y =>
    rw [Option.getD_some]
    have hyb : y.bid = b.bid := by simpa using List.find?_some hf
    obtain ⟨z, hz, hzb, hzs⟩ := claimTickets_place (List.mem_of_find?_eq_some hf)
    have hz : z ∈ d.bp.batches := (List.mem_filter.mp (List.mem_filter.mp ((mem_sortBy _ _ _).mp hz)).1).1
    obtain rfl : z = b := List.inj_on_of_nodup_map h.1 hz hb (hzb.symm.trans hyb)
    exact ⟨hyb, hzs⟩

/-! ### Lanes and outputs (spec/08) -/

@[simp] theorem floor_setOutputs (d : Device) : d.setOutputs.floor = d.floor := by
  refine floor_onLu_same fun i => ?_
  change (d.setOutputs.lane i).post = _
  rw [setOutputs_lane]
  rfl

@[simp] theorem floor_turnCompare (i : Fin 8) (d : Device) : (d.turnCompare i).floor = d.floor :=
  floor_ite (floor_onLane_same (fun _ => by rfl) i d) rfl

@[simp] theorem floor_flashEnd (i : Fin 8) (d : Device) : (d.flashEnd i).floor = d.floor :=
  floor_ite (floor_onLane_same (fun _ => by rfl) i d) rfl

@[simp] theorem floor_callOverdue (i : Fin 8) (d : Device) : (d.callOverdue i).floor = d.floor :=
  floor_ite (floor_onLane_same (fun _ => by rfl) i d) rfl

@[simp] theorem floor_dueOverdue (i : Fin 8) (d : Device) : (d.dueOverdue i).floor = d.floor :=
  floor_ite (floor_onLane_same (fun _ => by rfl) i d) rfl

/-! ### Time (spec/01, spec/04) -/

@[simp] theorem floor_changeMode (m : LineMode) (c : ModeCause) (d : Device) : (d.changeMode m c).floor = d.floor := rfl
@[simp] theorem floor_quietLine (d : Device) : d.quietLine.floor = d.floor := rfl
@[simp] theorem floor_drive (a : LineAct) (d : Device) : (d.drive a).floor = d.floor := rfl
@[simp] theorem floor_hear (q : Silences) (d : Device) : (d.hear q).floor = d.floor := floor_ite rfl rfl
@[simp] theorem floor_lineReturn (d : Device) : d.lineReturn.floor = d.floor := floor_ite rfl rfl
@[simp] theorem floor_markPlace (d : Device) : d.markPlace.floor = d.floor := floor_ite rfl rfl
@[simp] theorem floor_placeHead (d : Device) : d.placeHead.floor = d.floor := floor_ite rfl rfl
@[simp] theorem floor_listenEnd (d : Device) : d.listenEnd.floor = d.floor := floor_ite rfl rfl
@[simp] theorem floor_quietEnd (d : Device) : d.quietEnd.floor = d.floor := floor_ite rfl rfl

@[simp] theorem floor_passSlots (n : Nat) (d : Device) : (d.passSlots n).floor = d.floor := by
  unfold passSlots
  dsimp only
  (repeat' split) <;> rfl

@[simp] theorem floor_letPass (n : Nat) (d : Device) : (d.letPass n).floor = d.floor := by
  simp [letPass]

theorem floor_periodAction (d : Device) : d.periodAction.floor = d.floor := by
  unfold periodAction meanStep forwardOrCorrect
  (repeat' split) <;> rfl

@[simp] theorem floor_periodEnd (d : Device) : d.periodEnd.floor = d.floor :=
  floor_ite ((floor_setOutputs _).trans (floor_periodAction d)) rfl

@[simp] theorem floor_tickBegun (d : Device) : d.tickBegun.floor = d.floor := by
  have hfe : (d.onFe Fe.countTick).floor = d.floor := by
    refine floor_onFe_same ?_ ?_ <;> unfold Fe.countTick <;> split <;> rfl
  exact (floor_setOutputs _).trans hfe

/-! ### QUIET, and frames of the station's own (spec/02, spec/10) -/

@[simp] theorem floor_withdrawOffer (d : Device) : d.withdrawOffer.floor = d.floor := by
  refine (floor_withdraw _ _).trans (floor_foldl (fun x e => ?_) _ _)
  split
  · exact floor_onBatch_same (fun _ => by exact ⟨rfl, rfl⟩) _ _
  · rfl

@[simp] theorem floor_quietIfDue (d : Device) : d.quietIfDue.floor = d.floor :=
  floor_ite (floor_withdrawOffer _) rfl

@[simp] theorem floor_countHeard (bad : Bool) (d : Device) : (d.countHeard bad).floor = d.floor := by
  unfold countHeard
  split
  · exact floor_quietIfDue _
  · exact floor_ite rfl rfl
  · rfl
  · rfl

@[simp] theorem floor_takeTime (raw : RawFrame) (d : Device) : (d.takeTime raw).floor = d.floor :=
  floor_ite (floor_ite rfl rfl) rfl

@[simp] theorem floor_driveShort (r : Rx) (d : Device) : (d.driveShort r).floor = d.floor := by
  unfold driveShort
  split
  · exact floor_ite rfl rfl
  · rfl

@[simp] theorem floor_dropAsked (es : List TxEntry) (d : Device) : (d.dropAsked es).floor = d.floor :=
  floor_foldl (fun x e => by split <;> simp) _ _

@[simp] theorem floor_issueAccepted (e : IssueEntry) (short : Bool) (d : Device) :
    (d.issueAccepted e short).floor = d.floor := by
  unfold issueAccepted
  (repeat' split) <;> rfl

@[simp] theorem floor_issueFails (e : IssueEntry) (d : Device) : (d.issueFails e).floor = d.floor := by
  cases hk : e.kind with
  | ticket => rw [issueFails_ticket d hk]; rfl
  | void => rw [issueFails_void d hk]; rfl
  | pickup => rw [issueFails_pickup d hk]; rfl

@[simp] theorem floor_issueFate (fate : Fate) (byDown short : Bool) (d : Device) :
    (d.issueFate fate byDown short).floor = d.floor := by
  unfold issueFate
  (repeat' split) <;> simp

@[simp] theorem floor_readyFate (r : Nat) (f : Frame) (n : Byte) (p : Addr) (off : BitVec 15) (far wd : Bool) (x : Fate)
    (d : Device) : (d.readyFate r f n p off far wd x).floor = d.floor := by
  unfold readyFate
  extract_lets stamp d1
  have h1 : d1.floor = d.floor := by
    simp only [d1]
    split
    · exact floor_applyReady _ _ _ _ _ _ _ _
    · rfl
  exact floor_ite h1 ((floor_announce r d1).trans h1)

@[simp] theorem floor_passAbandon (r : Nat) (d : Device) : (d.passAbandon r).floor = d.floor := by
  unfold passAbandon
  split
  · extract_lets num n d1 d2 gone
    have h2 : d2.floor = d.floor := by rfl
    exact floor_ite ((floor_placeHead _).trans (floor_ite h2 h2)) rfl
  · rfl

/-! ### The station port (spec/04, spec/10, spec/11) -/

@[simp] theorem floor_applyLock (c : ModeCause) (d : Device) : (d.applyLock c).floor = d.floor :=
  floor_ite (x := d) (y := d.changeMode _ c) rfl rfl

@[simp] theorem floor_appendIssue (e : IssueEntry) (d : Device) : (d.appendIssue e).floor = d.floor := floor_placeHead _

@[simp] theorem floor_enterListen (d : Device) : d.enterListen.floor = d.floor := floor_applyLock _ _

@[simp] theorem floor_recallTicket (s : Serial) (d : Device) : (d.recallTicket s).floor = d.floor :=
  (floor_placeHead _).trans (floor_ite rfl rfl)

end Device

end Sys2Proof.Machine
end

section
/-! The floor's laws through the work: calls, formation, batches freed, presses, waves and tickets (O54). -/

namespace Sys2Proof.Machine

open Device

/-! ### The operations as moves -/

theorem Device.floor_onBatch {d : Device} {bid : Nat} {b : Batch} {f : Batch → Batch} {s : Seat} (hb : d.batch? bid = some b)
    (hf : ∀ x, (f x).bid = x.bid) (hs : (f b).seat = s) : (d.onBatch bid f).floor = d.floor.setSeat bid (some s) := by
  subst hs
  have hid : ∀ x ∈ d.bp.batches, (if x.bid == bid then f x else x).bid = x.bid := fun x _ => by
    split
    · exact hf x
    · rfl
  have hseat : (d.onBatch bid f).floor.seat = Function.update d.floor.seat bid (some (f b).seat) := by
    funext x
    have hx : (d.onBatch bid f).batch? x = (d.batch? x).map (fun y => if y.bid == bid then f y else y) :=
      batch?_onBp rfl hid x
    rw [Function.update_apply]
    simp only [floor, hx, Option.map_map]
    split
    · next h => simp [h, hb, bid_of_batch? hb]
    · next h =>
      refine Option.map_congr fun y hy => ?_
      simp [bid_of_batch? hy, h]
  have hbids : (d.onBatch bid f).floor.bids = d.floor.bids := by
    simp only [floor, onBatch_batches, List.map_map]
    exact List.map_congr_left hid
  change { d.floor with bids := (d.onBatch bid f).floor.bids, seat := (d.onBatch bid f).floor.seat } = _
  rw [hseat, hbids]
  rfl

theorem Device.floor_beginCall {d : Device} {bid : Nat} {b : Batch} (i : Fin 8) (hb : d.batch? bid = some b) :
    (d.beginCall i bid).floor = d.floor.call i bid := by
  have hcall : ((d.leaveFire bid).onBatch bid fun x => { x with state := .called, staged := false, lane := some i }).floor =
      (d.floor.unqueue bid).setSeat bid (some (.onLane .called i)) :=
    floor_onBatch (d := d.leaveFire bid) hb (fun _ => by rfl) rfl
  unfold beginCall
  rw [floor_onLane, hcall]
  rfl

theorem Device.floor_callBatch {d : Device} {b : Batch} (i : Fin 8) (hb : d.batch? b.bid = some b) :
    (d.callBatch i b).floor = d.floor.call i b.bid := floor_beginCall i hb

/-- A batch taken from the pool has the next identity (R109). -/
theorem Device.batch?_addBatch {d : Device} (h : d.bp.Numbered) (b : Batch) (bid : Nat) : (d.addBatch b).batch? bid =
    if bid = d.bp.nextBid then some { b with bid := d.bp.nextBid, seq := d.bp.counter } else d.batch? bid := by
  have happ : (d.addBatch b).batch? bid = (d.batch? bid).or
      (if d.bp.nextBid = bid then some { b with bid := d.bp.nextBid, seq := d.bp.counter } else none) := by
    unfold batch? addBatch
    rw [onBp_bp, List.find?_append]
    simp
  rw [happ]
  by_cases hb : bid = d.bp.nextBid
  · have hnone : d.batch? bid = none := by
      refine List.find?_eq_none.mpr fun x hx => ?_
      have := h.2 x hx
      simp
      omega
    simp [hnone, ← hb]
  · simp [hb, Ne.symm hb]

theorem Device.floor_addBatch {d : Device} (h : d.bp.Numbered) {b : Batch} (hb : b.seat = .waiting) :
    (d.addBatch b).floor = d.floor.enter .waiting := by
  have hseat : (d.addBatch b).floor.seat = Function.update d.floor.seat d.bp.nextBid (some .waiting) := by
    funext x
    rw [Function.update_apply]
    simp only [floor, batch?_addBatch h]
    split
    · exact congrArg some hb
    · rfl
  have hbids : (d.addBatch b).floor.bids = d.floor.bids ++ [d.bp.nextBid] := by simp [floor, addBatch]
  change { d.floor with
    bids := (d.addBatch b).floor.bids, next := d.bp.nextBid + 1, seat := (d.addBatch b).floor.seat } = _
  rw [hseat, hbids]
  rfl

/-- A batch joins a fire queue whose batches are all in the pool (R116). -/
theorem Device.floor_joinFire {d : Device} {bid : Nat} {b : Batch} (hb : d.batch? bid = some b)
    (h : ∀ x ∈ d.bp.fireQ, (d.batch? x).isSome) :
    ∃ q, (d.joinFire bid).floor = { d.floor with fire := q } ∧ q.Perm (bid :: d.bp.fireQ) := by
  refine ⟨(insertBy fireBefore b d.queued).map (·.bid), by simp only [joinFire, hb]; rfl, ?_⟩
  have hp := (insertBy_perm fireBefore b d.queued).map (·.bid)
  rwa [List.map_cons, bid_of_batch? hb, queued_bids h] at hp

theorem Device.floor_dropped (bid : Nat) (d : Device) : (d.onBp fun p => { p with
    fireQ := p.fireQ.filter (fun x => x != bid), batches := p.batches.filter (fun x => x.bid != bid) }).floor =
      d.floor.drop bid := by
  have hseat : ∀ x, ((d.onBp fun p => { p with
      fireQ := p.fireQ.filter (fun x => x != bid), batches := p.batches.filter (fun x => x.bid != bid) }).batch? x).map
        Batch.seat = Function.update d.floor.seat bid none x := fun x => by
    rw [Function.update_apply]
    simp only [batch?, onBp_bp, List.find?_filter, floor]
    split
    · next h =>
      subst h
      simp
    · next h =>
      congr 2
      funext y
      by_cases hy : y.bid = x
      · simp [hy, h]
      · simp [hy]
  have hbids : (d.bp.batches.filter (fun x => x.bid != bid)).map (fun x : Batch => x.bid) =
      (d.bp.batches.map (·.bid)).filter (fun x => x != bid) := by
    rw [List.filter_map]
    rfl
  exact (Floor.mk.injEq ..).mpr ⟨hbids, rfl, funext hseat, rfl, rfl, rfl, rfl⟩

namespace Floor.Sound

variable {C : Nat → Prop} {d e : Device}

theorem congr (h : d.floor.Sound C) (he : e.floor = d.floor) : e.floor.Sound C := he ▸ h

theorem ite {p : Prop} [Decidable p] {x y : Device} (hx : p → x.floor.Sound C) (hy : ¬p → y.floor.Sound C) :
    (if p then x else y).floor.Sound C := by
  split
  · next h => exact hx h
  · next h => exact hy h

theorem foldl {α : Type} (h : d.floor.Sound C) {f : Device → α → Device} {l : List α}
    (hf : ∀ (x : Device), ∀ a ∈ l, x.floor.Sound C → (f x a).floor.Sound C) : (l.foldl f d).floor.Sound C := by
  induction l generalizing d with
  | nil => exact h
  | cons a l ih => exact ih (hf d a (.head _) h) fun x b hb => hf x b (.tail _ hb)

theorem mono (h : d.floor.Sound C) {C' : Nat → Prop} (hc : ∀ bid, C' bid → C bid) : d.floor.Sound C' :=
  ⟨h.nodup, h.below, h.seated, h.lawful, h.current, h.staged, h.due, h.idle, h.once, h.queue, h.offered, h.won,
    fun bid s hb => h.cool bid s (hc bid hb)⟩

/-- The batches of the fire queue are in the pool. -/
theorem queued_isSome (h : d.floor.Sound C) {bid : Nat} (hb : bid ∈ d.bp.fireQ) : (d.batch? bid).isSome := by
  obtain ⟨b, hb, -⟩ := seat_eq_some.mp ((h.queue bid).mp hb)
  simp [hb]

/-! ### Calls, dispatch and staging (R117, R119, R127) -/

theorem callBatch (h : d.floor.Sound C) {i : Fin 8} {b : Batch} (hi : (d.lane i).state = .idle) (hw : d.floor.won ≠ some i)
    (hb : d.batch? b.bid = some b) (hs : b.seat = .waiting) : (d.callBatch i b).floor.Sound C := by
  rw [floor_callBatch i hb]
  exact h.call hi hw (hs ▸ seat_of_batch? hb)

/-- The batch that dispatch or staging finds waits in the fire queue, and its OFFER is not in flight (R117, R119). -/
theorem of_firstFor (h : d.floor.Sound C) {k : Nat} {b : Batch} (hb : d.firstFor k = some b) :
    d.batch? b.bid = some b ∧ b.seat = .waiting ∧ d.offerFlying b.bid = false := by
  obtain ⟨hq, hm⟩ := of_mem_queued (List.mem_of_find?_eq_some hb)
  have hp := List.find?_some hb
  simp only [Bool.and_eq_true, Bool.not_eq_true'] at hp
  have hs := (seat_of_batch? hm).symm.trans ((h.queue _).mp hq)
  exact ⟨hm, Option.some.inj hs, hp.2⟩

theorem dispatchLane (h : d.floor.Sound C) (i : Fin 8) : (d.dispatchLane i).floor.Sound C := by
  unfold Device.dispatchLane
  refine ite (fun hfree => ?_) fun _ => h
  split
  · next b hb =>
    obtain ⟨hm, hs, -⟩ := h.of_firstFor hb
    simp only [laneFree, Bool.and_eq_true, beq_iff_eq, Bool.not_eq_true'] at hfree
    obtain ⟨⟨-, hi⟩, hres⟩ := hfree
    refine h.callBatch hi (fun hw => ?_) hm hs
    have hr : (d.lane i).reserved = true := (h.won i hw).2
    simp [hr] at hres
  · exact h

theorem dispatch (h : d.floor.Sound C) : d.dispatch.floor.Sound C := h.foldl fun _ i _ hx => hx.dispatchLane i

/-! ### Formation (R112 to R115) -/

/-- A batch taken from the pool joins the fire queue (R109, R116). -/
theorem addJoin (h : d.floor.Sound C) {b : Batch} (hb : b.seat = .waiting) (he : e.bp = (d.addBatch b).bp)
    (hf : e.floor = (d.addBatch b).floor) : (e.joinFire d.bp.nextBid).floor.Sound C := by
  have hbatch : ∀ x, e.batch? x = (d.addBatch b).batch? x := fun x => by rw [batch?, he, batch?]
  obtain ⟨q, hq, hp⟩ := floor_joinFire (d := e) (bid := d.bp.nextBid)
    (by rw [hbatch, batch?_addBatch h.numbered, if_pos rfl]) fun x hx => by
      rw [he] at hx
      rw [hbatch, batch?_addBatch h.numbered]
      split
      · rfl
      · exact h.queued_isSome hx
  rw [hq, hf, floor_addBatch h.numbered hb]
  rw [he] at hp
  exact h.join hp

theorem createBatches (h : d.floor.Sound C) (r : Nat) (c : Byte) (n : Nat) : (d.createBatches r c n).floor.Sound C := by
  induction n generalizing d with
  | zero => exact h
  | succ n ih =>
    unfold Device.createBatches
    extract_lets x bid d1 d2
    refine ite (fun _ => h) fun _ => ih ?_
    have h1 : d1.floor.Sound C := h
    exact h1.addJoin (b := d1.formedBatch r c x.2) rfl rfl rfl

theorem formDish (h : d.floor.Sound C) (r : Nat) (c : Byte) : (d.formDish r c).floor.Sound C := by
  unfold Device.formDish
  extract_lets d1 d2
  have h1 : d1.floor.Sound C := h.congr (floor_claimSpares h.numbered r c)
  exact (h1.congr (floor_fillFormed r c d1)).createBatches r c _

theorem formLines (h : d.floor.Sound C) (w : Wave) : (d.formLines w).floor.Sound C := h.foldl fun _ c _ hx => hx.formDish _ c

theorem formationPass (h : d.floor.Sound C) (r : Nat) : (d.formationPass r).floor.Sound C := by
  unfold Device.formationPass
  split
  · exact (h.formLines _).dispatch
  · exact h

theorem formOthers (h : d.floor.Sound C) (o : Option Nat) : (d.formOthers o).floor.Sound C :=
  h.foldl fun _ r _ hx => ite (fun _ => hx.formationPass r) fun _ => hx

theorem formUndispatched (h : d.floor.Sound C) (o : Option Nat) : (d.formUndispatched o).floor.Sound C := by
  refine h.foldl fun x r _ hx => ?_
  split
  · exact ite (fun _ => hx.formLines _) fun _ => hx
  · exact hx

theorem formWaiting (h : d.floor.Sound C) : d.formWaiting.floor.Sound C := h.formOthers none

/-! ### A batch freed, and the end of a wave's work (R84, R125) -/

/-- The lane that a batch leaves, by its record (R125 step 2). -/
theorem floor_leftLane (b : Batch) (d : Device) : ({ d with lu := d.leftLane b } : Device).floor =
    match b.lane with
    | some i =>
      if b.state = .formed then d.floor.setPost i { d.floor.post i with staged := none }
      else if b.state = .called then d.floor.release i
      else d.floor
    | none => d.floor := by
  unfold leftLane
  cases b.lane with
  | none => rfl
  | some i =>
    by_cases hf : b.state = .formed
    · simp only [hf, BEq.rfl, if_true]
      exact floor_onLane i (fun l => { l with staged := none }) d
    · by_cases hc : b.state = .called
      · simp only [hc, beq_iff_eq, reduceCtorEq, if_true, if_false]
        exact floor_onLane i Lane.release d
      · simp only [hf, hc, beq_iff_eq, if_false]

theorem floor_removeBatch (b : Batch) (d : Device) : (d.removeBatch b).floor =
    match b.lane with
    | some i =>
      if b.state = .formed then (d.floor.drop b.bid).setPost i { d.floor.post i with staged := none }
      else if b.state = .called then (d.floor.drop b.bid).release i
      else d.floor.drop b.bid
    | none => d.floor.drop b.bid := by
  obtain ⟨q, hq⟩ := removeBatch_eq b d
  have hleft := floor_leftLane b (d.onBp fun p => { p with
    fireQ := p.fireQ.filter (fun x => x != b.bid), batches := p.batches.filter (fun x => x.bid != b.bid) })
  rw [floor_dropped] at hleft
  rw [hq]
  exact hleft

/-- A batch that is not on the heat leaves the pool (R125). -/
theorem removeBatch (h : d.floor.Sound C) {b : Batch} (hb : d.batch? b.bid = some b) (hs : ¬b.seat.hot) :
    (d.removeBatch b).floor.Sound C := by
  have hseat := seat_of_batch? hb
  have hlawful := h.lawful b.bid
  rw [floor_removeBatch]
  cases hp : b.seat with
  | waiting =>
    obtain ⟨-, -, hl⟩ := Batch.seat_eq_waiting.mp hp
    rw [hl]
    exact h.dropLoose (.inl (hp ▸ hseat))
  | staged i =>
    obtain ⟨hst, -, hl⟩ := Batch.seat_eq_staged.mp hp
    simp only [hl, hst, if_true]
    exact h.dropStaged (hp ▸ hseat)
  | onLane st i =>
    obtain ⟨hst, -, hl⟩ := Batch.seat_eq_onLane.mp hp
    rw [hp] at hs
    rcases hst with ⟨rfl, hst⟩ | ⟨rfl, -⟩ | ⟨rfl, -⟩
    rotate_left
    · exact absurd trivial hs
    · exact absurd trivial hs
    simp only [hl, hst, reduceCtorEq, if_true, if_false]
    exact h.dropCalled (hp ▸ hseat)
  | holding =>
    obtain ⟨-, -, hl⟩ := Batch.seat_eq_holding.mp hp
    rw [hl]
    exact h.dropLoose (.inr (hp ▸ hseat))
  | stray => exact absurd (hp ▸ hseat) hlawful

theorem afterFree (h : d.floor.Sound C) (o : Option Nat) (i : Bool) : (d.afterFree o i).floor.Sound C := by
  unfold Device.afterFree
  exact ite (fun _ => (h.formOthers o).dispatch) fun _ => h.formOthers o

theorem freeBatch (h : d.floor.Sound C) {b : Batch} (hb : d.batch? b.bid = some b) (hs : ¬b.seat.hot) :
    (d.freeBatch b).floor.Sound C := (h.removeBatch hb hs).afterFree _ _

/-- A batch not on the heat ends with its wave; none of the others is brought to the heat by it (R84). -/
theorem endBatch (h : d.floor.Sound C) (r : Nat) {bid : Nat} (hc : C bid) : (d.endBatch r bid).floor.Sound C := by
  unfold Device.endBatch
  split
  · next b hb =>
    have hbid := bid_of_batch? hb
    have h1 : (d.takeOff b).floor.Sound C := h.congr (floor_takeOff b d)
    have hb1 : (d.takeOff b).batch? b.bid = some b := by
      unfold Device.takeOff
      split <;> exact hbid ▸ hb
    have h2 := h1.removeBatch hb1 (h.cool bid _ hc (seat_of_batch? hb))
    exact ite (fun _ => h2.formUndispatched _) fun _ => h2.formOthers _
  · exact h

/-- The batches of a state off the heat end one after the other: formation and dispatch bring none of those still to end to
the heat (R84). -/
theorem endThose (h : d.floor.Sound C) (r : Nat) {st : BatchState} (hst : st ≠ .cooking ∧ st ≠ .due) :
    (d.endThose r st).floor.Sound C := by
  unfold Device.endThose
  have hall : d.floor.Sound (fun bid => C bid ∨
      bid ∈ ((d.batchesOf r).filter (fun b => b.state == st)).map (·.bid)) := by
    refine ⟨h.nodup, h.below, h.seated, h.lawful, h.current, h.staged, h.due, h.idle, h.once, h.queue, h.offered, h.won,
      fun bid s hb hs => ?_⟩
    rcases hb with hb | hb
    · exact h.cool bid s hb hs
    · obtain ⟨b, hm, rfl⟩ := List.mem_map.mp hb
      obtain ⟨hm, hbst⟩ := List.mem_filter.mp hm
      obtain rfl : b.seat = s := Option.some.inj ((h.seat_of_mem (List.mem_filter.mp hm).1).symm.trans hs)
      intro hhot
      obtain rfl : b.state = st := by simpa using hbst
      exact (Batch.seat_hot hhot).elim hst.1 hst.2
  exact (hall.foldl fun x bid hb hx => hx.endBatch r (.inr hb)).mono fun bid hb => .inl hb

theorem endSet (h : d.floor.Sound C) (w : Wave) : (d.endSet w).floor.Sound C := by
  unfold Device.endSet
  extract_lets d1 d2 d3 d4
  have h2 : d2.floor.Sound C :=
    ((h.endThose w.ref (st := .holding) ⟨nofun, nofun⟩).endThose w.ref (st := .formed) ⟨nofun, nofun⟩).endThose w.ref
      (st := .called) ⟨nofun, nofun⟩
  have h3 : d3.floor.Sound C := h2.congr <| (floor_withdrawWave ..).trans <|
    (floor_dropUnbatched ..).trans (floor_dropHanded ..)
  have h4 : d4.floor.Sound C := ite (fun _ => h3.congr (floor_retire ..)) fun _ => h3.congr (floor_enterAway ..)
  exact ite (fun _ => h4.dispatch) fun _ => h4

theorem endWave (h : d.floor.Sound C) (r : Nat) : (d.endWave r).floor.Sound C := by
  unfold Device.endWave
  split
  · exact h
  · split
    · exact h.congr ((floor_retire ..).trans (floor_dropUnbatched ..))
    · exact h.congr ((floor_retire ..).trans (floor_dropUnbatched ..))
    · exact h.endSet _
    · exact h

theorem abandonWave (h : d.floor.Sound C) (r : Nat) : (d.abandonWave r).floor.Sound C := by
  unfold Device.abandonWave
  split
  · exact h
  · exact (h.congr (floor_notify _ d)).endWave r

end Floor.Sound

end Sys2Proof.Machine
end

section
/-! The floor's laws through presses, compares, waves, tickets and the commits of a hand-off (O54). -/

namespace Sys2Proof.Machine

open Device

/-- A FORMED or CALLED batch is not on the heat. -/
theorem Batch.not_hot_of_waits {b : Batch} (h : b.waits = true) : ¬b.seat.hot := fun hh => by
  rcases Batch.seat_hot hh with hs | hs <;> simp [Batch.waits, hs] at h

/-! ### The operations as moves -/

/-- A start press; the batch's OFFER in flight is from now on to be refused (R131, R148). -/
theorem Device.floor_startPress {d : Device} {i : Fin 8} {b : Batch} (hb : d.batch? b.bid = some b)
    (hm : b.staged = false) (hl : b.lane = some i) : (d.startPress i b).floor =
      { (d.floor.setSeat b.bid (some (.onLane .cooking i))).setPost i { d.floor.post i with state := .cooking } with
        offer := if d.floor.offer = some b.bid then none else d.floor.offer } := by
  unfold startPress
  extract_lets now due turn d1 d2
  have h1 : d1.floor = d.floor.setSeat b.bid (some (.onLane .cooking i)) :=
    floor_onBatch hb (fun _ => by rfl) (Batch.seat_eq_onLane.mpr ⟨.inr (.inl ⟨rfl, rfl⟩), hm, hl⟩)
  have h2 : d2.floor = (d.floor.setSeat b.bid (some (.onLane .cooking i))).setPost i
      { d.floor.post i with state := .cooking } := by
    simp only [d2, floor_onLane, h1]
    rfl
  have hoffer : (d.fe.inFlight.map fun x =>
      if x.entry == .offer b.bid then { x with rejectReq := true } else x).bind InFlight.offering =
        if d.floor.offer = some b.bid then none else d.floor.offer := by
    change _ = if d.fe.inFlight.bind InFlight.offering = some b.bid then none else d.fe.inFlight.bind InFlight.offering
    cases d.fe.inFlight with
    | none => rfl
    | some x =>
      by_cases he : x.entry = .offer b.bid
      · cases hr : x.rejectReq <;> simp [InFlight.offering, he, hr]
      · have hne : x.offering ≠ some b.bid := fun ho => he (InFlight.offering_eq_some.mp ho).1
        simp [he, hne]
  have hfloor := floor_onFe (fun f => { f with
    inFlight := f.inFlight.map (fun x => if x.entry == .offer b.bid then { x with rejectReq := true } else x) }) d2
  rw [hfloor, h2]
  exact congrArg (fun o => { (d.floor.setSeat b.bid (some (.onLane .cooking i))).setPost i
    { d.floor.post i with state := .cooking } with offer := o }) hoffer

theorem Device.floor_laneDone_none {d : Device} {i : Fin 8} (hn : (d.floor.post i).staged = none) :
    (d.laneDone i).floor = d.floor.release i := by
  have hn : (d.lane i).staged = none := hn
  unfold laneDone
  rw [hn]
  exact floor_onLane i Lane.release d

theorem Device.floor_laneDone_some {d : Device} {i : Fin 8} {next : Nat} {s : Seat}
    (hn : (d.floor.post i).staged = some next) (hs : d.floor.seat next = some s) :
    (d.laneDone i).floor = (d.floor.release i).call i next := by
  have hn : (d.lane i).staged = some next := hn
  obtain ⟨b, hb, -⟩ := seat_eq_some.mp hs
  obtain rfl := bid_of_batch? hb
  unfold laneDone
  rw [hn, Option.bind_some, hb]
  rw [floor_callBatch (d := d.onLane i Lane.release) i hb, floor_onLane]
  rfl

namespace Floor.Sound

variable {C : Nat → Prop} {d e : Device}

/-! ### Presses and compares (R120, R129 to R134) -/

/-- The lane's current batch by its record (R110). -/
theorem of_current (h : d.floor.Sound C) {i : Fin 8} {b : Batch} (hb : (d.lane i).current.bind d.batch? = some b) :
    d.batch? b.bid = some b ∧ d.floor.seat b.bid = some (.onLane (d.lane i).state i) := by
  obtain ⟨bid, hc, hb⟩ := Option.bind_eq_some_iff.mp hb
  obtain rfl := bid_of_batch? hb
  exact ⟨hb, (h.current b.bid _ i).mpr ⟨hc, rfl⟩⟩

theorem startPress (h : d.floor.Sound C) {i : Fin 8} {b : Batch} (hb : d.batch? b.bid = some b)
    (hs : d.floor.seat b.bid = some (.onLane .called i)) (hc : ¬C b.bid) : (d.startPress i b).floor.Sound C := by
  obtain ⟨-, hm, hl⟩ := Batch.seat_eq_onLane.mp (Option.some.inj ((seat_of_batch? hb).symm.trans hs))
  rw [floor_startPress hb hm hl]
  exact h.start hs hc

/-- The lane goes on once its current batch has become HOLDING or has left the pool (R133). -/
theorem laneDone (h : d.floor.Sound C) {i : Fin 8} {bid : Nat} (hs : ∃ st, d.floor.seat bid = some (.onLane st i))
    (hh : (d.floor.post i).state ≠ .called)
    (he : e.floor = d.floor.setSeat bid (some .holding) ∨ e.floor = d.floor.drop bid) : (e.laneDone i).floor.Sound C := by
  have hpost : e.floor.post i = d.floor.post i := by
    rcases he with he | he <;> rw [he] <;> rfl
  cases hn : (d.floor.post i).staged with
  | none =>
    rw [floor_laneDone_none (by rw [hpost, hn])]
    rcases he with he | he <;> rw [he]
    · exact h.done hs hn hh
    · exact h.gone hs hn hh
  | some next =>
    have hnext := (h.staged next i).mpr hn
    have hne : next ≠ bid := by
      rintro rfl
      obtain ⟨st, hs⟩ := hs
      simp [hnext] at hs
    have hseat : e.floor.seat next = some (.staged i) := by
      rcases he with he | he <;> rw [he] <;> exact (Function.update_of_ne hne _ _).trans hnext
    rw [floor_laneDone_some (by rw [hpost, hn]) hseat]
    rcases he with he | he <;> rw [he]
    · exact h.doneNext hs hn
    · exact h.goneNext hs hn

theorem donePress (h : d.floor.Sound C) {i : Fin 8} {b : Batch} (hb : d.batch? b.bid = some b)
    (hs : ∃ st, d.floor.seat b.bid = some (.onLane st i)) (hh : (d.lane i).state ≠ .called) :
    (d.donePress i b).floor.Sound C := by
  obtain ⟨st, hst⟩ := hs
  obtain ⟨-, hm, -⟩ := Batch.seat_eq_onLane.mp (Option.some.inj ((seat_of_batch? hb).symm.trans hst))
  unfold Device.donePress
  extract_lets idles d1 d2 now d3 d4
  refine ite (fun _ => ?_) fun _ => ?_
  · have h1 : d1.floor = d.floor.drop b.bid := by
      simp only [d1, floor_removeBatch, floor_takeOff]
    have h2 : d2.floor.Sound C := (h.laneDone ⟨st, hst⟩ hh (.inr h1)).afterFree _ _
    exact h2.congr (floor_retireIfRunOut _ _)
  · have h3 : d3.floor = d.floor.setSeat b.bid (some .holding) :=
      floor_onBatch hb (fun _ => by rfl) (Batch.seat_eq_holding.mpr ⟨rfl, hm, rfl⟩)
    have h4 : d4.floor.Sound C := h.laneDone ⟨st, hst⟩ hh (.inl h3)
    exact ite (fun _ => h4.dispatch) fun _ => h4

theorem evaluate (h : d.floor.Sound C) : d.evaluate.floor.Sound C := h.congr (floor_evaluate d)

theorem pressAct (h : d.floor.Sound fun _ => False) (i : Fin 8) : (d.pressAct i).floor.Sound fun _ => False := by
  unfold Device.pressAct
  split
  · exact h
  · next b hb =>
    obtain ⟨hb, hs⟩ := h.of_current hb
    split
    · exact h
    · next hst => exact (h.startPress hb (hst ▸ hs) id).evaluate
    · next hst => exact ite (fun _ => (h.donePress hb ⟨_, hs⟩ (by simp [hst])).evaluate) fun _ => h
    · next hst => exact (h.donePress hb ⟨_, hs⟩ (by simp [hst])).evaluate

theorem press (h : d.floor.Sound fun _ => False) (i : Fin 8) : (d.press i).floor.Sound fun _ => False := by
  unfold Device.press
  refine ite (fun _ => h) fun _ => pressAct (h.congr ?_) i
  exact floor_onLane_same (fun _ => by rfl) i d

/-- A batch staged on a DUE lane that has none (R119). -/
theorem stageNext (h : d.floor.Sound C) {i : Fin 8} (hi : (d.lane i).state = .due) (hn : (d.lane i).staged = none) :
    (d.stage i).floor.Sound C := by
  unfold Device.stage
  split
  · next b hb =>
    obtain ⟨hm, hs, ho⟩ := h.of_firstFor hb
    obtain ⟨hst, -, -⟩ := Batch.seat_eq_waiting.mp hs
    have hoffer : d.floor.offer ≠ some b.bid := fun hx => by
      obtain ⟨x, hx, hoff⟩ := Option.bind_eq_some_iff.mp hx
      simp [offerFlying, hx, (InFlight.offering_eq_some.mp hoff).1] at ho
    rw [floor_onLane, floor_onBatch (d := d.leaveFire b.bid) (s := .staged i) hm (fun _ => by rfl)
      (Batch.seat_eq_staged.mpr ⟨hst, rfl, rfl⟩)]
    exact h.stage (hs ▸ seat_of_batch? hm) hi hn hoffer
  · exact h

theorem dueCompare (h : d.floor.Sound C) (i : Fin 8) : (d.dueCompare i).floor.Sound C := by
  unfold Device.dueCompare
  refine ite (fun hdue => ?_) fun _ => h
  simp only [Bool.and_eq_true, beq_iff_eq] at hdue
  split
  · next bid hc =>
    extract_lets d1 d2
    have hs : d.floor.seat bid = some (.onLane .cooking i) := (h.current bid _ i).mpr ⟨hc, hdue.1⟩
    obtain ⟨b, hb, hp⟩ := seat_eq_some.mp hs
    obtain ⟨-, hm, hl⟩ := Batch.seat_eq_onLane.mp hp
    have h2 : d2.floor = (d.floor.setSeat bid (some (.onLane .due i))).setPost i { d.floor.post i with state := .due } := by
      simp only [d2]
      rw [floor_onBatch (d := d1) (s := .onLane .due i) hb (fun _ => by rfl)
        (Batch.seat_eq_onLane.mpr ⟨.inr (.inr ⟨rfl, rfl⟩), hm, hl⟩)]
      simp only [d1, floor_onLane]
      rfl
    have hsound : d2.floor.Sound C := h2 ▸ h.becomeDue hs
    have hpost : (d2.lane i).post = { d.floor.post i with state := .due } :=
      (congrFun (congrArg Floor.post h2) i).trans (Function.update_self ..)
    refine (hsound.stageNext (congrArg Post.state hpost) ((congrArg Post.staged hpost).trans ?_)).evaluate
    refine Option.eq_none_iff_forall_ne_some.mpr fun next hn => ?_
    have hdue' : (d.lane i).state = .due := h.due i next hn
    simp [hdue.1] at hdue'
  · exact h

theorem laneBoundary (h : d.floor.Sound C) (i : Fin 8) : (d.laneBoundary i).floor.Sound C :=
  (((h.congr (floor_turnCompare i d)).congr (floor_flashEnd i _)).dueCompare i).congr
    ((floor_dueOverdue i _).trans (floor_callOverdue i _))

/-! ### Waves and tickets (R74 to R80, R84, R99 to R102, R106) -/

theorem afterSet (h : d.floor.Sound C) (r : Nat) : (d.afterSet r).floor.Sound C := by
  unfold Device.afterSet
  refine ite (fun _ => h) fun _ => ?_
  exact evaluate ((h.formationPass r).congr ((floor_testNoWork _ _).trans (floor_recompute _)))

theorem waveClose (h : d.floor.Sound C) (r : Nat) : (d.waveClose r).floor.Sound C := by
  unfold Device.waveClose
  split
  · exact ite (fun _ => evaluate (h.congr (floor_enterSettling r d))) fun _ => h
  · exact h

theorem waveSettle (h : d.floor.Sound C) (r : Nat) : (d.waveSettle r).floor.Sound C := by
  unfold Device.waveSettle
  split
  · exact ite (fun _ => (h.congr (floor_enterSet _ d)).afterSet r) fun _ => h
  · exact h

/-- The OFFER in flight is from now on to be refused (R148). -/
theorem refuse (h : d.floor.Sound C) : (d.onFe fun f => { f with
    inFlight := f.inFlight.map (fun x => { x with rejectReq := true }) }).floor.Sound C := by
  rw [floor_onFe]
  refine h.link (fun bid s ho _ => ?_) h.won
  obtain ⟨x, hx, hoff⟩ := Option.bind_eq_some_iff.mp ho
  obtain ⟨y, -, rfl⟩ := Option.map_eq_some_iff.mp hx
  simpa using (InFlight.offering_eq_some.mp hoff).2

theorem waveAbandon (h : d.floor.Sound C) (r : Nat) : (d.waveAbandon r).floor.Sound C := by
  unfold Device.waveAbandon
  split
  · refine ite (fun _ => ?_) fun _ => h
    extract_lets flying d1 d2
    have h1 : d1.floor.Sound C := h.abandonWave r
    have h2 : d2.floor.Sound C := ite (fun _ => h1.refuse) fun _ => h1
    exact h2.evaluate
  · exact h

theorem passAbandon (h : d.floor.Sound C) (r : Nat) : (d.passAbandon r).floor.Sound C := h.congr (floor_passAbandon r d)

theorem waveBoundary (h : d.floor.Sound C) (r : Nat) : (d.waveBoundary r).floor.Sound C :=
  (((h.waveClose r).waveSettle r).waveAbandon r).passAbandon r

theorem reorderFire (h : d.floor.Sound C) : d.reorderFire.floor.Sound C := by
  have hq := queued_bids fun bid hb => h.queued_isSome hb
  refine h.reorder (q := (sortBy fireBefore d.queued).map (·.bid)) ?_
  have hp := (sortBy_perm fireBefore d.queued).map (·.bid)
  rwa [hq] at hp

theorem retime (h : d.floor.Sound C) (r : Nat) : (d.retime r).floor.Sound C := by
  unfold Device.retime
  refine reorderFire (h.congr (floor_onBp_map rfl rfl rfl fun b _ => ?_))
  split <;> exact ⟨rfl, rfl⟩

theorem applySlip (h : d.floor.Sound C) (a : Addr) (st : Tick) (n : Byte) (p : Addr) (off : BitVec 15) (far : Bool) :
    (d.applySlip a st n p off far).floor.Sound C := by
  unfold Device.applySlip
  split
  · exact h
  · refine ite (fun _ => h) fun _ => ?_
    extract_lets sent d1
    have h1 : d1.floor.Sound C := h.congr ((floor_slipNotices ..).trans (floor_onWave ..))
    exact ite (fun _ => h1) fun _ => ((h1.retime _).dispatch).evaluate

theorem displace (h : d.floor.Sound C) (r : Nat) : (d.displace r).floor.Sound C :=
  ite (fun _ => (h.abandonWave r).congr (floor_makeAnonymous r _)) fun _ => h.abandonWave r

theorem findWave (h : d.floor.Sound C) (a : Addr) (st : Tick) (n : Byte) (c : Tick) (l : BitVec 16) (gp : Bool) (g : Tick) :
    (d.findWave a st n c l gp g).1.floor.Sound C := by
  unfold Device.findWave
  extract_lets w? ref fresh
  split
  · exact h.congr (floor_createFromTicket ..)
  · exact h
  · exact h.congr (floor_onWave ..)
  · exact h.congr ((floor_createFromTicket ..).trans (floor_makeAnonymous ..))
  · exact (h.displace _).congr (floor_createFromTicket ..)

theorem afterFiling (h : d.floor.Sound C) (r : Nat) (isNew : Bool) : (d.afterFiling r isNew).floor.Sound C :=
  ite (fun _ => ite (fun _ => h.afterSet r) fun _ => (h.formationPass r).evaluate) fun _ => h.evaluate

theorem takeTicket (h : d.floor.Sound C) (a : Addr) (st : Tick) (n : Byte) (s : Serial) (c : Tick) (l : BitVec 16)
    (gp : Bool) (g : Tick) (items : List Order) : (d.takeTicket a st n s c l gp g items).floor.Sound C := by
  unfold Device.takeTicket
  exact ((h.findWave a st n c l gp g).congr (floor_fileTicket ..)).afterFiling _ _

theorem onBatch_same (h : d.floor.Sound C) {bid : Nat} {f : Batch → Batch} (hf : ∀ b, (f b).bid = b.bid ∧ (f b).seat = b.seat) :
    (d.onBatch bid f).floor.Sound C := h.congr (floor_onBatch_same hf bid d)

theorem voidBatch (h : d.floor.Sound C) (s : Serial) (bid : Nat) : (d.voidBatch s bid).floor.Sound C := by
  unfold Device.voidBatch
  split
  · exact h
  · next b hb =>
    refine ite (fun he => ?_) fun _ => h.onBatch_same fun _ => by exact ⟨rfl, rfl⟩
    exact h.freeBatch (bid_of_batch? hb ▸ hb) (Batch.not_hot_of_waits (Bool.and_eq_true_iff.mp he).1)

theorem applyVoid (h : d.floor.Sound C) (a : Addr) (n : Byte) (s : Serial) : (d.applyVoid a n s).floor.Sound C := by
  unfold Device.applyVoid
  split
  · exact h
  · extract_lets t? d1 bs d2
    have h1 : d1.floor.Sound C := by
      simp only [d1, t?]
      split
      · exact h.congr (floor_dropTicket _ d)
      · exact h
    have h2 : d2.floor.Sound C := (h1.foldl fun x b _ hx => hx.voidBatch s b).congr rfl
    exact ite (fun _ => evaluate (h2.congr (floor_testNoWork _ _))) fun _ => h2

theorem applyPickup (h : d.floor.Sound C) (a : Addr) (n : Byte) : (d.applyPickup a n).floor.Sound C := by
  unfold Device.applyPickup
  split
  · exact h
  · exact ite (fun _ => h) fun _ => (h.endWave _).evaluate

/-! ### The commits of a hand-off, and hold expiry (R122, R123, R149 to R152) -/

/-- A reservation cleared, with no frame in reception that it stands for (R128). -/
theorem unreserve (h : d.floor.Sound C) (hw : d.floor.won = none) (l : Option (Fin 8)) : (d.unreserve l).floor.Sound C := by
  unfold Device.unreserve
  split
  · next i =>
    rw [floor_onLane]
    exact h.clearReserved hw
  · exact h

theorem evaluateSince (h : d.floor.Sound C) (e : Device) : (d.evaluateSince e).floor.Sound C :=
  h.congr (floor_evaluateSince e d)

theorem releaseTaker (h : d.floor.Sound C) (hw : d.floor.won = none) (l : Option (Fin 8)) :
    (d.releaseTaker l).floor.Sound C := ((h.unreserve hw l).dispatch.formWaiting).evaluateSince d

theorem takerCommit (h : d.floor.Sound C) (hw : d.floor.won = none) {l : Option (Fin 8)}
    (hl : ∀ i, l = some i → (d.lane i).state = .idle) (a : Addr) (st : Tick) (n : Byte) (p : Addr) (go : Tick) (sl : Nat)
    (c : Byte) (ps : Nat) (cs : List Contrib) : (d.takerCommit l a st n p go sl c ps cs).floor.Sound C := by
  unfold Device.takerCommit
  extract_lets w? ref d1 bid seq d2 d3
  refine ite (fun _ => h.releaseTaker hw l) fun _ => ?_
  have hf1 : d1.floor = d.floor := floor_ite rfl (floor_addWave ..)
  have h1 : d1.floor.Sound C := h.congr hf1
  have hb : (d1.adoptedBatch ref c ps cs).seat = .waiting := rfl
  have h3 : d3.floor.Sound C := by
    simp only [d3]
    split
    · next i =>
      have hb2 : d2.batch? bid = some { d1.adoptedBatch ref c ps cs with bid := d1.bp.nextBid, seq := d1.bp.counter } := by
        simp only [d2, bid, batch?_addBatch h1.numbered, if_true]
      rw [floor_beginCall i hb2, floor_addBatch h1.numbered hb]
      refine h1.adopt ?_ (by simp [hf1, hw])
      rw [hf1]
      exact hl i rfl
    · exact (h1.addJoin hb rfl rfl).dispatch
  exact evaluate (h3.congr (floor_notify ..))

theorem offererCommit (h : d.floor.Sound C) (a : Addr) {b : Batch} (hb : d.batch? b.bid = some b) (hs : ¬b.seat.hot) :
    (d.offererCommit a b).floor.Sound C := by
  unfold Device.offererCommit
  extract_lets d1 id d2
  have h1 : d1.floor.Sound C := h
  exact (h1.freeBatch hb hs).congr ((floor_testNoWork ..).trans (floor_notify ..))

/-- A spoiled batch cooked again from the start (R122). -/
theorem refire (h : d.floor.Sound C) {b : Batch} (hb : d.batch? b.bid = some b) (hs : b.seat = .holding) :
    (d.refire b).floor.Sound C := by
  unfold Device.refire
  extract_lets go n d1
  obtain ⟨-, hm, hl⟩ := Batch.seat_eq_holding.mp hs
  have h1 : d1.floor = d.floor.setSeat b.bid (some .waiting) :=
    floor_onBatch hb (fun _ => by rfl) (Batch.seat_eq_waiting.mpr ⟨rfl, hm, hl⟩)
  have hseat : ∀ x, (d.batch? x).isSome → (d1.batch? x).isSome := fun x hx => by
    have : (d1.floor.seat x).isSome := by
      rw [h1]
      simp only [setSeat, Function.update_apply]
      split
      · rfl
      · simpa [Device.floor] using hx
    simpa [Device.floor] using this
  obtain ⟨b1, hb1⟩ := Option.isSome_iff_exists.mp (hseat b.bid (by simp [hb]))
  obtain ⟨q, hq, hp⟩ := floor_joinFire hb1 fun x hx => hseat x (h.queued_isSome hx)
  have h2 : (d1.joinFire b.bid).floor.Sound C := by
    rw [hq, h1]
    exact h.rejoin (hs ▸ seat_of_batch? hb) hp
  exact (h2.congr (floor_notify ..)).dispatch

theorem loseBatch (h : d.floor.Sound C) {b : Batch} (hb : d.batch? b.bid = some b) (hs : ¬b.seat.hot) :
    (d.loseBatch b).floor.Sound C := by
  unfold Device.loseBatch
  extract_lets id d1
  exact (h.freeBatch hb hs).congr ((floor_testNoWork ..).trans ((floor_notify ..).trans (floor_takeOff ..)))

theorem holdExpiry (h : d.floor.Sound C) (bid : Nat) : (d.holdExpiry bid).floor.Sound C := by
  unfold Device.holdExpiry
  split
  · exact h
  · next b hb =>
    obtain rfl := bid_of_batch? hb
    refine ite (fun _ => h) fun he => ?_
    obtain ⟨hst, -⟩ : b.state = .holding ∧ _ := by simpa [expires] using he
    have hs : b.seat = .holding := by
      have hl := h.lawful b.bid
      rw [seat_of_batch? hb] at hl
      unfold Batch.seat at hl ⊢
      grind
    have hcold : ¬b.seat.hot := by simp [hs, Seat.hot]
    refine ite (fun _ => evaluate ((h.freeBatch hb hcold).congr (floor_testNoWork ..))) fun _ => ?_
    exact ite (fun _ => (h.refire hb hs).evaluate) fun _ => (h.loseBatch hb hcold).evaluate

/-! ### The tick boundary, and the passing of time (R1, R8, R99 to R102) -/

theorem boundaryEvents (h : d.floor.Sound C) : d.boundaryEvents.floor.Sound C := by
  unfold Device.boundaryEvents
  extract_lets d1 d2 d3 d4
  have h1 : d1.floor.Sound C := h.congr ((floor_quietEnd _).trans ((floor_listenEnd _).trans (floor_periodEnd _)))
  have h2 : d2.floor.Sound C := h1.foldl fun _ i _ hx => hx.laneBoundary i
  have h3 : d3.floor.Sound C := h2.foldl fun _ b _ hx => hx.holdExpiry b
  have h4 : d4.floor.Sound C := h3.foldl fun _ r _ hx => hx.waveBoundary r
  exact h4.congr (floor_markPlace _)

theorem settleBoundary (h : d.floor.Sound C) : d.settleBoundary.floor.Sound C := by
  unfold Device.settleBoundary
  extract_lets d1
  have h1 : d1.floor.Sound C := h.congr (floor_lineReturn d)
  exact ite (fun _ => h1.boundaryEvents.congr (floor_onSck ..)) fun _ => h1

theorem pass (h : d.floor.Sound C) (n : Nat) : (d.pass n).floor.Sound C :=
  ite (fun _ => h) fun _ => h.settleBoundary.congr (floor_onSck ..)

end Floor.Sound
end Sys2Proof.Machine
end

section
/-! The floor's laws through every row, and so through every step (O54). -/

namespace Sys2Proof.Machine

open Device

/-! ### The operations as moves -/

/-- The lanes that a CONFIGURE leaves unconfigured, in a station without work (R126). -/
theorem Floor.Sound.clearLanes {C : Nat → Prop} {f : Floor} (h : f.Sound C) (hi : ∀ i, (f.post i).state = .idle)
    (hw : f.won = none) (keep : Fin 8 → Bool) :
    ({ f with post := fun i => if keep i then f.post i else ⟨.idle, none, none, false⟩ }).Sound C := by
  have hc : ∀ i, (f.post i).current = none := fun i => (h.idle i).mp (hi i)
  have hn : ∀ i bid, (f.post i).staged ≠ some bid := fun i bid hs => by simpa [hi] using h.due i bid hs
  have hpost : ∀ i, let p := if keep i then f.post i else ⟨.idle, none, none, false⟩
      p.state = .idle ∧ p.current = none ∧ ∀ bid, p.staged ≠ some bid := fun i => by
    cases keep i
    · exact ⟨rfl, rfl, nofun⟩
    · exact ⟨hi i, hc i, hn i⟩
  refine ⟨h.nodup, h.below, h.seated, h.lawful, fun bid st i => (h.current bid st i).trans ?_,
    fun bid i => (h.staged bid i).trans ?_, fun i bid hs => ((hpost i).2.2 bid hs).elim, fun i => ?_, h.once, h.queue,
    h.offered, by simp [hw], h.cool⟩
  · simp [hc, (hpost i).2.1]
  · simp [hn, (hpost i).2.2]
  · simp [(hpost i).1, (hpost i).2.1]

/-- A floor without batches, every lane IDLE, nothing in hand. -/
theorem Floor.Sound.bare {C : Nat → Prop} {f : Floor} (hb : f.bids = []) (hs : ∀ bid, f.seat bid = none)
    (hp : ∀ i, (f.post i).state = .idle ∧ (f.post i).current = none ∧ (f.post i).staged = none) (hq : f.fire = [])
    (ho : f.offer = none) (hw : f.won = none) : f.Sound C := by
  constructor <;> simp [hb, hs, hp, hq, ho, hw]

theorem Device.floor_resetUnconfigured (d : Device) : d.resetUnconfigured.floor = { d.floor with
    post := fun i => if d.configured i then d.floor.post i else ⟨.idle, none, none, false⟩ } := by
  have hpost : d.resetUnconfigured.floor.post =
      fun i => if d.configured i then d.floor.post i else ⟨.idle, none, none, false⟩ := by
    funext i
    simp only [floor, lane, resetUnconfigured, onLu_lu, Fin.getElem_fin, Vector.getElem_ofFn]
    split <;> rfl
  change { d.floor with post := d.resetUnconfigured.floor.post } = _
  rw [hpost]

theorem Device.floor_endOwnFrame (fate : Fate) (byDown agree : Bool) (d : Device) :
    (d.endOwnFrame fate byDown agree).floor = { d.floor with offer := none } := by
  unfold endOwnFrame
  extract_lets d1 d2 d3
  rw [floor_quietIfDue]
  cases fate <;> rfl

theorem Device.floor_closeRx (agree : Bool) (d : Device) : (d.closeRx agree).floor = { d.floor with won := none } := rfl

/-- What the floor sees of the frame followed is the lane it has won. -/
theorem Device.floor_onRx (f : Rx → Rx) (d : Device) : (d.onRx f).floor =
    { d.floor with won := (d.fe.rx.map f).bind (fun r => r.taker.lane) } := rfl

theorem Device.floor_onRx_same {f : Rx → Rx} (hf : ∀ r, (f r).taker = r.taker) (d : Device) : (d.onRx f).floor = d.floor := by
  have hwon : (d.fe.rx.map f).bind (fun r => r.taker.lane) = d.floor.won := by
    simp only [Option.bind_map, Function.comp_def, hf]
    rfl
  rw [floor_onRx, hwon]

/-- The own frame in flight changed in what the floor does not see. -/
theorem Device.floor_onFlight {g : InFlight → InFlight} (hg : ∀ x, (g x).offering = x.offering) (d : Device) :
    (d.onFe fun f => { f with inFlight := f.inFlight.map g }).floor = d.floor := by
  have hoffer : (d.fe.inFlight.map g).bind InFlight.offering = d.floor.offer := by
    simp only [Option.bind_map, Function.comp_def, hg]
    rfl
  rw [floor_onFe]
  exact congrArg (fun o => { d.floor with offer := o }) hoffer

theorem Device.reset_numbered (a : Addr) (k : ClassNo) : (Device.reset a k).bp.Numbered := by
  simp [Bp.Numbered, reset]

/-! ### The commands of the station port that leave the floor -/

namespace Device

theorem floor_loadDish (p : List Byte) (d : Device) : (d.loadDish p).floor = d.floor :=
  floor_ite rfl (floor_ite rfl (floor_ite rfl (floor_ite rfl (floor_ite rfl rfl))))

theorem floor_clearMenu (p : List Byte) (d : Device) : (d.clearMenu p).floor = d.floor := floor_ite rfl (floor_ite rfl rfl)

theorem floor_join (p : List Byte) (d : Device) : (d.join p).floor = d.floor :=
  floor_ite rfl (floor_ite rfl (floor_ite rfl ((floor_answer ..).trans (floor_enterListen d))))

theorem floor_openWave (p : List Byte) (d : Device) : (d.openWave p).floor = d.floor :=
  floor_ite rfl (floor_ite rfl (floor_ite rfl (floor_ite rfl (floor_ite rfl rfl))))

theorem floor_issueTicket (p : List Byte) (d : Device) : (d.issueTicket p).floor = d.floor :=
  floor_ite rfl (floor_ite rfl (floor_ite rfl (floor_ite rfl (floor_ite rfl (floor_ite rfl
    ((floor_answer ..).trans ((floor_appendIssue ..).trans (floor_onTi ..))))))))

theorem floor_voidTicket (p : List Byte) (d : Device) : (d.voidTicket p).floor = d.floor := by
  unfold voidTicket
  refine floor_ite rfl (floor_ite rfl ?_)
  split
  · rfl
  · refine floor_ite rfl ?_
    split
    · rfl
    · refine floor_ite rfl (floor_ite ((floor_answer ..).trans (floor_recallTicket ..)) (floor_ite rfl ?_))
      exact (floor_answer ..).trans ((floor_appendIssue ..).trans (floor_onIssue ..))

theorem floor_sendPickup (p : List Byte) (d : Device) : (d.sendPickup p).floor = d.floor := by
  unfold sendPickup
  refine floor_ite rfl (floor_ite rfl ?_)
  split
  · rfl
  · refine floor_ite rfl (floor_ite rfl ?_)
    exact (floor_answer ..).trans ((floor_appendIssue ..).trans (floor_onWave ..))

theorem floor_answerPlace {α : Type} (l : List α) (i : Nat) (f : Nat → α → List Byte) (d : Device) :
    (d.answerPlace l i f).floor = d.floor := by
  unfold answerPlace
  split <;> rfl

theorem floor_readWave (p : List Byte) (d : Device) : (d.readWave p).floor = d.floor :=
  floor_ite rfl (floor_ite rfl (floor_ite (floor_answerPlace ..) (floor_ite (floor_answerPlace ..) rfl)))

theorem floor_readTicket (p : List Byte) (d : Device) : (d.readTicket p).floor = d.floor :=
  floor_ite rfl (floor_ite (floor_ite (floor_answerPlace ..) (floor_ite (floor_answerPlace ..) rfl))
    (floor_ite (floor_answerPlace ..) (floor_answerPlace ..)))

theorem floor_readBatch (p : List Byte) (d : Device) : (d.readBatch p).floor = d.floor := by
  refine floor_ite rfl (floor_ite rfl (floor_ite ?_ (floor_answerPlace ..)))
  split <;> rfl

theorem floor_readLane (p : List Byte) (d : Device) : (d.readLane p).floor = d.floor := by
  unfold readLane
  (repeat' split) <;> rfl

theorem floor_readNotice (p : List Byte) (d : Device) : (d.readNotice p).floor = d.floor := by
  refine floor_ite rfl ?_
  split <;> rfl

end Device

namespace Floor.Sound

variable {C : Nat → Prop} {d e : Device}

/-! ### Time -/

theorem newTick (h : d.floor.Sound C) : d.newTick.floor.Sound C := by
  obtain ⟨e, he, hd⟩ := newTick_eq d
  have hb : d.tickBegun.floor.Sound C := h.congr (floor_tickBegun d)
  rw [hd, ← he]
  exact hb.dispatch.evaluate.congr (floor_onSck ..)

theorem endTick (h : d.floor.Sound C) : d.endTick.floor.Sound C := newTick (h.congr (floor_passSlots _ d))

theorem passIdle (h : d.floor.Sound C) (n : Nat) : (d.passIdle n).floor.Sound C :=
  ite (fun _ => h) fun _ => h.settleBoundary.congr (floor_letPass n _)

theorem crystalCount (h : d.floor.Sound C) : d.crystalCount.floor.Sound C := by
  unfold Device.crystalCount
  exact ite (fun _ => h.settleBoundary.congr (floor_letPass 1 _)) fun _ => h.settleBoundary.endTick

theorem untilStart (h : d.floor.Sound C) (w : Wait) : (d.untilStart w).floor.Sound C :=
  pass (h.congr ((floor_passSlots ..).trans ((floor_quietLine _).trans (floor_lineReturn d)))) _

/-! ### Own frames (R27, R36, R39, R42, R148, R149) -/

theorem endOwnFrame (h : d.floor.Sound C) (fate : Fate) (byDown agree : Bool) :
    (d.endOwnFrame fate byDown agree).floor.Sound C := by
  rw [floor_endOwnFrame]
  exact h.link nofun h.won

theorem slipFate (h : d.floor.Sound C) (r : Nat) (f : Frame) (n : Byte) (p : Addr) (off : BitVec 15) (far : Bool) (x : Fate) :
    (d.slipFate r f n p off far x).floor.Sound C := by
  unfold Device.slipFate
  extract_lets d1
  have h1 : d1.floor.Sound C := by
    simp only [d1]
    split
    · exact h.applySlip _ _ _ _ _ _
    · exact h
  exact ite (fun _ => h1) fun _ => h1.congr (floor_slipEval r d1)

/-- An own OFFER's fate; one accepted and answered by a taker is of a batch off the heat (R148, R149). -/
theorem offerFate (h : d.floor.Sound C) (bid : Nat) (x : Fate) (a : Addr)
    (hx : x = .accepted → a ≠ 63 → ∀ s, d.floor.seat bid = some s → ¬s.hot) : (d.offerFate bid x a).floor.Sound C := by
  unfold Device.offerFate
  extract_lets d1 d2
  have hf1 : d1.floor = d.floor := floor_onBatch_same (fun _ => by exact ⟨rfl, rfl⟩) bid d
  have h1 : d1.floor.Sound C := h.congr hf1
  have h2 : d2.floor.Sound C := by
    simp only [d2]
    split
    · refine ite (fun _ => h1.onBatch_same fun _ => by exact ⟨rfl, rfl⟩) fun ha => ?_
      split
      · next b hb =>
        have hs := hx rfl (by simpa using ha) b.seat (hf1 ▸ seat_of_batch? hb)
        exact h1.offererCommit a (bid_of_batch? hb ▸ hb) hs
      · exact h1
    · exact h1.onBatch_same fun _ => by exact ⟨rfl, rfl⟩
    · exact h1.onBatch_same fun _ => by exact ⟨rfl, rfl⟩
  exact h2.evaluate

theorem placerFate (h : d.floor.Sound C) (f : InFlight) (fate : Fate) (byDown short : Bool) (taker : Addr)
    (hx : fate = .accepted → taker ≠ 63 → ∀ bid s, f.entry = .offer bid → d.floor.seat bid = some s → ¬s.hot) :
    (d.placerFate f fate byDown short taker).floor.Sound C := by
  unfold Device.placerFate
  split
  · exact h.congr (floor_readyFate ..)
  · exact h.slipFate _ _ _ _ _ _ _
  · next bid hb => exact h.offerFate bid fate taker fun ha ht s hs => hx ha ht bid s hb hs
  · exact h.congr (floor_issueFate ..)
  · exact h

theorem takeDeferred (h : d.floor.Sound fun _ => False) (p : Option (Fin 8)) :
    (d.takeDeferred p).floor.Sound fun _ => False := by
  unfold Device.takeDeferred
  split
  · exact h.press _
  · exact h

/-- The fate of the frame in flight; an OFFER to be refused is not accepted (R148). -/
theorem reportFate (h : d.floor.Sound fun _ => False) {f : InFlight} (hf : d.fe.inFlight = some f) (fate : Fate)
    (byDown short : Bool) (taker : Addr) (agree : Bool) (hx : fate = .accepted → taker ≠ 63 → f.rejectReq = false) :
    (d.reportFate f fate byDown short taker agree).floor.Sound fun _ => False := by
  refine ((h.endOwnFrame fate byDown agree).placerFate f fate byDown short taker fun ha ht bid s he hs => ?_).takeDeferred _
  rw [floor_endOwnFrame] at hs
  have hoffer : d.floor.offer = some bid :=
    Option.bind_eq_some_iff.mpr ⟨f, hf, InFlight.offering_eq_some.mpr ⟨he, hx ha ht⟩⟩
  rcases h.offered bid s hoffer hs with rfl | ⟨i, rfl⟩ <;> simp [Seat.hot]

/-- The sender's own reasons to refuse an OFFER include a reject request (R148). -/
theorem rejectReq_of_settles {f : InFlight} {rep : OfferReply} {short : SlotReading} {fate : Fate}
    (hk : f.frame.body.kind = .offer) (hs : f.settles (f.refuses rep short) fate = .accepted) : f.rejectReq = false := by
  unfold InFlight.settles InFlight.refuses at hs
  grind

theorem fateOf (h : d.floor.Sound fun _ => False) (k : Kind) (fate : Fate) (rep : OfferReply) (short : SlotReading)
    (line : Followed) (hk : k = .offer ∨ rep.taker = 63) :
    (d.fateOf k fate rep short line).floor.Sound fun _ => False := by
  unfold Device.fateOf
  split
  · next f hf =>
    refine ite (fun hkind => ?_) fun _ => h
    extract_lets drives d1
    have h1 : d1.floor.Sound fun _ => False := ite (fun _ => h) fun _ => h
    have hf1 : d1.fe.inFlight = some f := by
      simp only [d1]
      split <;> exact hf
    refine reportFate (h1.congr (floor_hear _ d1)) (by rw [hear_fe, hf1]) _ _ _ _ _ fun ha ht => ?_
    have hkind : f.frame.body.kind = k := by simpa using hkind
    exact rejectReq_of_settles (hkind.trans (hk.resolve_right ht)) ha
  · exact h

theorem loseArbitration (h : d.floor.Sound C) : d.loseArbitration.floor.Sound C := by
  unfold Device.loseArbitration
  split
  · exact h
  · extract_lets d1
    have h1 : d1.floor.Sound C := h.link nofun nofun
    exact ite (fun _ => h1) fun _ => h1

theorem bitError (h : d.floor.Sound fun _ => False) (inGap agree : Bool) :
    (d.bitError inGap agree).floor.Sound fun _ => False := by
  unfold Device.bitError
  split
  · exact h
  · next f hf =>
    refine ite (fun _ => ?_) fun _ => ?_
    · have hoffer : d.floor.offer = f.offering := congrArg (fun x => Option.bind x InFlight.offering) hf
      rw [floor_onFe]
      exact h.link (fun bid s ho => h.offered bid s (hoffer.trans ho)) h.won
    · extract_lets d1
      have h1 : d1.floor.Sound fun _ => False := ite (fun _ => h) fun _ => h
      refine h1.reportFate ?_ _ _ _ _ _ nofun
      simp only [d1]
      split <;> exact hf

theorem ownBitError (h : d.floor.Sound fun _ => False) (inGap : Bool) (line : Followed) :
    (d.ownBitError inGap line).floor.Sound fun _ => False :=
  ite (fun _ => bitError (h.congr (floor_hear _ d)) _ _) fun _ => h

/-! ### The start slot (R36, R38, R147) -/

/-- An OFFER is filled for a batch that waits or is CALLED (R146). -/
theorem of_fillOffer (h : d.floor.Sound C) {bid : Nat} {x : Body} (hx : d.fillOffer bid = .fill x) {s : Seat}
    (hs : d.floor.seat bid = some s) : s = .waiting ∨ ∃ i, s = .onLane .called i := by
  obtain ⟨b, hb, rfl⟩ := seat_eq_some.mp hs
  have hc : d.candidate b = true := by
    unfold Device.fillOffer at hx
    grind
  have hlawful : b.seat ≠ .stray := fun hst => h.lawful bid (hs.trans (congrArg some hst))
  have hwaits : b.waits = true ∧ b.staged = false := by
    unfold Device.candidate Device.behind at hc
    grind
  unfold Batch.seat at hlawful ⊢
  unfold Batch.waits at hwaits
  grind

theorem beginFrame (h : d.floor.Sound C) (stamp : Stamp) (e : TxEntry) (b : Body)
    (he : ∀ bid s, e = .offer bid → d.floor.seat bid = some s → s = .waiting ∨ ∃ i, s = .onLane .called i) :
    (d.beginFrame stamp e b).floor.Sound C :=
  h.link (fun bid s ho hs => he bid s (InFlight.offering_eq_some.mp ho).1 hs) h.won

theorem contend (h : d.floor.Sound C) (start : OwnStart) : (d.contend start).floor.Sound C := by
  unfold Device.contend
  extract_lets d1 stamp r d2 d3
  refine ite (fun _ => h) fun _ => ?_
  have h1 : d1.floor.Sound C := h.untilStart _
  have hf2 : d2.floor = d1.floor := floor_dropAsked _ d1
  have h2 : d2.floor.Sound C := h1.congr hf2
  have hfill : ∀ x, r.1 = some x → d1.fillEntry (stampTick stamp) x.1 = .fill x.2 := fun _ hx =>
    Roomy.fillEntry_of_choose hx
  clear_value d2 r stamp d1
  have h3 : d3.floor.Sound C := by
    simp only [d3]
    split
    · next x hx =>
      refine congr (h2.beginFrame stamp x.1 x.2 fun bid s hb hs => ?_) (floor_hear _ _)
      have hf := hfill x hx
      rw [hb] at hf
      exact h1.of_fillOffer hf (hf2 ▸ hs)
    · exact h2
  exact ite (fun _ => h3.congr (floor_offerEval _)) fun _ => h3

/-! ### Received frames (R19, R28 to R33, R150 to R152) -/

/-- The frame followed changed, nothing won by it. -/
theorem onRx (h : d.floor.Sound C) {f : Rx → Rx}
    (hf : ∀ r i, d.fe.rx = some r → (f r).taker = .won (some i) → r.taker = .won (some i)) : (d.onRx f).floor.Sound C := by
  rw [floor_onRx]
  refine h.link h.offered fun i hw => h.won i ?_
  obtain ⟨r', hr', ht⟩ := Option.bind_eq_some_iff.mp hw
  obtain ⟨r, hr, rfl⟩ := Option.map_eq_some_iff.mp hr'
  exact Option.bind_eq_some_iff.mpr ⟨r, hr, TakerState.lane_eq_some.mpr (hf r i hr (TakerState.lane_eq_some.mp ht))⟩

theorem onRx_same (h : d.floor.Sound C) {f : Rx → Rx} (hf : ∀ r, (f r).taker = r.taker) : (d.onRx f).floor.Sound C :=
  h.congr (floor_onRx_same hf d)

theorem rxStart (h : d.floor.Sound C) (w : Wait) : (d.rxStart w).floor.Sound C := by
  unfold Device.rxStart
  extract_lets d1
  refine ite (fun _ => ?_) fun _ => h
  have h1 : d1.floor.Sound C := h.untilStart w
  exact ite (fun _ => h1) fun _ => h1.link h1.offered nofun

theorem dropQualified (h : d.floor.Sound C) : d.dropQualified.floor.Sound C := by
  unfold Device.dropQualified
  split
  · refine ite (fun _ => ?_) fun _ => h
    have hx : (d.onRx fun x => { x with taker := .notTaker }).floor.Sound C := h.onRx fun _ _ _ ht => by cases ht
    exact hx.formWaiting.evaluateSince d
  · exact h

theorem rxBody (h : d.floor.Sound C) (k : Kind) (raw : RawFrame) : (d.rxBody k raw).floor.Sound C := by
  unfold Device.rxBody
  split
  · exact h.onRx_same fun _ => rfl
  · refine h.onRx fun r i _ ht => ?_
    rcases Roomy.atBodyEnd_taker raw { r with stage := .bodyEnd } ‹_› d with hb | ⟨-, hb⟩
    · exact hb.symm.trans ht
    · cases hb.symm.trans ht

/-- The winner's lane is the free one it reserves (R151). -/
theorem winSlots (h : d.floor.Sound C) {r : Rx} (hr : d.fe.rx = some r) (rep : OfferReply) (dish : Byte) :
    (d.winSlots rep dish).floor.Sound C := by
  unfold Device.winSlots
  extract_lets d1
  cases hl : d1.laneToReserve dish with
  | none =>
    have h1 : d1.floor.Sound C := h.congr (floor_drive ..)
    exact congr (h1.onRx fun _ _ _ ht => by cases ht) (floor_drive ..)
  | some i =>
    have hi : (d.lane i).state = .idle := by
      have hfree := List.find?_some hl
      simp only [laneFree, Bool.and_eq_true, beq_iff_eq] at hfree
      exact hfree.1.1.2
    have hwon : (d1.fe.rx.map fun x => { x with taker := .won (some i) }).bind (fun r => r.taker.lane) = some i :=
      congrArg (fun x => (Option.map (fun x : Rx => { x with taker := TakerState.won (some i) }) x).bind
        (fun r => r.taker.lane)) hr
    rw [floor_drive, Device.reserve, floor_onLane, floor_onRx, hwon]
    exact Floor.Sound.reserve h hi

theorem takerSlots (h : d.floor.Sound C) (rep : OfferReply) (dish : Byte) : (d.takerSlots rep dish).floor.Sound C := by
  rcases takerSlots_cases rep dish d with he | he | ⟨r, hr, -, -, -, ⟨-, he⟩ | ⟨-, he⟩⟩ <;> rw [he]
  · exact h
  · exact h.dropQualified
  · exact dropQualified (h.congr (floor_drive ..))
  · exact h.winSlots hr rep dish

theorem rxReply (h : d.floor.Sound C) (k : Kind) (raw : RawFrame) (gapFault : Bool) (rep : OfferReply) :
    (d.rxReply k raw gapFault rep).floor.Sound C := by
  unfold Device.rxReply
  extract_lets d1
  have h1 : d1.floor.Sound C := h.onRx_same fun _ => rfl
  split
  · exact h1.congr (floor_driveShort _ _)
  · exact (ite (fun _ => h1.dropQualified) fun _ => h1.takerSlots _ _).onRx_same fun _ => rfl
  · exact h1.dropQualified

/-- A frame delivered once it is no longer in hand: the lane won is IDLE (R151, R152). -/
theorem deliver (h : d.floor.Sound C) (hw : d.floor.won = none) (raw : RawFrame) (r : Rx) (b : Body)
    (hl : ∀ i, r.taker = .won (some i) → (d.lane i).state = .idle) : (d.deliver raw r b).floor.Sound C := by
  unfold Device.deliver
  extract_lets stamp
  split
  · exact h
  · exact h.congr (floor_applyReady ..)
  · exact h.applySlip _ _ _ _ _ _
  · split
    · next lane ht => exact h.takerCommit hw (fun i hi => hl i (ht.trans (congrArg _ hi))) _ _ _ _ _ _ _ _ _
    · exact h
  · exact ite (fun _ => h) fun _ => h.applyVoid _ _ _
  · exact ite (fun _ => h) fun _ => h.applyPickup _ _
  · split
    · exact h
    · exact h
    · exact h
    · exact h.takeTicket _ _ _ _ _ _ _ _ _

theorem rxAccept (h : d.floor.Sound C) (k : Kind) (raw : RawFrame) (lateFault : Bool) (acc : SlotReading) (agree : Bool) :
    (d.rxAccept k raw lateFault acc agree).floor.Sound C := by
  unfold Device.rxAccept
  split
  · exact h
  · next r hr =>
    extract_lets found bad d1 d2 taken d3
    have hf1 : d1.floor = d.floor := floor_ite rfl rfl
    have hf2 : d2.floor = { d.floor with won := none } := by
      simp only [d2, floor_countHeard, floor_closeRx, hf1]
    have hf3 : d3.floor = { d.floor with won := none } :=
      (floor_onSck ..).trans ((floor_ite (floor_takeTime raw d2) rfl).trans hf2)
    have h3 : d3.floor.Sound C := hf3 ▸ h.link h.offered nofun
    have hw : d3.floor.won = none := congrArg Floor.won hf3
    split
    · refine ite (fun _ => h3.deliver hw raw r _ fun i ht => ?_) fun _ => ?_
      · have hpost : (d3.lane i).post = d.floor.post i := congrFun (congrArg Floor.post hf3) i
        have hwon := h.won i (Option.bind_eq_some_iff.mpr ⟨r, hr, TakerState.lane_eq_some.mpr ht⟩)
        exact (congrArg Post.state hpost).trans hwon.1
      · split
        · exact h3.releaseTaker hw _
        · exact h3
    · exact h3

theorem codingViolation (h : d.floor.Sound C) (w : Wait) (line : Followed) : (d.codingViolation w line).floor.Sound C := by
  unfold Device.codingViolation
  extract_lets d0
  have h0 : d0.floor.Sound C := h.rxStart w
  split
  · exact ite (fun _ => h0.congr (floor_hear ..)) fun _ => h
  · next r _ =>
    extract_lets d1 d2
    refine ite (fun _ => h) fun _ => ?_
    have h1 : d1.floor.Sound C := ite (fun _ => h0) fun _ => h0
    have hf2 : d2.floor = { d1.floor with won := none } := by
      simp only [d2, floor_onSck, floor_countHeard, floor_closeRx, floor_hear]
    have h2 : d2.floor.Sound C := hf2 ▸ h1.link h1.offered nofun
    exact ite (fun _ => h2.formWaiting.evaluateSince d2) fun _ => h2

theorem receive (h : d.floor.Sound C) (k : Kind) (x : Heard) (rep : OfferReply) : (d.receive k x rep).floor.Sound C := by
  unfold Device.receive
  extract_lets d0 d1
  have hp : (d0.pass x.lasted).floor.Sound C := (h.rxStart _).pass _
  split
  · exact ite (fun _ => hp.congr (floor_hear ..)) fun _ => h
  · refine ite (fun _ => hp.codingViolation _ _) fun _ => ite (fun _ => h) fun _ => ?_
    extract_lets d2 d3
    have h1 : d1.floor.Sound C := onRx_same (hp.congr (floor_hear ..)) fun _ => rfl
    have h2 : d2.floor.Sound C := ite (fun _ => h1.rxBody _ _) fun _ => h1
    have h3 : d3.floor.Sound C := ite (fun _ => h2.rxReply _ _ _ _) fun _ => h2
    exact ite (fun _ => h3.rxAccept _ _ _ _ _) fun _ => h3

/-! ### Line failures (R49, R51, R54) -/

theorem failover (h : d.floor.Sound fun _ => False) (inGap : Bool) : (d.failover inGap).floor.Sound fun _ => False := by
  unfold Device.failover
  split
  · exact h.bitError _ _
  · exact (dropQualified (h.congr (floor_quietLine d))).onRx_same fun _ => rfl

theorem wireFails (h : d.floor.Sound fun _ => False) (w : Wire) (x : Failure) :
    (d.wireFails w x).floor.Sound fun _ => False := by
  unfold Device.wireFails
  exact ite (fun _ => failover (h.congr ((floor_onLif ..).trans (floor_changeMode ..))) _) fun _ => h

theorem dropLine (h : d.floor.Sound fun _ => False) : d.dropLine.floor.Sound fun _ => False := by
  unfold Device.dropLine
  extract_lets d1 d2
  have h1 : d1.floor.Sound fun _ => False := by
    simp only [d1]
    split
    · next f hf => exact h.reportFate hf _ _ _ _ _ nofun
    · exact h
  have h2 : d2.floor.Sound fun _ => False := h1.link h1.offered nofun
  split
  · exact h1
  · split
    · exact h2
    · exact h2.formWaiting.evaluateSince d2
    · exact h2.releaseTaker rfl _

theorem lineDown (h : d.floor.Sound fun _ => False) (cause : DownCause) (other : Fin 2) :
    (d.lineDown cause other).floor.Sound fun _ => False := by
  unfold Device.lineDown
  extract_lets found good d1 d2 d3
  have h2 : d2.floor.Sound fun _ => False := by
    simp only [d2]
    split <;> exact h
  have h3 : d3.floor.Sound fun _ => False := dropLine h2
  exact ite (fun _ => ite (fun _ => h3.congr (floor_markPartial _)) fun _ => h3) fun _ => h

/-! ### The station port and the buttons (R66, R67, R126, R140, R148) -/

theorem configure (h : d.floor.Sound C) (hd : d.InLine) (p : List Byte) : (d.configure p).floor.Sound C := by
  unfold Device.configure
  refine ite (fun _ => h) fun hs => ite (fun _ => h) fun _ => ite (fun _ => h) fun _ => ?_
  have hs : d.fe.station = .standby := by simpa using hs
  have hw : d.floor.won = none := by simp [floor, hd.standby hs]
  refine congr ?_ ((floor_answer ..).trans (floor_applyLock ..))
  rw [floor_resetUnconfigured]
  exact clearLanes (h.congr (floor_onSp ..)) (hd.rest (.inl hs)).idle hw _

theorem leave (h : d.floor.Sound C) (p : List Byte) : (d.leave p).floor.Sound C := by
  unfold Device.leave
  refine ite (fun _ => h) fun _ => ite (fun _ => h) fun _ => ?_
  have hl : d.leaveAll.floor.Sound C := by
    refine .bare rfl (fun _ => rfl) (fun i => ?_) rfl rfl rfl
    simp [floor, Lane.post, lane, leaveAll, Lane.left, Lane.reset]
  exact hl

theorem silence (h : d.floor.Sound C) (p : List Byte) : (d.silence p).floor.Sound C := by
  refine ite (fun _ => h) fun _ => h.congr ((floor_answer ..).trans (floor_onLu_same fun i => ?_))
  simp only [lane, onLu_lu, Fin.getElem_fin, Vector.getElem_map, Lane.acknowledge]
  split <;> rfl

theorem readStation (h : d.floor.Sound C) (n : Nat) (p : List Byte) : (d.readStation n p).floor.Sound C := by
  unfold Device.readStation
  exact ite (fun _ => (h.passIdle n).congr (floor_answer ..)) fun _ => (h.passIdle n).congr (floor_answer ..)

theorem onNamed (h : d.floor.Sound C) (pass : Addr) (num : Byte) {f : Nat → Device → Device}
    (hf : ∀ r (x : Device), x.floor.Sound C → (f r x).floor.Sound C) : (d.onNamed pass num f).floor.Sound C := by
  unfold Device.onNamed
  split
  · exact hf _ d h
  · exact h

theorem slipCutoff (h : d.floor.Sound C) (r : Nat) : (d.slipCutoff r).floor.Sound C := by
  unfold Device.slipCutoff
  split
  · exact ite (fun _ => h.evaluate) fun _ => h
  · exact h

theorem holdExpired (h : d.floor.Sound C) (seq : Seq) : (d.holdExpired seq).floor.Sound C := by
  unfold Device.holdExpired
  split
  · exact h.holdExpiry _
  · exact h

theorem buttonPress (h : d.floor.Sound fun _ => False) (i : Fin 8) (inAccept : Bool) :
    (d.buttonPress i inAccept).floor.Sound fun _ => False :=
  ite (fun _ => h.congr (floor_onFlight (fun _ => by rfl) d)) fun _ => h.press i

end Floor.Sound

end Sys2Proof.Machine

namespace Sys2Proof

open Machine Machine.Device

/-- Each command keeps the laws of the floor. -/
theorem Instr.effect_sound (c : Instr) {d : Device} (hd : d.InLine) (h : d.floor.Sound fun _ => False) :
    (c.effect d).floor.Sound fun _ => False := by
  cases c with
  | reset a k => exact sound_of_floorOk (reset_numbered a k) (reset_floorOk a k)
  | tickBoundary => exact h.settleBoundary.endTick
  | periodEnd => exact h.congr (floor_periodEnd d)
  | markPlace => exact h.congr (floor_markPlace d)
  | contend start => exact h.contend start
  | arbitrationLost => exact h.loseArbitration
  | ownBitError inGap line => exact h.ownBitError inGap line
  | frameCodingViolation wait line => exact h.codingViolation wait line
  | markFrame x => exact h.receive _ x _
  | readyFrame x => exact h.receive _ x _
  | slipFrame x => exact h.receive _ x _
  | offerFrame x rep => exact h.receive _ x _
  | ticketFrame x => exact h.receive _ x _
  | voidFrame x => exact h.receive _ x _
  | pickupFrame x => exact h.receive _ x _
  | readyFate fate line => exact h.fateOf _ _ _ _ line (.inr rfl)
  | slipFate fate line => exact h.fateOf _ _ _ _ line (.inr rfl)
  | offerFate fate rep line => exact h.fateOf _ _ _ _ line (.inl rfl)
  | markFate fate line => exact h.fateOf _ _ _ _ line (.inr rfl)
  | ticketFate fate short line => exact h.fateOf _ _ _ _ line (.inr rfl)
  | voidFate fate line => exact h.fateOf _ _ _ _ line (.inr rfl)
  | pickupFate fate line => exact h.fateOf _ _ _ _ line (.inr rfl)
  | wireFailed wire failure => exact h.wireFails wire failure
  | lineReturn => exact h.congr (floor_lineReturn d)
  | lineDown cause other => exact h.lineDown cause other
  | frameSeen seen => exact .ite (fun _ => h) fun _ => h
  | quietEnd => exact h.congr (floor_quietEnd d)
  | listenEnd => exact h.congr (floor_listenEnd d)
  | waveClose pass num => exact h.onNamed pass num fun r _ hx => hx.waveClose r
  | waveSettle pass num => exact h.onNamed pass num fun r _ hx => hx.waveSettle r
  | waveAbandon pass num => exact h.onNamed pass num fun r _ hx => hx.waveAbandon r
  | passWaveAbandon pass num => exact h.onNamed pass num fun r _ hx => hx.passAbandon r
  | batchReleased seq => exact .ite (fun _ => h.dispatch.evaluate) fun _ => h
  | batchBehind seq => exact .ite (fun _ => h.evaluate) fun _ => h
  | offerRetryDue seq => exact .ite (fun _ => h.evaluate) fun _ => h
  | slipCutoff pass num => exact h.onNamed pass num fun r _ hx => hx.slipCutoff r
  | holdExpiry seq => exact h.holdExpired seq
  | turnCompare i => exact h.congr (floor_turnCompare i d)
  | turnFlashEnd i => exact h.congr (floor_flashEnd i d)
  | dueCompare i => exact h.dueCompare i
  | callOverdue i => exact h.congr (floor_callOverdue i d)
  | dueOverdue i => exact h.congr (floor_dueOverdue i d)
  | buttonPress i inAccept => exact h.buttonPress i inAccept
  | configure p => exact h.configure hd p
  | loadDish p => exact h.congr (floor_loadDish p d)
  | clearMenu p => exact h.congr (floor_clearMenu p d)
  | join p => exact h.congr (floor_join p d)
  | leave p => exact h.leave p
  | silence p => exact h.silence p
  | ring p => exact .ite (fun _ => h) fun _ => h
  | openWave p => exact h.congr (floor_openWave p d)
  | issueTicket p => exact h.congr (floor_issueTicket p d)
  | voidTicket p => exact h.congr (floor_voidTicket p d)
  | sendPickup p => exact h.congr (floor_sendPickup p d)
  | readStation n p => exact h.readStation n p
  | readWave p => exact h.congr (floor_readWave p d)
  | readTicket p => exact h.congr (floor_readTicket p d)
  | readBatch p => exact h.congr (floor_readBatch p d)
  | readLane p => exact h.congr (floor_readLane p d)
  | readNotice p => exact h.congr (floor_readNotice p d)
  | unknownCommand code p => exact .ite (fun _ => h) fun _ => h
  | nullSelect p => exact h
  | messageCutShort p => exact .ite (fun _ => h) fun _ => h

/-- Settles O54: each command, and each crystal count, keeps the laws of the floor, which with the batches' identities are
those of `floorOk`; that a station in STANDBY or LISTEN stays without work is O52. -/
theorem floorInvariant : Obligations.FloorInvariant := by
  intro s t hids hlink hrest hfloor hstep
  obtain ⟨-, -, hnodup, hbelow, -⟩ := hids
  have h : s.dev.floor.Sound fun _ => False := sound_of_floorOk ⟨hnodup, hbelow⟩ hfloor
  have hd : s.dev.InLine := (inLine_iff _).mpr ⟨hlink, hrest⟩
  refine ⟨?_, (linkInvariant s t hlink hrest hstep).2⟩
  rcases step_eq_next.mp hstep with ⟨c, rest, -, rfl⟩ | ⟨-, rfl⟩
  · exact (c.effect_sound hd h).floorOk
  · exact h.crystalCount.floorOk

end Sys2Proof
end

section
/-! What formation draws from the index (R113, R114), for O35 and for the accounts. -/

namespace Sys2Proof.Machine

open Device

/-! ### Unbatched portions -/

/-- The unbatched portions of a dish among items. -/
def unbatchedIn (dish : Byte) (its : List Item) : Nat := (its.map (fun it => if it.dish == dish then it.unb else 0)).sum

@[simp] theorem unbatchedIn_nil (dish : Byte) : unbatchedIn dish [] = 0 := rfl

@[simp] theorem unbatchedIn_cons (dish : Byte) (it : Item) (its : List Item) :
    unbatchedIn dish (it :: its) = (if it.dish = dish then it.unb else 0) + unbatchedIn dish its := by
  simp [unbatchedIn]

@[simp] theorem unbatchedOf_nil (ref : Nat) (dish : Byte) : unbatchedOf ref dish [] = 0 := rfl

@[simp] theorem unbatchedOf_cons (ref : Nat) (dish : Byte) (t : Ticket) (ts : List Ticket) :
    unbatchedOf ref dish (t :: ts) = (if t.wave = ref then unbatchedIn dish t.items else 0) + unbatchedOf ref dish ts := by
  simp [unbatchedOf, unbatchedIn]

@[simp] theorem unbatchedOf_append (ref : Nat) (dish : Byte) (ts us : List Ticket) :
    unbatchedOf ref dish (ts ++ us) = unbatchedOf ref dish ts + unbatchedOf ref dish us := by
  simp [unbatchedOf]

@[simp] theorem portionsOf_nil : portionsOf [] = 0 := rfl

@[simp] theorem portionsOf_cons (c : Contrib) (cs : List Contrib) : portionsOf (c :: cs) = c.portions + portionsOf cs := by
  simp [portionsOf]

@[simp] theorem portionsOf_append (cs ds : List Contrib) : portionsOf (cs ++ ds) = portionsOf cs + portionsOf ds := by
  simp [portionsOf]

@[simp] theorem listedFor_nil (s : Serial) : listedFor s [] = 0 := rfl

@[simp] theorem listedFor_cons (s : Serial) (c : Contrib) (cs : List Contrib) :
    listedFor s (c :: cs) = (if c.serial = s then c.portions else 0) + listedFor s cs := by
  by_cases h : c.serial = s <;> simp [listedFor, h]

@[simp] theorem listedFor_append (s : Serial) (cs ds : List Contrib) :
    listedFor s (cs ++ ds) = listedFor s cs + listedFor s ds := by
  simp [listedFor]

/-! ### Drawing from items -/

/-- What an item says of itself, without its unbatched count. -/
def Item.key (it : Item) : Byte × Nat := (it.dish, it.qty)

theorem Ticket.key_eq (t : Ticket) : t.key = (t.pass, t.serial, t.wave, t.items.map Item.key) := rfl

theorem drawItems_drawn (dish : Byte) (n : Nat) (its : List Item) :
    (drawItems dish n its).2 = min n (unbatchedIn dish its) := by
  induction its generalizing n with
  | nil => simp [drawItems]
  | cons it its ih =>
    by_cases h : it.dish = dish
    · simp [drawItems, ih, h]; omega
    · simp [drawItems, ih, h]

theorem unbatchedIn_drawItems (dish : Byte) (n : Nat) (its : List Item) :
    unbatchedIn dish (drawItems dish n its).1 = unbatchedIn dish its - n := by
  induction its generalizing n with
  | nil => simp [drawItems]
  | cons it its ih =>
    by_cases h : it.dish = dish
    · simp [drawItems, ih, h]; omega
    · simp [drawItems, ih, h]

theorem unbatchedIn_drawItems_other {dish c : Byte} (hc : c ≠ dish) (n : Nat) (its : List Item) :
    unbatchedIn c (drawItems dish n its).1 = unbatchedIn c its := by
  induction its generalizing n with
  | nil => rfl
  | cons it its ih =>
    by_cases h : it.dish = dish
    · simp [drawItems, ih, h, hc.symm]
    · simp [drawItems, ih, h]

theorem keys_drawItems (dish : Byte) (n : Nat) (its : List Item) :
    (drawItems dish n its).1.map Item.key = its.map Item.key := by
  induction its generalizing n with
  | nil => rfl
  | cons it its ih => simp [drawItems, ih, Item.key]

/-! ### Drawing from tickets -/

theorem drawTickets_cons_of_wave {ref : Nat} {t : Ticket} (ht : t.wave = ref) (dish : Byte) (n : Nat) (ts : List Ticket) :
    drawTickets ref dish n (t :: ts) =
      ({ t with items := (drawItems dish n t.items).1 } ::
          (drawTickets ref dish (n - min n (unbatchedIn dish t.items)) ts).1,
        if min n (unbatchedIn dish t.items) = 0 then (drawTickets ref dish (n - min n (unbatchedIn dish t.items)) ts).2
        else { serial := t.serial, portions := min n (unbatchedIn dish t.items) } ::
          (drawTickets ref dish (n - min n (unbatchedIn dish t.items)) ts).2) := by
  simp [drawTickets, ht, drawItems_drawn]

theorem drawTickets_cons_of_other {ref : Nat} {t : Ticket} (ht : t.wave ≠ ref) (dish : Byte) (n : Nat) (ts : List Ticket) :
    drawTickets ref dish n (t :: ts) = (t :: (drawTickets ref dish n ts).1, (drawTickets ref dish n ts).2) := by
  simp [drawTickets, ht]

theorem portionsOf_drawTickets (ref : Nat) (dish : Byte) (n : Nat) (ts : List Ticket) :
    portionsOf (drawTickets ref dish n ts).2 = min n (unbatchedOf ref dish ts) := by
  induction ts generalizing n with
  | nil => simp [drawTickets]
  | cons t ts ih =>
    by_cases ht : t.wave = ref
    · rw [drawTickets_cons_of_wave ht, unbatchedOf_cons, if_pos ht]
      dsimp only
      split
      · rw [ih]; omega
      · rw [portionsOf_cons, ih]; dsimp only; omega
    · rw [drawTickets_cons_of_other ht, unbatchedOf_cons, if_neg ht, ih, Nat.zero_add]

theorem unbatchedOf_drawTickets (ref : Nat) (dish : Byte) (n : Nat) (ts : List Ticket) :
    unbatchedOf ref dish (drawTickets ref dish n ts).1 = unbatchedOf ref dish ts - n := by
  induction ts generalizing n with
  | nil => simp [drawTickets]
  | cons t ts ih =>
    by_cases ht : t.wave = ref
    · rw [drawTickets_cons_of_wave ht, unbatchedOf_cons, unbatchedOf_cons, if_pos ht, if_pos ht, ih,
        unbatchedIn_drawItems]
      omega
    · rw [drawTickets_cons_of_other ht, unbatchedOf_cons, unbatchedOf_cons, if_neg ht, ih, Nat.zero_add, Nat.zero_add]

theorem unbatchedOf_drawTickets_other {ref r : Nat} {dish c : Byte} (h : r ≠ ref ∨ c ≠ dish) (n : Nat)
    (ts : List Ticket) : unbatchedOf r c (drawTickets ref dish n ts).1 = unbatchedOf r c ts := by
  induction ts generalizing n with
  | nil => rfl
  | cons t ts ih =>
    by_cases ht : t.wave = ref
    · rw [drawTickets_cons_of_wave ht, unbatchedOf_cons, unbatchedOf_cons, ih]
      by_cases hr : t.wave = r
      · rw [if_pos hr, if_pos hr, unbatchedIn_drawItems_other (h.resolve_left fun k => k (hr.symm.trans ht))]
      · rw [if_neg hr, if_neg hr]
    · rw [drawTickets_cons_of_other ht, unbatchedOf_cons, unbatchedOf_cons, ih]

/-- The entries drawn name the tickets of the wave, in index order, each at most once. -/
theorem serials_drawTickets (ref : Nat) (dish : Byte) (n : Nat) (ts : List Ticket) :
    ((drawTickets ref dish n ts).2.map (·.serial)).Sublist ((ts.filter (fun t => t.wave = ref)).map (·.serial)) := by
  induction ts generalizing n with
  | nil => exact .slnil
  | cons t ts ih =>
    by_cases ht : t.wave = ref
    · rw [drawTickets_cons_of_wave ht, List.filter_cons_of_pos (by simpa using ht), List.map_cons]
      dsimp only
      split
      · exact .cons _ (ih _)
      · exact .cons_cons _ (ih _)
    · rw [drawTickets_cons_of_other ht, List.filter_cons_of_neg (by simpa using ht)]
      exact ih n

theorem portions_pos_of_drawTickets {ref : Nat} {dish : Byte} {n : Nat} {ts : List Ticket} {c : Contrib}
    (hc : c ∈ (drawTickets ref dish n ts).2) : 1 ≤ c.portions := by
  induction ts generalizing n with
  | nil => cases hc
  | cons t ts ih =>
    by_cases ht : t.wave = ref
    · rw [drawTickets_cons_of_wave ht] at hc
      dsimp only at hc
      split at hc
      · exact ih hc
      · next hn =>
        rcases List.mem_cons.mp hc with rfl | hc
        · exact Nat.pos_of_ne_zero hn
        · exact ih hc
    · rw [drawTickets_cons_of_other ht] at hc
      exact ih hc

/-- Nothing is drawn exactly where nothing may be or nothing is unbatched. -/
theorem drawTickets_eq_nil_iff (ref : Nat) (dish : Byte) (n : Nat) (ts : List Ticket) :
    (drawTickets ref dish n ts).2 = [] ↔ n = 0 ∨ unbatchedOf ref dish ts = 0 := by
  have hsum := portionsOf_drawTickets ref dish n ts
  constructor
  · intro h
    rw [h, portionsOf_nil] at hsum
    omega
  · intro h
    cases hd : (drawTickets ref dish n ts).2 with
    | nil => rfl
    | cons c cs =>
      have hc : 1 ≤ c.portions := portions_pos_of_drawTickets (hd ▸ List.mem_cons_self : c ∈ (drawTickets ref dish n ts).2)
      rw [hd, portionsOf_cons] at hsum
      omega

theorem keys_drawTickets (ref : Nat) (dish : Byte) (n : Nat) (ts : List Ticket) :
    (drawTickets ref dish n ts).1.map Ticket.key = ts.map Ticket.key := by
  induction ts generalizing n with
  | nil => rfl
  | cons t ts ih =>
    by_cases ht : t.wave = ref
    · simp [drawTickets_cons_of_wave ht, ih, Ticket.key_eq, keys_drawItems]
    · simp [drawTickets_cons_of_other ht, ih]

/-- What is drawn for a serial leaves its unbatched portions. -/
theorem listedFor_drawTickets (ref : Nat) (dish : Byte) (n : Nat) (ts : List Ticket) (s : Serial) :
    unbatchedOf ref dish ((drawTickets ref dish n ts).1.filter (fun t => t.serial = s)) +
        listedFor s (drawTickets ref dish n ts).2 =
      unbatchedOf ref dish (ts.filter (fun t => t.serial = s)) := by
  induction ts generalizing n with
  | nil => rfl
  | cons t ts ih =>
    by_cases ht : t.wave = ref
    · have := ih (n - min n (unbatchedIn dish t.items))
      have hi := unbatchedIn_drawItems dish n t.items
      rw [drawTickets_cons_of_wave ht]
      by_cases hs : t.serial = s
      · simp only [List.filter_cons, hs, decide_true, if_true, unbatchedOf_cons, ht]
        split
        · omega
        · rw [listedFor_cons]; simp only [if_true]; omega
      · simp only [List.filter_cons, hs, decide_false, Bool.false_eq_true, if_false]
        split
        · omega
        · rw [listedFor_cons]; simp only [hs, if_false]; omega
    · rw [drawTickets_cons_of_other ht]
      have := ih n
      by_cases hs : t.serial = s <;> simp [hs, ht] <;> omega

end Sys2Proof.Machine
end

section
/-! What a contributor list holds as entries are added (R82, R113), and what claims make of it. -/

namespace Sys2Proof.Machine

open Device

/-! ### Contributor entries added -/

@[simp] theorem addContrib_nil (c : Contrib) : addContrib [] c = [c] := rfl

theorem addContrib_cons_other {x c : Contrib} (h : x.serial ≠ c.serial) (xs : List Contrib) :
    addContrib (x :: xs) c = x :: addContrib xs c := by
  have hx : (x.serial == c.serial) = false := by simpa using h
  by_cases hl : xs.any (fun y => y.serial == c.serial) = true <;> simp [addContrib, hx, hl, h]

theorem addContrib_cons_same {x c : Contrib} {xs : List Contrib} (h : x.serial = c.serial)
    (hn : x.serial ∉ xs.map (·.serial)) :
    addContrib (x :: xs) c = { x with portions := x.portions + c.portions } :: xs := by
  have hmap : xs.map (fun y => if y.serial = c.serial then { y with portions := y.portions + c.portions } else y) = xs :=
    (List.map_congr_left fun y hy => by
      rw [if_neg fun hs : y.serial = c.serial => hn (h.trans hs.symm ▸ List.mem_map_of_mem hy), id]).trans
        (List.map_id xs)
  simp [addContrib, h, hmap]

theorem serials_addContrib (cs : List Contrib) (c : Contrib) :
    (addContrib cs c).map (·.serial) =
      if c.serial ∈ cs.map (·.serial) then cs.map (·.serial) else cs.map (·.serial) ++ [c.serial] := by
  have hany : cs.any (fun x => x.serial == c.serial) = true ↔ c.serial ∈ cs.map (·.serial) := by
    simp
  unfold addContrib
  by_cases h : c.serial ∈ cs.map (·.serial)
  · rw [if_pos (hany.mpr h), if_pos h, List.map_map]
    refine List.map_congr_left fun x _ => ?_
    simp only [Function.comp_apply]
    split <;> rfl
  · rw [if_neg (fun k => h (hany.mp k)), if_neg h]
    simp

theorem nodup_addContrib {cs : List Contrib} (h : (cs.map (·.serial)).Nodup) (c : Contrib) :
    ((addContrib cs c).map (·.serial)).Nodup := by
  rw [serials_addContrib]
  split
  · exact h
  · next hc => 
    refine List.nodup_append.mpr ⟨h, List.nodup_singleton _, fun a ha b hb => ?_⟩
    rintro rfl
    exact hc (List.mem_singleton.mp hb ▸ ha)

theorem listedFor_addContrib {cs : List Contrib} (h : (cs.map (·.serial)).Nodup) (c : Contrib) (s : Serial) :
    listedFor s (addContrib cs c) = listedFor s cs + if c.serial = s then c.portions else 0 := by
  induction cs with
  | nil => simp
  | cons x xs ih =>
    obtain ⟨hx, hxs⟩ := List.nodup_cons.mp h
    by_cases hc : x.serial = c.serial
    · rw [addContrib_cons_same hc hx, listedFor_cons, listedFor_cons, ← hc]
      dsimp only
      split <;> omega
    · rw [addContrib_cons_other hc, listedFor_cons, listedFor_cons, ih hxs]
      omega

theorem portionsOf_addContrib {cs : List Contrib} (h : (cs.map (·.serial)).Nodup) (c : Contrib) :
    portionsOf (addContrib cs c) = portionsOf cs + c.portions := by
  induction cs with
  | nil => simp
  | cons x xs ih =>
    obtain ⟨hx, hxs⟩ := List.nodup_cons.mp h
    by_cases hc : x.serial = c.serial
    · rw [addContrib_cons_same hc hx, portionsOf_cons, portionsOf_cons]
      dsimp only
      omega
    · rw [addContrib_cons_other hc, portionsOf_cons, portionsOf_cons, ih hxs]
      omega

theorem nodup_addContribs {cs : List Contrib} (h : (cs.map (·.serial)).Nodup) (ds : List Contrib) :
    ((ds.foldl addContrib cs).map (·.serial)).Nodup := by
  induction ds generalizing cs with
  | nil => exact h
  | cons c ds ih => exact ih (nodup_addContrib h c)

theorem listedFor_addContribs {cs : List Contrib} (h : (cs.map (·.serial)).Nodup) (ds : List Contrib) (s : Serial) :
    listedFor s (ds.foldl addContrib cs) = listedFor s cs + listedFor s ds := by
  induction ds generalizing cs with
  | nil => rfl
  | cons c ds ih => rw [List.foldl_cons, ih (nodup_addContrib h c), listedFor_addContrib h, listedFor_cons, Nat.add_assoc]

theorem portionsOf_addContribs {cs : List Contrib} (h : (cs.map (·.serial)).Nodup) (ds : List Contrib) :
    portionsOf (ds.foldl addContrib cs) = portionsOf cs + portionsOf ds := by
  induction ds generalizing cs with
  | nil => rfl
  | cons c ds ih => rw [List.foldl_cons, ih (nodup_addContrib h c), portionsOf_addContrib h, portionsOf_cons, Nat.add_assoc]

/-! ### Sums over records -/

/-- A sum over the records that satisfy a condition. -/
theorem sum_filter_map {α : Type} (p : α → Bool) (f : α → Nat) (l : List α) :
    ((l.filter p).map f).sum = (l.map (fun x => if p x then f x else 0)).sum := by
  induction l with
  | nil => rfl
  | cons x l ih => by_cases h : p x <;> simp [h, ih]

/-! ### Claims -/

/-- How many portions of `n` a batch takes of a claim (R82): as many as it has spare, unless it has no room for the entry. -/
def Batch.takes (serial : Serial) (n : Nat) (b : Batch) : Nat :=
  if b.contribs.any (fun c => c.serial == serial) || decide (b.contribs.length < Config.contributorCapacity) then
    min n b.spare else 0

/-- A batch with the portions that it takes of a claim. -/
def Batch.claim (serial : Serial) (n : Nat) (b : Batch) : Batch :=
  if b.takes serial n = 0 then b
  else { b with contribs := addContrib b.contribs { serial := serial, portions := b.takes serial n } }

theorem claimItem_cons (serial : Serial) (n : Nat) (b : Batch) (bs : List Batch) :
    claimItem serial n (b :: bs) =
      ((claimItem serial (n - b.takes serial n) bs).1, b.claim serial n :: (claimItem serial (n - b.takes serial n) bs).2) := by
  simp [claimItem, Batch.takes, Batch.claim]

/-- A claim changes nothing of a batch but its contributors. -/
theorem Batch.claim_eq (serial : Serial) (n : Nat) (b : Batch) :
    b.claim serial n = { b with contribs := (b.claim serial n).contribs } := by
  unfold Batch.claim
  split <;> rfl

theorem Batch.takes_le (serial : Serial) (n : Nat) (b : Batch) : b.takes serial n ≤ n := by
  unfold Batch.takes
  split <;> omega

theorem Batch.nodup_claim {b : Batch} (h : (b.contribs.map (·.serial)).Nodup) (serial : Serial) (n : Nat) :
    ((b.claim serial n).contribs.map (·.serial)).Nodup := by
  unfold Batch.claim
  split
  · exact h
  · exact nodup_addContrib h _

theorem Batch.listedFor_claim {b : Batch} (h : (b.contribs.map (·.serial)).Nodup) (serial : Serial) (n : Nat) (s : Serial) :
    listedFor s (b.claim serial n).contribs = listedFor s b.contribs + if serial = s then b.takes serial n else 0 := by
  unfold Batch.claim
  split
  · next h0 => simp [h0]
  · exact listedFor_addContrib h _ s

theorem Batch.portionsOf_claim {b : Batch} (h : (b.contribs.map (·.serial)).Nodup) (serial : Serial) (n : Nat) :
    portionsOf (b.claim serial n).contribs = portionsOf b.contribs + b.takes serial n := by
  unfold Batch.claim
  split
  · next h0 => simp [h0]
  · exact portionsOf_addContrib h _

/-- The same batches, each with its contributors changed and none listed twice. -/
def Claimed (bs cs : List Batch) : Prop :=
  List.Forall₂ (fun b c : Batch => c = { b with contribs := c.contribs } ∧ (c.contribs.map (·.serial)).Nodup) bs cs

theorem Claimed.refl {bs : List Batch} (h : ∀ b ∈ bs, (b.contribs.map (·.serial)).Nodup) : Claimed bs bs :=
  List.forall₂_same.mpr fun b hb => ⟨rfl, h b hb⟩

theorem Claimed.nodup {bs cs : List Batch} (h : Claimed bs cs) : ∀ c ∈ cs, (c.contribs.map (·.serial)).Nodup := by
  induction h with
  | nil => simp
  | cons hx _ ih => exact List.forall_mem_cons.mpr ⟨hx.2, ih⟩

theorem Claimed.trans {as bs cs : List Batch} (h : Claimed as bs) (k : Claimed bs cs) : Claimed as cs := by
  induction h generalizing cs with
  | nil => exact k
  | cons hx _ ih =>
    cases k with
    | cons hy k =>
      refine .cons ⟨?_, hy.2⟩ (ih k)
      rw [hy.1, hx.1]

theorem Claimed.bids {bs cs : List Batch} (h : Claimed bs cs) : cs.map (·.bid) = bs.map (·.bid) := by
  induction h with
  | nil => rfl
  | cons hx _ ih => rw [List.map_cons, List.map_cons, ih, hx.1]

theorem claimed_claimItem {bs : List Batch} (h : ∀ b ∈ bs, (b.contribs.map (·.serial)).Nodup) (serial : Serial) (n : Nat) :
    Claimed bs (claimItem serial n bs).2 := by
  induction bs generalizing n with
  | nil => exact .nil
  | cons b bs ih =>
    obtain ⟨hb, hbs⟩ := List.forall_mem_cons.mp h
    rw [claimItem_cons]
    exact .cons ⟨b.claim_eq serial n, Batch.nodup_claim hb serial n⟩ (ih hbs _)

theorem claimed_claimItems {bs : List Batch} (h : ∀ b ∈ bs, (b.contribs.map (·.serial)).Nodup) (serial : Serial) (dish : Byte)
    (its : List Item) : Claimed bs (claimItems serial dish its bs).2 := by
  induction its generalizing bs with
  | nil => exact .refl h
  | cons it its ih =>
    unfold claimItems
    split
    · have h1 := claimed_claimItem h serial it.unb
      exact h1.trans (ih h1.nodup)
    · exact ih h

theorem claimed_claimTickets {bs : List Batch} (h : ∀ b ∈ bs, (b.contribs.map (·.serial)).Nodup) (ref : Nat) (dish : Byte)
    (ts : List Ticket) : Claimed bs (claimTickets ref dish ts bs).2 := by
  induction ts generalizing bs with
  | nil => exact .refl h
  | cons t ts ih =>
    unfold claimTickets
    split
    · have h1 := claimed_claimItems h t.serial dish t.items
      exact h1.trans (ih h1.nodup)
    · exact ih h

/-- What a list of batches lists for a serial. -/
def listedIn (s : Serial) (bs : List Batch) : Nat := (bs.map (fun b => listedFor s b.contribs)).sum

@[simp] theorem listedIn_nil (s : Serial) : listedIn s [] = 0 := rfl

@[simp] theorem listedIn_cons (s : Serial) (b : Batch) (bs : List Batch) :
    listedIn s (b :: bs) = listedFor s b.contribs + listedIn s bs := by
  simp [listedIn]

theorem listedIn_claimItem {bs : List Batch} (h : ∀ b ∈ bs, (b.contribs.map (·.serial)).Nodup) (serial : Serial) (n : Nat)
    (s : Serial) :
    (if serial = s then (claimItem serial n bs).1 else 0) + listedIn s (claimItem serial n bs).2 =
      (if serial = s then n else 0) + listedIn s bs := by
  induction bs generalizing n with
  | nil => rfl
  | cons b bs ih =>
    obtain ⟨hb, hbs⟩ := List.forall_mem_cons.mp h
    have := ih hbs (n - b.takes serial n)
    have hle := b.takes_le serial n
    rw [claimItem_cons, listedIn_cons, listedIn_cons, Batch.listedFor_claim hb]
    split at this
    · next hs => simp only [hs, if_true] at *; omega
    · next hs => simp only [hs, if_false] at *; omega

theorem listedIn_claimItems {bs : List Batch} (h : ∀ b ∈ bs, (b.contribs.map (·.serial)).Nodup) (serial : Serial)
    (dish : Byte) (its : List Item) (s : Serial) :
    (if serial = s then unbatchedIn dish (claimItems serial dish its bs).1 else 0) +
        listedIn s (claimItems serial dish its bs).2 =
      (if serial = s then unbatchedIn dish its else 0) + listedIn s bs := by
  induction its generalizing bs with
  | nil => rfl
  | cons it its ih =>
    by_cases hd : it.dish = dish
    · have h1 := listedIn_claimItem h serial it.unb s
      have h2 := ih (claimed_claimItem h serial it.unb).nodup
      simp only [claimItems, hd, beq_self_eq_true, if_true, unbatchedIn_cons]
      split at h1
      · next hs => simp only [hs, if_true] at *; omega
      · next hs => simp only [hs, if_false] at *; omega
    · have h2 := ih h
      simpa [claimItems, hd] using h2

/-- Portions claimed leave the items of their serial and enter its lists. -/
theorem listedIn_claimTickets {bs : List Batch} (h : ∀ b ∈ bs, (b.contribs.map (·.serial)).Nodup) (ref : Nat) (dish : Byte)
    (ts : List Ticket) (s : Serial) :
    unbatchedOf ref dish ((claimTickets ref dish ts bs).1.filter (fun t => t.serial = s)) +
        listedIn s (claimTickets ref dish ts bs).2 =
      unbatchedOf ref dish (ts.filter (fun t => t.serial = s)) + listedIn s bs := by
  induction ts generalizing bs with
  | nil => rfl
  | cons t ts ih =>
    by_cases ht : t.wave = ref
    · have h1 := listedIn_claimItems h t.serial dish t.items s
      have h2 := ih (claimed_claimItems h t.serial dish t.items).nodup
      simp only [claimTickets, ht, beq_self_eq_true, if_true, List.filter_cons]
      by_cases hs : t.serial = s
      · simp only [hs, if_true, decide_true, unbatchedOf_cons, ht] at *; omega
      · simp only [hs, if_false, decide_false, Bool.false_eq_true] at *; omega
    · have h2 := ih h
      by_cases hs : t.serial = s
      · simpa [claimTickets, ht, hs] using h2
      · simpa [claimTickets, ht, hs] using h2

theorem keys_claimItems (serial : Serial) (dish : Byte) (its : List Item) (bs : List Batch) :
    (claimItems serial dish its bs).1.map Item.key = its.map Item.key := by
  induction its generalizing bs with
  | nil => rfl
  | cons it its ih =>
    unfold claimItems
    split <;> simp [ih, Item.key]

theorem keys_claimTickets (ref : Nat) (dish : Byte) (ts : List Ticket) (bs : List Batch) :
    (claimTickets ref dish ts bs).1.map Ticket.key = ts.map Ticket.key := by
  induction ts generalizing bs with
  | nil => rfl
  | cons t ts ih =>
    unfold claimTickets
    split <;> simp [ih, Ticket.key_eq, keys_claimItems]

theorem unbatchedIn_claimItems_other {dish c : Byte} (hc : c ≠ dish) (serial : Serial) (its : List Item) (bs : List Batch) :
    unbatchedIn c (claimItems serial dish its bs).1 = unbatchedIn c its := by
  induction its generalizing bs with
  | nil => rfl
  | cons it its ih =>
    by_cases hd : it.dish = dish
    · simp [claimItems, ih, hd, hc.symm]
    · simp [claimItems, ih, hd]

theorem unbatchedOf_claimTickets_other {ref r : Nat} {dish c : Byte} (h : r ≠ ref ∨ c ≠ dish) (ts : List Ticket)
    (bs : List Batch) : unbatchedOf r c (claimTickets ref dish ts bs).1 = unbatchedOf r c ts := by
  induction ts generalizing bs with
  | nil => rfl
  | cons t ts ih =>
    by_cases ht : t.wave = ref
    · by_cases hr : ref = r
      · simp [claimTickets, ih, ht, unbatchedIn_claimItems_other (h.resolve_left fun k => k hr.symm)]
      · simp [claimTickets, ih, ht, hr]
    · simp [claimTickets, ih, ht]

/-! ### Claims with room for every entry -/

/-- The portions that batches take of `n`, one after the other: each its spare portions or what is left. -/
def Granted : Nat → List Batch → List Batch → Prop
  | _, [], [] => True
  | n, b :: bs, c :: cs => c = { b with contribs := c.contribs } ∧
      portionsOf c.contribs = portionsOf b.contribs + min b.spare n ∧ Granted (n - b.spare) bs cs
  | _, _, _ => False

theorem Granted.refl (bs : List Batch) : Granted 0 bs bs := by
  induction bs with
  | nil => trivial
  | cons b bs ih => exact ⟨rfl, by omega, by rwa [Nat.zero_sub]⟩

theorem Granted.trans {n m : Nat} {as bs cs : List Batch} (h : Granted n as bs) (k : Granted m bs cs) :
    Granted (n + m) as cs := by
  induction as generalizing n m bs cs with
  | nil =>
    cases bs with
    | nil =>
      cases cs with
      | nil => trivial
      | cons _ _ => exact k.elim
    | cons _ _ => exact h.elim
  | cons a as ih =>
    cases bs with
    | nil => exact h.elim
    | cons b bs =>
      cases cs with
      | nil => exact k.elim
      | cons c cs =>
        obtain ⟨hab, hp, h⟩ := h
        obtain ⟨hbc, hq, k⟩ := k
        have hb : b.spare = a.spare - min a.spare n := by
          have : b.portions = a.portions := by rw [hab]
          simp only [Batch.spare, this, hp]
          omega
        refine ⟨by rw [hbc, hab], by rw [hq, hp, hb]; omega, ?_⟩
        rw [show n + m - a.spare = n - a.spare + (m - b.spare) by rw [hb]; omega]
        exact ih h k

theorem Granted.spares {n : Nat} {bs cs : List Batch} (h : Granted n bs cs) :
    (cs.map Batch.spare).sum = (bs.map Batch.spare).sum - n := by
  induction bs generalizing n cs with
  | nil =>
    cases cs with
    | nil => simp
    | cons _ _ => exact h.elim
  | cons b bs ih =>
    cases cs with
    | nil => exact h.elim
    | cons c cs =>
      obtain ⟨hbc, hp, h⟩ := h
      have hc : c.spare = b.spare - min b.spare n := by
        have : c.portions = b.portions := by rw [hbc]
        simp only [Batch.spare, this, hp]
        omega
      simp only [List.map_cons, List.sum_cons, ih h, hc]
      omega

theorem Granted.getElem? {n k : Nat} {bs cs : List Batch} {b : Batch} (h : Granted n bs cs) (hb : bs[k]? = some b) :
    ∃ c ∈ cs, c = { b with contribs := c.contribs } ∧
      portionsOf c.contribs = portionsOf b.contribs + min b.spare (n - ((bs.take k).map Batch.spare).sum) := by
  induction bs generalizing n k cs with
  | nil => simp at hb
  | cons x bs ih =>
    cases cs with
    | nil => exact h.elim
    | cons c cs =>
      obtain ⟨hbc, hp, h⟩ := h
      cases k with
      | zero =>
        obtain rfl : x = b := by simpa using hb
        exact ⟨c, List.mem_cons_self, hbc, by simpa using hp⟩
      | succ k =>
        obtain ⟨y, hy, hyb, hyp⟩ := ih h (by simpa using hb)
        refine ⟨y, List.mem_cons_of_mem _ hy, hyb, ?_⟩
        rw [hyp, List.take_succ_cons, List.map_cons, List.sum_cons, Nat.sub_sub]

/-- A batch has room for the entry of a serial: it lists it, or has fewer than 16 entries. -/
def Batch.roomFor (serial : Serial) (b : Batch) : Prop :=
  serial ∈ b.contribs.map (·.serial) ∨ b.contribs.length < Config.contributorCapacity

theorem Batch.takes_of_roomFor {serial : Serial} {b : Batch} (h : b.roomFor serial) (n : Nat) :
    b.takes serial n = min n b.spare := by
  refine if_pos ?_
  simpa [roomFor] using h

/-- The entries of a batch are as before, with the one of a serial perhaps new at the end. -/
def Gains (serial : Serial) (b c : Batch) : Prop :=
  c.contribs.map (·.serial) = b.contribs.map (·.serial) ∨
    c.contribs.map (·.serial) = b.contribs.map (·.serial) ++ [serial]

theorem Batch.gains_claim (serial : Serial) (n : Nat) (b : Batch) : Gains serial b (b.claim serial n) := by
  unfold Batch.claim
  split
  · exact .inl rfl
  · rw [Gains, serials_addContrib]
    split
    · exact .inl rfl
    · exact .inr rfl

theorem Batch.roomFor_claim {serial : Serial} {b : Batch} (h : b.roomFor serial) (n : Nat) :
    (b.claim serial n).roomFor serial := by
  rcases b.gains_claim serial n with hg | hg
  · unfold roomFor at h ⊢
    rw [← List.length_map (f := fun c : Contrib => c.serial), hg]
    simpa using h
  · exact .inl (by rw [hg]; simp)

theorem claimItem_of_room {serial : Serial} {bs : List Batch} (h : ∀ b ∈ bs, (b.contribs.map (·.serial)).Nodup)
    (hr : ∀ b ∈ bs, b.roomFor serial) (n : Nat) :
    (claimItem serial n bs).1 = n - (bs.map Batch.spare).sum ∧ Granted n bs (claimItem serial n bs).2 ∧
      ∀ c ∈ (claimItem serial n bs).2, c.roomFor serial := by
  induction bs generalizing n with
  | nil => exact ⟨rfl, trivial, by simp [claimItem]⟩
  | cons b bs ih =>
    obtain ⟨hb, hbs⟩ := List.forall_mem_cons.mp h
    obtain ⟨hrb, hrbs⟩ := List.forall_mem_cons.mp hr
    have ht : b.takes serial n = min n b.spare := Batch.takes_of_roomFor hrb n
    obtain ⟨h1, h2, h3⟩ := ih hbs hrbs (n - min n b.spare)
    rw [claimItem_cons, ht]
    refine ⟨?_, ⟨b.claim_eq serial n, ?_, ?_⟩, List.forall_mem_cons.mpr ⟨Batch.roomFor_claim hrb n, h3⟩⟩
    · rw [h1, List.map_cons, List.sum_cons]
      omega
    · rw [Batch.portionsOf_claim hb, ht, Nat.min_comm]
    · rwa [show n - b.spare = n - min n b.spare by omega]

theorem claimItems_of_room {serial : Serial} {bs : List Batch} (h : ∀ b ∈ bs, (b.contribs.map (·.serial)).Nodup)
    (hr : ∀ b ∈ bs, b.roomFor serial) (dish : Byte) (its : List Item) :
    unbatchedIn dish (claimItems serial dish its bs).1 = unbatchedIn dish its - (bs.map Batch.spare).sum ∧
      Granted (unbatchedIn dish its) bs (claimItems serial dish its bs).2 := by
  induction its generalizing bs with
  | nil => exact ⟨by simp [claimItems], .refl bs⟩
  | cons it its ih =>
    by_cases hd : it.dish = dish
    · obtain ⟨h1, h2, h3⟩ := claimItem_of_room h hr it.unb
      obtain ⟨h4, h5⟩ := ih (claimed_claimItem h serial it.unb).nodup h3
      have hs := h2.spares
      simp only [claimItems, hd, beq_self_eq_true, if_true, unbatchedIn_cons]
      exact ⟨by omega, h2.trans h5⟩
    · simpa [claimItems, hd] using ih h hr

theorem gains_claimItem (serial : Serial) (n : Nat) (bs : List Batch) :
    ∀ c ∈ (claimItem serial n bs).2, ∃ b ∈ bs, Gains serial b c := by
  induction bs generalizing n with
  | nil => simp [claimItem]
  | cons b bs ih =>
    rw [claimItem_cons]
    refine List.forall_mem_cons.mpr ⟨⟨b, by simp, b.gains_claim serial n⟩, fun c hc => ?_⟩
    obtain ⟨x, hx, hg⟩ := ih _ c hc
    exact ⟨x, List.mem_cons_of_mem _ hx, hg⟩

/-- A ticket adds at most one entry to a batch. -/
theorem length_claimItems {serial : Serial} {dish : Byte} {its : List Item} {bs : List Batch}
    (h : ∀ b ∈ bs, (b.contribs.map (·.serial)).Nodup) :
    ∀ c ∈ (claimItems serial dish its bs).2, ∃ b ∈ bs, c.contribs.length ≤ b.contribs.length + 1 ∧
      (serial ∈ b.contribs.map (·.serial) → c.contribs.length ≤ b.contribs.length) := by
  induction its generalizing bs with
  | nil => exact fun c hc => ⟨c, hc, Nat.le_succ _, fun _ => le_rfl⟩
  | cons it its ih =>
    unfold claimItems
    split
    · intro c hc
      obtain ⟨x, hx, hlen, hin⟩ := ih (claimed_claimItem h serial it.unb).nodup c hc
      obtain ⟨b, hb, hg⟩ := gains_claimItem serial it.unb bs x hx
      have hnx := (claimed_claimItem h serial it.unb).nodup x hx
      refine ⟨b, hb, ?_⟩
      rcases hg with hg | hg
      · have hl : x.contribs.length = b.contribs.length := by simpa using congrArg List.length hg
        rw [hg] at hin
        exact ⟨by omega, fun hs => hl ▸ hin hs⟩
      · have hl : x.contribs.length = b.contribs.length + 1 := by simpa using congrArg List.length hg
        rw [hg] at hin hnx
        have hlt := hin (by simp)
        exact ⟨by omega, fun hs => ((List.nodup_append.mp hnx).2.2 serial hs serial (by simp) rfl).elim⟩
    · exact ih h

/-- Claims with room in every batch for an entry of every ticket. -/
theorem claimTickets_of_room {ref : Nat} {bs : List Batch} (dish : Byte) {ts : List Ticket}
    (h : ∀ b ∈ bs, (b.contribs.map (·.serial)).Nodup)
    (hr : ∀ b ∈ bs, b.contribs.length + (ts.filter (fun t => t.wave = ref)).length ≤ Config.contributorCapacity) :
    unbatchedOf ref dish (claimTickets ref dish ts bs).1 = unbatchedOf ref dish ts - (bs.map Batch.spare).sum ∧
      Granted (unbatchedOf ref dish ts) bs (claimTickets ref dish ts bs).2 := by
  induction ts generalizing bs with
  | nil => exact ⟨by simp [claimTickets], .refl bs⟩
  | cons t ts ih =>
    by_cases ht : t.wave = ref
    · simp only [List.filter_cons, ht, decide_true, if_true, List.length_cons] at hr
      obtain ⟨h1, h2⟩ := claimItems_of_room h (serial := t.serial) (fun b hb => .inr (by have := hr b hb; omega)) dish t.items
      obtain ⟨h3, h4⟩ := ih (claimed_claimItems h t.serial dish t.items).nodup fun c hc => by
        obtain ⟨b, hb, hlen, -⟩ := length_claimItems h c hc
        have := hr b hb
        omega
      have hs := h2.spares
      simp only [claimTickets, ht, beq_self_eq_true, if_true, unbatchedOf_cons]
      exact ⟨by omega, h2.trans h4⟩
    · simpa [claimTickets, ht] using ih h (by simpa [ht] using hr)

end Sys2Proof.Machine
end

section
/-! The three stages of formation (O35). -/

namespace Sys2Proof.Machine

open Device

/-! ### Lists put in order -/

/-- Inserting into a list in which no entry precedes the one before it leaves it such a list. -/
theorem isChain_insertBy {α : Type} {lt : α → α → Bool} (asymm : ∀ x y, lt x y = true → lt y x = false) (x : α)
    {l : List α} (h : l.IsChain (fun a b => lt b a = false)) :
    (insertBy lt x l).IsChain (fun a b => lt b a = false) := by
  induction l with
  | nil => exact .singleton x
  | cons y ys ih =>
    unfold insertBy
    split
    · next hxy => exact .cons_cons (asymm x y hxy) h
    · next hxy =>
      have hyx : lt x y = false := by simpa using hxy
      cases ys with
      | nil => exact .cons_cons hyx (.singleton x)
      | cons z zs =>
        obtain ⟨hyz, hzs⟩ := List.isChain_cons_cons.mp h
        have := ih hzs
        unfold insertBy at this ⊢
        split
        · next hxz => rw [if_pos hxz] at this; exact .cons_cons hyx this
        · next hxz => rw [if_neg hxz] at this; exact .cons_cons hyz this

theorem isChain_foldl_insertBy {α : Type} {lt : α → α → Bool} (asymm : ∀ x y, lt x y = true → lt y x = false) (l : List α)
    {acc : List α} (h : acc.IsChain (fun a b => lt b a = false)) :
    (l.foldl (fun acc x => insertBy lt x acc) acc).IsChain (fun a b => lt b a = false) := by
  induction l generalizing acc with
  | nil => exact h
  | cons x l ih => exact ih (isChain_insertBy asymm x h)

/-- In a list put in an order, no entry precedes the one before it. -/
theorem sortBy_adjacent {α : Type} {lt : α → α → Bool} (asymm : ∀ x y, lt x y = true → lt y x = false) {l : List α}
    {k : Nat} {b c : α} (hb : (sortBy lt l)[k]? = some b) (hc : (sortBy lt l)[k + 1]? = some c) : lt c b = false := by
  have h : (sortBy lt l).IsChain (fun a b => lt b a = false) := isChain_foldl_insertBy asymm l .nil
  obtain ⟨hk, rfl⟩ := List.getElem?_eq_some_iff.mp hc
  obtain ⟨_, rfl⟩ := List.getElem?_eq_some_iff.mp hb
  exact List.isChain_iff_getElem.mp h k hk

theorem formedEarlier_asymm (a b : Seq) (h : formedEarlier a b = true) : formedEarlier b a = false := by
  simp only [formedEarlier, Bool.and_eq_true, decide_eq_true_eq, Bool.and_eq_false_iff, decide_eq_false_iff_not] at h ⊢
  bv_omega

theorem before_asymm (a b : Tick) (h : before a b = true) : before b a = false := by
  simp only [before, Bool.and_eq_true, decide_eq_true_eq, Bool.and_eq_false_iff, decide_eq_false_iff_not] at h ⊢
  bv_omega

/-! ### The first stage: spares claimed (R82) -/

/-- The place of a batch's state in the order of claims (R82). -/
def Batch.claimRank (b : Batch) : Nat := if b.state == .holding then 0 else if b.state == .due then 1 else 2

/-- The tick by which claims order batches of one state (R82). -/
def Batch.claimTime (b : Batch) : Tick := if b.state == .holding then b.done.getD 0 else b.due.getD 0

theorem claimBefore_eq (a b : Batch) : claimBefore a b = (decide (a.claimRank < b.claimRank) ||
    (a.claimRank == b.claimRank && (before a.claimTime b.claimTime ||
      (a.claimTime == b.claimTime && formedEarlier a.seq b.seq)))) := rfl

theorem claimBefore_iff (a b : Batch) : claimBefore a b = true ↔ a.claimRank < b.claimRank ∨
    a.claimRank = b.claimRank ∧ (before a.claimTime b.claimTime = true ∨
      a.claimTime = b.claimTime ∧ formedEarlier a.seq b.seq = true) := by
  simp only [claimBefore_eq, Bool.or_eq_true, Bool.and_eq_true, decide_eq_true_eq, beq_iff_eq]

theorem claimBefore_eq_false_iff (a b : Batch) : claimBefore a b = false ↔ b.claimRank ≤ a.claimRank ∧
    (a.claimRank = b.claimRank → before a.claimTime b.claimTime = false ∧
      (a.claimTime = b.claimTime → formedEarlier a.seq b.seq = false)) := by
  rw [← Bool.not_eq_true, claimBefore_iff]
  constructor
  · intro h
    refine ⟨by omega, fun hr => ⟨?_, fun ht => ?_⟩⟩
    · exact Bool.eq_false_iff.mpr fun k => h (.inr ⟨hr, .inl k⟩)
    · exact Bool.eq_false_iff.mpr fun k => h (.inr ⟨hr, .inr ⟨ht, k⟩⟩)
  · rintro ⟨hle, heq⟩ (hlt | ⟨hr, hb | ⟨ht, hf⟩⟩)
    · omega
    · simp [(heq hr).1] at hb
    · simp [(heq hr).2 ht] at hf

theorem claimBefore_asymm (a b : Batch) (h : claimBefore a b = true) : claimBefore b a = false := by
  rw [claimBefore_eq_false_iff]
  rcases (claimBefore_iff a b).mp h with hlt | ⟨hr, hb | ⟨ht, hf⟩⟩
  · exact ⟨by omega, fun hr => by omega⟩
  · refine ⟨hr.le, fun _ => ⟨before_asymm _ _ hb, fun ht => ?_⟩⟩
    rw [ht] at hb
    have := before_asymm _ _ hb
    simp [hb] at this
  · refine ⟨hr.le, fun _ => ⟨?_, fun _ => formedEarlier_asymm _ _ hf⟩⟩
    rw [ht]
    exact Bool.eq_false_iff.mpr fun k => by have := before_asymm _ _ k; simp [k] at this

theorem Device.mem_claimable {d : Device} {ref : Nat} {dish : Byte} {b : Batch} :
    b ∈ d.claimable ref dish ↔ b ∈ d.bp.batches ∧ b.wave = ref ∧ b.dish = dish ∧ b.adopted = false ∧
      portionsOf b.contribs < b.portions ∧ (b.state = .holding ∨ b.state = .due ∨ b.state = .cooking) := by
  simp only [claimable, mem_sortBy, batchesOf, List.mem_filter, Bool.and_eq_true, Bool.or_eq_true, beq_iff_eq,
    Bool.not_eq_true', decide_eq_true_eq, Batch.spare, Nat.sub_pos_iff_lt]
  tauto

theorem Device.nodup_claimable {d : Device} (h : d.bp.Numbered) (ref : Nat) (dish : Byte) :
    ((d.claimable ref dish).map (·.bid)).Nodup :=
  ((sortBy_perm _ _).map _).nodup_iff.mpr
    (h.1.sublist (((List.filter_sublist (l := d.batchesOf ref)).trans List.filter_sublist).map _))

theorem find?_bid_of_mem {l : List Batch} (h : (l.map (·.bid)).Nodup) {b : Batch} (hb : b ∈ l) :
    l.find? (fun x => x.bid == b.bid) = some b := by
  cases hf : l.find? (fun x => x.bid == b.bid) with
  | none => exact absurd (beq_self_eq_true b.bid) (List.find?_eq_none.mp hf b hb)
  | some c =>
    have hc : c.bid = b.bid := by simpa using List.find?_some hf
    rw [List.inj_on_of_nodup_map h (List.mem_of_find?_eq_some hf) hb hc]

/-- A changed record stands in the pool once it is put back. -/
theorem mem_putBack {changed pool : List Batch} (h : (changed.map (·.bid)).Nodup) {b c : Batch} (hc : c ∈ changed)
    (hb : b ∈ pool) (hbc : b.bid = c.bid) : c ∈ putBack changed pool :=
  List.mem_map.mpr ⟨b, hb, by rw [hbc, find?_bid_of_mem h hc]; rfl⟩

/-- Claims with room for every entry leave what the spares do not cover (R82). -/
theorem Device.claimSpares_of_room {d : Device} {ref : Nat} {dish : Byte} (hn : d.bp.Numbered)
    (h : ∀ b ∈ d.claimable ref dish, (b.contribs.map (·.serial)).Nodup ∧
      b.contribs.length + (d.ti.tickets.filter (fun t => t.wave = ref)).length ≤ 16) :
    unbatchedOf ref dish (d.claimSpares ref dish).ti.tickets =
      unbatchedOf ref dish d.ti.tickets - ((d.claimable ref dish).map Batch.spare).sum ∧
    ∀ (k : Nat) (b : Batch), (d.claimable ref dish)[k]? = some b →
      ∃ x ∈ (d.claimSpares ref dish).bp.batches, x = { b with contribs := x.contribs } ∧
        portionsOf x.contribs = portionsOf b.contribs +
          min b.spare (unbatchedOf ref dish d.ti.tickets - (((d.claimable ref dish).take k).map Batch.spare).sum) := by
  have hnodup : ∀ b ∈ d.claimable ref dish, (b.contribs.map (·.serial)).Nodup := fun b hb => (h b hb).1
  obtain ⟨hleft, hgrant⟩ := claimTickets_of_room dish hnodup fun b hb => (h b hb).2
  refine ⟨hleft, fun k b hb => ?_⟩
  obtain ⟨c, hc, hcb, hp⟩ := hgrant.getElem? hb
  have hids := (claimed_claimTickets hnodup ref dish d.ti.tickets).bids
  have hmem : b ∈ d.bp.batches := (mem_claimable.mp (List.mem_of_getElem? hb)).1
  exact ⟨c, mem_putBack (hids ▸ nodup_claimable hn ref dish) hc hmem (by rw [hcb]), hcb, hp⟩

/-! ### The second stage: room filled (R113) -/

theorem Device.mem_fillable {d : Device} {ref : Nat} {dish : Byte} {b : Batch} :
    b ∈ d.fillable ref dish ↔ b ∈ d.bp.batches ∧ b.wave = ref ∧ b.dish = dish ∧ b.state = .formed ∧
      b.adopted = false ∧ b.portions < d.sizeOf dish ∧ ∀ f, d.fe.inFlight = some f → f.entry ≠ .offer b.bid := by
  have hfly : d.offerFlying b.bid = false ↔ ∀ f, d.fe.inFlight = some f → f.entry ≠ .offer b.bid := by
    unfold offerFlying
    cases d.fe.inFlight with
    | none => simp
    | some f => simp
  simp only [fillable, mem_sortBy, batchesOf, List.mem_filter, Bool.and_eq_true, beq_iff_eq, Bool.not_eq_true',
    decide_eq_true_eq, hfly]
  tauto

theorem Device.nodup_fillable {d : Device} (h : d.bp.Numbered) (ref : Nat) (dish : Byte) :
    ((d.fillable ref dish).map (·.bid)).Nodup :=
  ((sortBy_perm _ _).map _).nodup_iff.mpr
    (h.1.sublist (((List.filter_sublist (l := d.batchesOf ref)).trans List.filter_sublist).map _))

/-- A batch with the portions drawn for its room. -/
def Device.filled (d : Device) (ref : Nat) (dish : Byte) (b : Batch) : Batch :=
  { b with
    portions := b.portions + portionsOf (drawTickets ref dish (d.sizeOf dish - b.portions) d.ti.tickets).2
    contribs := (drawTickets ref dish (d.sizeOf dish - b.portions) d.ti.tickets).2.foldl addContrib b.contribs }

theorem Device.fillBatch_tickets (ref : Nat) (dish : Byte) (b : Batch) (d : Device) :
    (d.fillBatch ref dish b).ti.tickets = (drawTickets ref dish (d.sizeOf dish - b.portions) d.ti.tickets).1 := rfl

theorem Device.mem_fillBatch_same {d : Device} {b : Batch} (hb : b ∈ d.bp.batches) (ref : Nat) (dish : Byte) :
    d.filled ref dish b ∈ (d.fillBatch ref dish b).bp.batches :=
  List.mem_map.mpr ⟨b, hb, by simp [filled]⟩

theorem Device.mem_fillBatch_other {d : Device} {b x : Batch} (hx : x ∈ d.bp.batches) (hne : x.bid ≠ b.bid) (ref : Nat)
    (dish : Byte) : x ∈ (d.fillBatch ref dish b).bp.batches :=
  List.mem_map.mpr ⟨x, hx, by simp [hne]⟩

theorem Device.mem_fillBatches_other {d : Device} {bs : List Batch} {x : Batch} (hx : x ∈ d.bp.batches)
    (hne : ∀ b ∈ bs, x.bid ≠ b.bid) (ref : Nat) (dish : Byte) :
    x ∈ (bs.foldl (fun y b => y.fillBatch ref dish b) d).bp.batches := by
  induction bs generalizing d with
  | nil => exact hx
  | cons b bs ih =>
    obtain ⟨hb, hbs⟩ := List.forall_mem_cons.mp hne
    exact ih (mem_fillBatch_other hx hb ref dish) hbs

/-- The room of batches filled one after the other takes what it can of the unbatched portions (R113). -/
theorem Device.fillBatches {d : Device} {bs : List Batch} (ref : Nat) (dish : Byte) (hn : (bs.map (·.bid)).Nodup)
    (hmem : ∀ b ∈ bs, b ∈ d.bp.batches) :
    unbatchedOf ref dish (bs.foldl (fun y b => y.fillBatch ref dish b) d).ti.tickets =
      unbatchedOf ref dish d.ti.tickets - (bs.map (fun b => d.sizeOf dish - b.portions)).sum ∧
    ∀ (k : Nat) (b : Batch), bs[k]? = some b →
      ∃ x ∈ (bs.foldl (fun y b => y.fillBatch ref dish b) d).bp.batches,
        x = { b with portions := x.portions, contribs := x.contribs } ∧
        x.portions = b.portions + min (d.sizeOf dish - b.portions)
          (unbatchedOf ref dish d.ti.tickets - ((bs.take k).map (fun y => d.sizeOf dish - y.portions)).sum) ∧
        ((b.contribs.map (·.serial)).Nodup →
          portionsOf x.contribs + b.portions = portionsOf b.contribs + x.portions) := by
  induction bs generalizing d with
  | nil => exact ⟨by simp, by simp⟩
  | cons c bs ih =>
    obtain ⟨hc, hbs⟩ := List.forall_mem_cons.mp hmem
    obtain ⟨hnc, hnbs⟩ := List.nodup_cons.mp hn
    have hne : ∀ b ∈ bs, b.bid ≠ c.bid := fun b hb k => hnc (List.mem_map.mpr ⟨b, hb, k⟩)
    have hleft : unbatchedOf ref dish (d.fillBatch ref dish c).ti.tickets =
        unbatchedOf ref dish d.ti.tickets - (d.sizeOf dish - c.portions) := by
      rw [fillBatch_tickets, unbatchedOf_drawTickets]
    have hsize : (d.fillBatch ref dish c).sizeOf dish = d.sizeOf dish := rfl
    obtain ⟨h1, h2⟩ := ih hnbs fun b hb => mem_fillBatch_other (hbs b hb) (hne b hb) ref dish
    rw [hleft, hsize] at h1 h2
    refine ⟨by rw [List.foldl_cons, h1, List.map_cons, List.sum_cons, Nat.sub_sub], fun k b hb => ?_⟩
    cases k with
    | zero =>
      obtain rfl : c = b := by simpa using hb
      have hdraw := portionsOf_drawTickets ref dish (d.sizeOf dish - c.portions) d.ti.tickets
      refine ⟨d.filled ref dish c, ?_, rfl, ?_, fun hs => ?_⟩
      · exact mem_fillBatches_other (mem_fillBatch_same hc ref dish) (fun b hb => (hne b hb).symm) ref dish
      · simpa [filled] using hdraw
      · simp only [filled, portionsOf_addContribs hs]
        omega
    | succ k =>
      obtain ⟨x, hx, hxb, hxp, hxs⟩ := h2 k b (by simpa using hb)
      refine ⟨x, hx, hxb, ?_, hxs⟩
      rw [hxp, List.take_succ_cons, List.map_cons, List.sum_cons, Nat.sub_sub]

/-! ### The third stage: batches created (R114) -/

/-- The record that formation would create now, with the identity and sequence it takes. -/
def Device.nextBatch (d : Device) (ref : Nat) (dish : Byte) : Batch :=
  { d.formedBatch ref dish (drawTickets ref dish (d.sizeOf dish) d.ti.tickets).2 with
    bid := d.bp.nextBid, seq := d.bp.counter }

/-- One batch created (R114). -/
def Device.createBatch (ref : Nat) (dish : Byte) (d : Device) : Device :=
  (((d.onTi (fun t => { t with tickets := (drawTickets ref dish (d.sizeOf dish) d.ti.tickets).1 })).addBatch
    (d.formedBatch ref dish (drawTickets ref dish (d.sizeOf dish) d.ti.tickets).2)).lowerDemand ref dish
      (portionsOf (drawTickets ref dish (d.sizeOf dish) d.ti.tickets).2)).joinFire d.bp.nextBid

theorem Device.createBatches_succ (ref : Nat) (dish : Byte) (free : Nat) (d : Device) :
    d.createBatches ref dish (free + 1) =
      if (drawTickets ref dish (d.sizeOf dish) d.ti.tickets).2 = [] then d
      else (d.createBatch ref dish).createBatches ref dish free := by
  rw [createBatches]
  simp only [List.isEmpty_iff]
  rfl

/-- Joining the fire queue changes the queue alone. -/
theorem Device.joinFire_eq (bid : Nat) (d : Device) : ∃ q, d.joinFire bid = d.onBp (fun p => { p with fireQ := q }) := by
  unfold joinFire
  split
  · exact ⟨_, rfl⟩
  · exact ⟨d.bp.fireQ, rfl⟩

/-- What a created batch leaves, but for the order of the fire queue. -/
theorem Device.createBatch_eq (ref : Nat) (dish : Byte) (d : Device) : ∃ q, d.createBatch ref dish =
    (((d.onTi (fun t => { t with tickets := (drawTickets ref dish (d.sizeOf dish) d.ti.tickets).1 })).addBatch
      (d.formedBatch ref dish (drawTickets ref dish (d.sizeOf dish) d.ti.tickets).2)).lowerDemand ref dish
        (portionsOf (drawTickets ref dish (d.sizeOf dish) d.ti.tickets).2)).onBp (fun p => { p with fireQ := q }) :=
  joinFire_eq _ _

theorem Device.createBatch_batches (ref : Nat) (dish : Byte) (d : Device) :
    (d.createBatch ref dish).bp.batches = d.bp.batches ++ [d.nextBatch ref dish] := by
  obtain ⟨q, hq⟩ := createBatch_eq ref dish d
  rw [hq]
  rfl

theorem Device.createBatch_counters (ref : Nat) (dish : Byte) (d : Device) :
    (d.createBatch ref dish).bp.nextBid = d.bp.nextBid + 1 ∧ (d.createBatch ref dish).bp.counter = d.bp.counter + 1 := by
  obtain ⟨q, hq⟩ := createBatch_eq ref dish d
  rw [hq]
  exact ⟨rfl, rfl⟩

theorem Device.createBatch_tickets (ref : Nat) (dish : Byte) (d : Device) : (d.createBatch ref dish).ti.tickets =
    (drawTickets ref dish (d.sizeOf dish) d.ti.tickets).1 := by
  obtain ⟨q, hq⟩ := createBatch_eq ref dish d
  rw [hq]
  rfl

theorem Device.createBatch_sp (ref : Nat) (dish : Byte) (d : Device) : (d.createBatch ref dish).sp = d.sp := by
  obtain ⟨q, hq⟩ := createBatch_eq ref dish d
  rw [hq]
  rfl

theorem Device.createBatch_sizeOf (ref : Nat) (dish c : Byte) (d : Device) :
    (d.createBatch ref dish).sizeOf c = d.sizeOf c := by
  simp only [sizeOf, dish?, createBatch_sp]

/-- Reading a wave after a wave was changed. -/
theorem Device.wave?_onWave {f : Wave → Wave} (hf : ∀ w, (f w).ref = w.ref) (r ref : Nat) (d : Device) :
    (d.onWave r f).wave? ref = (d.wave? ref).map (fun w => if w.ref == r then f w else w) := by
  unfold wave?
  rw [onWave_waves, List.find?_map]
  congr 2
  funext w
  simp only [Function.comp_apply]
  split
  · rw [hf]
  · rfl

theorem Device.goOf_lowerDemand (r ref : Nat) (c : Byte) (n : Nat) (d : Device) :
    (d.lowerDemand r c n).goOf ref = d.goOf ref := by
  unfold goOf lowerDemand
  rw [wave?_onWave fun _ => by rfl]
  cases d.wave? ref with
  | none => rfl
  | some w =>
    simp only [Option.map_some, Option.bind_some]
    split <;> rfl

theorem Device.createBatch_goOf (ref r : Nat) (dish : Byte) (d : Device) :
    (d.createBatch ref dish).goOf r = d.goOf r := by
  obtain ⟨q, hq⟩ := createBatch_eq ref dish d
  rw [hq]
  exact goOf_lowerDemand _ _ _ _ _

theorem ceilDiv_succ {u size : Nat} (hu : 1 ≤ u) (hs : 1 ≤ size) :
    (u + size - 1) / size = (u - size + size - 1) / size + 1 := by
  rw [show u + size - 1 = u - 1 + size by omega, Nat.add_div_right _ hs]
  rcases Nat.lt_or_ge u size with h | h
  · rw [Nat.div_eq_of_lt (by omega), Nat.div_eq_of_lt (by omega)]
  · rw [show u - size + size - 1 = u - 1 by omega]

/-- Formation's third stage creates batches of the dish, each full but for the last (R114). -/
theorem Device.createBatches_new {d : Device} {ref : Nat} {dish : Byte} {size : Nat} {go : Tick} (free : Nat)
    (h1 : 1 ≤ size) (hs : size = d.sizeOf dish) (hg : go = d.goOf ref) :
    ∃ new : List Batch,
      (d.createBatches ref dish free).bp.batches = d.bp.batches ++ new ∧
      new.length = min free ((unbatchedOf ref dish d.ti.tickets + size - 1) / size) ∧
      (new.map (·.portions)).sum = min (free * size) (unbatchedOf ref dish d.ti.tickets) ∧
      unbatchedOf ref dish (d.createBatches ref dish free).ti.tickets =
        unbatchedOf ref dish d.ti.tickets - free * size ∧
      (d.createBatches ref dish free).bp.counter = d.bp.counter + BitVec.ofNat 16 new.length ∧
      (∀ (k : Nat) (b : Batch), new[k]? = some b →
        b.bid = d.bp.nextBid + k ∧ b.seq = d.bp.counter + BitVec.ofNat 16 k ∧ b.wave = ref ∧ b.dish = dish ∧
        b.state = .formed ∧ b.staged = false ∧ b.lane = none ∧ b.refire = 0 ∧ b.attempts = 0 ∧ b.late = false ∧
        b.adopted = false ∧ b.offerPending = false ∧
        b.portions = min size (unbatchedOf ref dish d.ti.tickets - k * size) ∧ b.portions = portionsOf b.contribs ∧
        b.ls = go - BitVec.ofNat 24 d.sp.config.margin - BitVec.ofNat 24 (d.cookOf dish) ∧
        b.rl = b.ls - BitVec.ofNat 24 (d.holdOf dish)) := by
  induction free generalizing d with
  | zero => exact ⟨[], by simp [createBatches], by simp, by simp, by simp [createBatches], by simp [createBatches], by simp⟩
  | succ free ih =>
    have hdrawn := portionsOf_drawTickets ref dish (d.sizeOf dish) d.ti.tickets
    have hnil := drawTickets_eq_nil_iff ref dish (d.sizeOf dish) d.ti.tickets
    rw [createBatches_succ]
    by_cases hu : unbatchedOf ref dish d.ti.tickets = 0
    · rw [if_pos (hnil.mpr (.inr hu))]
      refine ⟨[], by simp, ?_, by simp [hu], by simp [hu], by simp, by simp⟩
      rw [hu, Nat.div_eq_of_lt (by omega)]
      simp
    · rw [if_neg fun k => by rcases hnil.mp k with k | k <;> omega]
      obtain ⟨new, hb, hlen, hsum, hleft, hc, hnew⟩ := ih (d := d.createBatch ref dish)
        (by rw [createBatch_sizeOf]; exact hs) (by rw [createBatch_goOf]; exact hg)
      have hcook : (d.createBatch ref dish).cookOf dish = d.cookOf dish := by simp only [cookOf, dish?, createBatch_sp]
      have hhold : (d.createBatch ref dish).holdOf dish = d.holdOf dish := by simp only [holdOf, dish?, createBatch_sp]
      have htake : unbatchedOf ref dish (d.createBatch ref dish).ti.tickets =
          unbatchedOf ref dish d.ti.tickets - size := by
        rw [createBatch_tickets, unbatchedOf_drawTickets, hs]
      rw [htake] at hlen hsum hleft hnew
      rw [(createBatch_counters ref dish d).1, (createBatch_counters ref dish d).2, hcook, hhold, createBatch_sp] at hnew
      have hport : (d.nextBatch ref dish).portions = min size (unbatchedOf ref dish d.ti.tickets) :=
        hdrawn.trans (by rw [hs])
      refine ⟨d.nextBatch ref dish :: new, by rw [hb, createBatch_batches, List.append_assoc]; rfl, ?_, ?_, ?_, ?_, ?_⟩
      · rw [List.length_cons, hlen, ceilDiv_succ (u := unbatchedOf ref dish d.ti.tickets) (by omega) h1]
        omega
      · rw [List.map_cons, List.sum_cons, hsum, hport, Nat.succ_mul]
        omega
      · rw [hleft, Nat.succ_mul]
        omega
      · rw [hc, (createBatch_counters ref dish d).2, List.length_cons, Nat.add_comm new.length 1, BitVec.ofNat_add,
          BitVec.add_assoc]
        rfl
      · intro k b hk
        cases k with
        | zero =>
          obtain rfl : d.nextBatch ref dish = b := by simpa using hk
          exact ⟨rfl, by simp [nextBatch], rfl, rfl, rfl, rfl, rfl, rfl, rfl, rfl, rfl, rfl, by simpa using hport, rfl,
            by rw [hg]; rfl, rfl⟩
        | succ k =>
          obtain ⟨e1, e2, e3, e4, e5, e6, e7, e8, e9, e10, e11, e12, e13, e14, e15, e16⟩ := hnew k b (by simpa using hk)
          refine ⟨by omega, ?_, e3, e4, e5, e6, e7, e8, e9, e10, e11, e12, ?_, e14, e15, e16⟩
          · rw [e2, Nat.add_comm k 1, BitVec.ofNat_add, BitVec.add_assoc]
            rfl
          · rw [e13, Nat.sub_sub, Nat.succ_mul, Nat.add_comm]

end Sys2Proof.Machine

namespace Sys2Proof

open Machine Machine.Device

/-- Settles O35: the draws and the three stages, each by induction on what it goes through one after the other; the order of
claims and of filling from the order in which the candidates are put. -/
theorem formationCreates : Obligations.FormationCreates := by
  unfold Obligations.FormationCreates
  refine ⟨fun ref dish n ts => ⟨portionsOf_drawTickets ref dish n ts, unbatchedOf_drawTickets ref dish n ts,
    fun r c h => unbatchedOf_drawTickets_other h n ts, serials_drawTickets ref dish n ts,
    fun c hc => portions_pos_of_drawTickets hc⟩, fun d ref dish free size go h1 hs hg => createBatches_new free h1 hs hg,
    fun d ref dish hids _ => ?_⟩
  have hn : d.bp.Numbered := ⟨hids.2.2.1, hids.2.2.2.1⟩
  refine ⟨fun b => mem_claimable, fun k b c hb hc => ?_, claimSpares_of_room hn, fun b => mem_fillable,
    fun k b c hb hc => sortBy_adjacent (lt := fun x y : Batch => formedEarlier y.seq x.seq)
      (fun x y => formedEarlier_asymm y.seq x.seq) hb hc,
    fillBatches ref dish (nodup_fillable hn ref dish) fun b hb => (mem_fillable.mp hb).1⟩
  obtain ⟨hrank, htie⟩ := (claimBefore_eq_false_iff c b).mp (sortBy_adjacent claimBefore_asymm hb hc)
  obtain ⟨-, -, -, -, -, hbst⟩ := mem_claimable.mp (List.mem_of_getElem? hb)
  refine ⟨fun hst => ?_, fun hst hbc => ?_, fun hst hno => ?_⟩
  · have hbh : b.state = .holding := by
      rcases hbst with h | h | h <;> simp_all [Batch.claimRank]
    obtain ⟨h2, h3⟩ := htie (by simp [Batch.claimRank, hst, hbh])
    simp only [Batch.claimTime, hst, hbh, beq_self_eq_true, if_true] at h2 h3
    exact ⟨hbh, h2, fun h => h3 h.symm⟩
  · simp [Batch.claimRank, hst, hbc] at hrank
  · obtain ⟨h2, h3⟩ := htie (by simp [Batch.claimRank, hst])
    have hno' : (b.state == .holding) = false := by simpa using hno
    simp only [Batch.claimTime, hst, hno', Bool.false_eq_true, if_false] at h2 h3
    exact ⟨h2, fun h => h3 h.symm⟩

end Sys2Proof
end

section
/-! Statements that assume of the records only that they are told apart (O22, O24, O25, O34). A device may then hold a
COOKING batch in the fire queue, where R116 has FORMED ones alone, and dispatch calls it; or a contributor list with one
serial twice, where R82 has each once, and a claim raises both entries. The steps from such devices leave what the
statements exclude. -/

namespace Sys2Proof.Machine

open Device

/-! ### The devices -/

/-- Station 21 of class 2 ON_LINE at 106,680, with two lanes of kind 0 and one dish. -/
def counterStation : Device :=
  { Device.reset 21 2 with
    sck := { Sck.reset with tick := 106680 }
    fe := { Fe.reset with station := .onLine, viewFrom := some 0 }
    sp := { Sp.reset with
      config := { Configuration.defaults with laneCount := 2 }
      menu := [⟨31, 0, 3840, 1920, 480, 6⟩] } }

/-- Wave 40 of pass 8, SET. -/
def counterWave (go : Tick) : Wave :=
  { ref := 0, id := some { pass := 8, num := 40 }, call := some 110400, lead := some 6400, close := some 104000,
    state := .goSet, go := some go, slips := 0, heardFrom := 100000, partialMark := false, far := false,
    participants := [], own := .absent, est := none, lines := [], adoptedOnly := false, anonymous := false,
    pickupPending := false }

/-- A batch of six of that wave, released. -/
def counterBatch (bid : Nat) (st : BatchState) (lane : Option (Fin 8)) (cs : List Contrib) : Batch :=
  { bid := bid, seq := BitVec.ofNat 16 bid, wave := 0, dish := 31, portions := 6, contribs := cs, state := st,
    staged := false, ls := 107160, rl := 106680, lane := lane, start := none, due := none, turn := none, done := none,
    refire := 0, late := false, attempts := 0, lastOffer := none, outcome := none, offerPending := false, adopted := false }

/-- One batch CALLED on lane 0 and one COOKING on lane 1, the COOKING one in the fire queue. -/
def cookingQueued (go : Tick) : Device :=
  { counterStation.onLane 0 (fun l => { l with state := .called, current := some 0 }) with
    wu := { waves := [counterWave go], nextRef := 1 }
    ti := { tickets := [⟨8, 2002, 0, [⟨31, 12, 0⟩]⟩], issues := [] }
    bp := { counterStation.bp with
      batches := [counterBatch 0 .called (some 0) [⟨2002, 6⟩], counterBatch 1 .cooking (some 1) [⟨2002, 6⟩]]
      fireQ := [1]
      nextBid := 2 } }

/-- One HOLDING batch with four spares that lists ticket 2003 twice. -/
def listedTwice : Device :=
  { counterStation with
    wu := { waves := [counterWave 111016], nextRef := 1 }
    bp := { counterStation.bp with
      batches := [counterBatch 0 .holding none [⟨2003, 1⟩, ⟨2003, 1⟩]]
      nextBid := 1 } }

/-- A machine of a device with nothing waiting. -/
def counterState (d : Device) : State := { dev := d, pending := [] }

/-- A frame of pass 8 heard whole and accepted. -/
def heardFromPass (b : Body) : Heard :=
  { elapsed := 0, slots := 11, silentA := 0, silentB := 0, agree := true, lasted := 0, upTo := .accept,
    fields := ({ sender := 8, cls := 0, stamp := (106680 : Tick) ++ (0 : Byte), body := b } : Frame).raw.slots,
    gap := Vector.replicate 4 (Slot.symbol true), short := Slot.symbol true, final := Slot.symbol true }

/-- What a test says of the device that a command leaves. -/
def leaves (c : Instr) (d : Device) (p : Device → Bool) : Bool :=
  match exec c (counterState d) with
  | .next t => p t.dev
  | .fault _ => false
  | .refused _ => false

theorem leaves_next {c : Instr} {d : Device} {p : Device → Bool} {t : State} (h : leaves c d p = true)
    (ht : exec c (counterState d) = .next t) : p t.dev = true := by
  unfold leaves at h
  rw [ht] at h
  exact h

theorem idsOk_cookingQueued (go : Tick) : (cookingQueued go).idsOk := by
  simp [idsOk, cookingQueued, counterWave, counterBatch]

end Sys2Proof.Machine

namespace Sys2Proof

open Machine Machine.Device

/-- Refutes O25: the CALLED batch leaves at the pickup, and dispatch calls the COOKING one from the fire queue to its lane, so
that the wave keeps a CALLED batch. The statement assumes the identities apart and not R116's law of the fire queue. -/
theorem not_pickupFrameApplied : ¬ Obligations.PickupFrameApplied := by
  unfold Obligations.PickupFrameApplied
  intro h
  obtain ⟨-, h⟩ := h (counterState (cookingQueued 111016)) (heardFromPass (.pickup 40)) 40
    (by unfold hears; decide +kernel) (.inl rfl) (fun _ => by decide) (idsOk_cookingQueued _)
    (by unfold heardGood; decide +kernel)
  obtain ⟨t, ht, -, -, -, -, -, -, -, hheat⟩ := h (counterWave 111016) (by decide) rfl (by decide)
  obtain ⟨-, -, hleft, -⟩ := hheat rfl ⟨counterBatch 1 .cooking (some 1) [⟨2002, 6⟩], by decide, rfl, .inl rfl⟩
  have hcalled := leaves_next (p := fun d => d.bp.batches.any (fun b => b.wave == 0 && b.state == .called))
    (by decide +kernel) ht
  obtain ⟨b, hb, hbad⟩ := List.any_eq_true.mp hcalled
  simp only [Bool.and_eq_true, beq_iff_eq] at hbad
  rcases hleft b hb hbad.1 with k | k <;> simp [hbad.2] at k

/-- Refutes O34: the abandonment takes the CALLED batch, and dispatch calls the COOKING one from the fire queue, so that the
wave keeps a CALLED batch. The statement assumes the identities apart and not R116's law of the fire queue. -/
theorem not_waveAbandons : ¬ Obligations.WaveAbandons := by
  unfold Obligations.WaveAbandons
  intro h
  obtain ⟨h, -⟩ := h (counterState (cookingQueued (106680 - 28800))) 8 40 (counterWave (106680 - 28800))
    (idsOk_cookingQueued _) (by decide) rfl rfl
  obtain ⟨t, ht, -, -, -, -, hleft, -⟩ := h (by decide)
  have hcalled := leaves_next (p := fun d => d.bp.batches.any (fun b => b.wave == 0 && b.state == .called))
    (by decide +kernel) ht
  obtain ⟨b, hb, hbad⟩ := List.any_eq_true.mp hcalled
  simp only [Bool.and_eq_true, beq_iff_eq] at hbad
  rcases hleft b hb hbad.1 with k | k <;> simp [hbad.2] at k

/-- Refutes O24: the VOID frees the CALLED batch, dispatch calls the COOKING one from the fire queue, and this, no longer on
the heat when its turn comes, is freed too. The statement assumes the identities apart and not R116's law of the fire
queue. -/
theorem not_voidFrameApplied : ¬ Obligations.VoidFrameApplied := by
  unfold Obligations.VoidFrameApplied
  rintro ⟨-, h, -⟩
  obtain ⟨-, h⟩ := h (counterState (cookingQueued 111016)) (heardFromPass (.void 40 2002)) 40 2002 (counterWave 111016) _
    True (by unfold hears; decide +kernel) (.inl rfl) (fun _ => by decide) (idsOk_cookingQueued _) (by decide)
    (by unfold heardGood; decide +kernel) (by decide) ⟨fun _ => ⟨_, List.mem_singleton.mpr rfl, rfl, rfl, rfl⟩, fun _ => trivial⟩
    rfl
  obtain ⟨t, ht, -, -, -, -, -, -, -, -, hstays⟩ := h (by decide)
  obtain ⟨hlisted, -⟩ := hstays (counterBatch 1 .cooking (some 1) [⟨2002, 6⟩]) (by decide)
  have hkept := hlisted rfl ⟨⟨2002, 6⟩, by decide, rfl⟩ (.inl trivial)
  rw [if_neg (by decide)] at hkept
  obtain ⟨x, hx, -⟩ := hkept
  have hgone := leaves_next (p := fun d => d.bp.batches.isEmpty) (by decide +kernel) ht
  rw [List.isEmpty_iff.mp hgone] at hx
  cases hx

/-- Refutes O22: of the three portions filed, the claim puts three into each of the two entries that the HOLDING batch has
for the serial, so that the batches list six more. The statement does not assume R82's law that a batch lists a serial
once. -/
theorem not_ticketFrameFiled : ¬ Obligations.TicketFrameFiled := by
  unfold Obligations.TicketFrameFiled
  rintro ⟨-, h, -⟩
  obtain ⟨t, ht, -, -, -, -, -, -, -, -, x, hx, -, -, hfiled⟩ := h (counterState listedTwice)
    (heardFromPass (.ticket 40 2003 110400 6400 false 0 [⟨31, 3⟩])) 40 2003 110400 6400 false 0 [⟨31, 3⟩] [⟨31, 3⟩]
    (counterWave 111016)
    ⟨by unfold hears; decide +kernel, .inl rfl, fun _ => by decide, by unfold idsOk; decide, by decide, by decide,
      by decide, by decide, by decide, by decide⟩
    (by unfold heardGood; decide +kernel) (by decide) rfl (.inl rfl) (by decide)
  obtain ⟨-, -, hin, -⟩ := hfiled (by decide) (by decide) (by decide) (by decide)
  have hsix := leaves_next (p := fun d => d.inBatches 0 2003 31 == 8) (by decide +kernel) ht
  have hfive : t.dev.inBatches 0 2003 31 = 5 := (hin 31).trans (by decide)
  exact absurd (hfive.symm.trans (beq_iff_eq.mp hsix)) (by decide)

end Sys2Proof
end

section
/-! The books of the part (O51, O56): what its identities and its accounts are about, and their laws. -/

namespace Sys2Proof.Machine

open Device

/-! ### What the books hold -/

/-- What the books hold of a wave record. -/
structure WaveEntry where
  ref       : Nat
  anonymous : Bool
  id        : Option WaveId
  lines     : List DishLine

/-- What the books hold of a batch. -/
structure BatchEntry where
  bid      : Nat
  wave     : Nat
  dish     : Byte
  adopted  : Bool
  contribs : List Contrib

/-- The records of waves, tickets, batches and handed batches, the batch whose OFFER is in flight, and the frame of a TICKET
that the station decided to hold. -/
structure Ledger where
  waves   : List WaveEntry
  nextRef : Nat
  tickets : List Ticket
  batches : List BatchEntry
  nextBid : Nat
  handed  : List Handed
  offer   : Option Nat
  hold    : Option (Option (Kind × RawFrame))

def Wave.entry (w : Wave) : WaveEntry := { ref := w.ref, anonymous := w.anonymous, id := w.id, lines := w.lines }

def Batch.entry (b : Batch) : BatchEntry :=
  { bid := b.bid, wave := b.wave, dish := b.dish, adopted := b.adopted, contribs := b.contribs }

/-- The batch that a frame in flight offers. -/
def InFlight.offered (f : InFlight) : Option Nat :=
  match f.entry with
  | .offer bid => some bid
  | _ => none

theorem InFlight.offered_eq_some {f : InFlight} {bid : Nat} : f.offered = some bid ↔ f.entry = .offer bid := by
  unfold offered
  split
  · next k he => simp [he]
  · next hn => exact ⟨nofun, fun he => (hn _ he).elim⟩

/-- What is known of the frame of a TICKET that the station decided to hold. -/
def Rx.held (r : Rx) : Option (Option (Kind × RawFrame)) := if r.ticket = .hold then some r.frame else none

theorem Rx.held_eq_some {r : Rx} {f : Option (Kind × RawFrame)} : r.held = some f ↔ r.ticket = .hold ∧ r.frame = f := by
  unfold held
  split
  · next h => simp [h]
  · next h => simp [h]

/-- The books of the part. -/
def Device.books (d : Device) : Ledger where
  waves   := d.wu.waves.map Wave.entry
  nextRef := d.wu.nextRef
  tickets := d.ti.tickets
  batches := d.bp.batches.map Batch.entry
  nextBid := d.bp.nextBid
  handed  := d.bp.handed
  offer   := d.fe.inFlight.bind InFlight.offered
  hold    := d.fe.rx.bind Rx.held

/-! ### The accounts -/

/-- The quantity of a dish among items. -/
def quantityIn (dish : Byte) (its : List Item) : Nat := (its.map (fun it => if it.dish = dish then it.qty else 0)).sum

@[simp] theorem quantityIn_nil (dish : Byte) : quantityIn dish [] = 0 := rfl

@[simp] theorem quantityIn_cons (dish : Byte) (it : Item) (its : List Item) :
    quantityIn dish (it :: its) = (if it.dish = dish then it.qty else 0) + quantityIn dish its := by
  simp [quantityIn]

@[simp] theorem quantityOf_nil (ref : Nat) (s : Serial) (dish : Byte) : quantityOf ref s dish [] = 0 := rfl

@[simp] theorem quantityOf_cons (ref : Nat) (s : Serial) (dish : Byte) (t : Ticket) (ts : List Ticket) :
    quantityOf ref s dish (t :: ts) =
      (if t.wave = ref ∧ t.serial = s then quantityIn dish t.items else 0) + quantityOf ref s dish ts := by
  by_cases h : t.wave = ref ∧ t.serial = s <;> simp [quantityOf, quantityIn, h, sum_filter_map]

@[simp] theorem quantityOf_append (ref : Nat) (s : Serial) (dish : Byte) (ts us : List Ticket) :
    quantityOf ref s dish (ts ++ us) = quantityOf ref s dish ts + quantityOf ref s dish us := by
  simp [quantityOf]

/-- The unbatched portions of a dish in the tickets of a serial filed against a record. -/
def unbatchedBy (ref : Nat) (s : Serial) (dish : Byte) (ts : List Ticket) : Nat :=
  unbatchedOf ref dish (ts.filter (fun t => t.serial = s))

@[simp] theorem unbatchedBy_nil (ref : Nat) (s : Serial) (dish : Byte) : unbatchedBy ref s dish [] = 0 := rfl

@[simp] theorem unbatchedBy_cons (ref : Nat) (s : Serial) (dish : Byte) (t : Ticket) (ts : List Ticket) :
    unbatchedBy ref s dish (t :: ts) =
      (if t.wave = ref ∧ t.serial = s then unbatchedIn dish t.items else 0) + unbatchedBy ref s dish ts := by
  by_cases h : t.serial = s <;> simp [unbatchedBy, h]

@[simp] theorem unbatchedBy_append (ref : Nat) (s : Serial) (dish : Byte) (ts us : List Ticket) :
    unbatchedBy ref s dish (ts ++ us) = unbatchedBy ref s dish ts + unbatchedBy ref s dish us := by
  simp [unbatchedBy]

/-- What a batch lists for a serial and a dish of a record. -/
def BatchEntry.share (ref : Nat) (s : Serial) (dish : Byte) (b : BatchEntry) : Nat :=
  if b.wave = ref ∧ b.dish = dish ∧ b.adopted = false then listedFor s b.contribs else 0

/-- What a handed record lists for a serial and a dish of a record. -/
def Handed.share (ref : Nat) (s : Serial) (dish : Byte) (r : Handed) : Nat :=
  if r.wave = ref ∧ r.dish = dish then listedFor s r.contribs else 0

/-- What the batches list for a serial and a dish of a record. -/
def sharesOf (ref : Nat) (s : Serial) (dish : Byte) (bs : List BatchEntry) : Nat := (bs.map (BatchEntry.share ref s dish)).sum

/-- What the handed records list for a serial and a dish of a record. -/
def handedOf (ref : Nat) (s : Serial) (dish : Byte) (hs : List Handed) : Nat := (hs.map (Handed.share ref s dish)).sum

@[simp] theorem sharesOf_nil (ref : Nat) (s : Serial) (dish : Byte) : sharesOf ref s dish [] = 0 := rfl

@[simp] theorem sharesOf_cons (ref : Nat) (s : Serial) (dish : Byte) (b : BatchEntry) (bs : List BatchEntry) :
    sharesOf ref s dish (b :: bs) = b.share ref s dish + sharesOf ref s dish bs := by
  simp [sharesOf]

@[simp] theorem sharesOf_append (ref : Nat) (s : Serial) (dish : Byte) (bs cs : List BatchEntry) :
    sharesOf ref s dish (bs ++ cs) = sharesOf ref s dish bs + sharesOf ref s dish cs := by
  simp [sharesOf]

@[simp] theorem handedOf_nil (ref : Nat) (s : Serial) (dish : Byte) : handedOf ref s dish [] = 0 := rfl

@[simp] theorem handedOf_cons (ref : Nat) (s : Serial) (dish : Byte) (h : Handed) (hs : List Handed) :
    handedOf ref s dish (h :: hs) = h.share ref s dish + handedOf ref s dish hs := by
  simp [handedOf]

@[simp] theorem handedOf_append (ref : Nat) (s : Serial) (dish : Byte) (hs gs : List Handed) :
    handedOf ref s dish (hs ++ gs) = handedOf ref s dish hs + handedOf ref s dish gs := by
  simp [handedOf]

theorem Device.inBatches_eq (d : Device) (ref : Nat) (s : Serial) (dish : Byte) :
    d.inBatches ref s dish = sharesOf ref s dish d.books.batches := by
  simp only [inBatches, sharesOf, books, sum_filter_map, List.map_map]
  refine congrArg List.sum (List.map_congr_left fun b _ => ?_)
  by_cases h : b.wave = ref ∧ b.dish = dish ∧ b.adopted = false <;> simp [BatchEntry.share, Batch.entry, h]

theorem Device.inHanded_eq (d : Device) (ref : Nat) (s : Serial) (dish : Byte) :
    d.inHanded ref s dish = handedOf ref s dish d.books.handed := by
  simp only [inHanded, handedOf, books, sum_filter_map]
  refine congrArg List.sum (List.map_congr_left fun r _ => ?_)
  simp [Handed.share]

namespace Ledger

/-- What the tickets of a serial hold of a dish beyond what the books account for. -/
def due (L : Ledger) (ref : Nat) (s : Serial) (dish : Byte) : ℤ :=
  (quantityOf ref s dish L.tickets : ℤ) -
    ((unbatchedBy ref s dish L.tickets + sharesOf ref s dish L.batches + handedOf ref s dish L.handed : Nat) : ℤ)

/-- Dish lines carry these demands, and no dish without a line has any (R75). -/
def Demanded (u : Byte → Nat) (ls : List DishLine) : Prop :=
  (∀ l ∈ ls, l.demand = u l.dish) ∧ ∀ dish, (∀ l ∈ ls, l.dish ≠ dish) → u dish = 0

/-- What is known of single records while an operation is under way: of the waves that answer to an id, of the tickets, of the
batches, of the serials that batches list, and of what the books leave open. -/
structure Marks where
  named : Nat → Option WaveId → Prop
  filed : Nat → Addr → Serial → Prop
  own   : Nat → Nat → Bool → Prop
  lists : Nat → Nat → Serial → Prop
  due   : Nat → Serial → Byte → ℤ → Prop

/-- Nothing known of single records, and the books balanced (R89). -/
def Marks.plain : Marks where
  named _ _ := True
  filed _ _ _ := True
  own _ _ _ := True
  lists _ _ _ := True
  due _ _ _ x := x = 0

/-- The laws of the accounts with what they rest on (`filedOk`, `accountsOk`). -/
structure Accounts (M : Marks) (L : Ledger) : Prop where
  home       : ∀ t ∈ L.tickets, ∃ w ∈ L.waves, w.ref = t.wave ∧ w.anonymous = false ∧
    ∃ num, w.id = some { pass := t.pass, num := num }
  once       : (L.tickets.map (fun t => (t.pass, t.serial))).Nodup
  batchWave  : ∀ b ∈ L.batches, b.wave < L.nextRef
  handedWave : ∀ r ∈ L.handed, r.wave < L.nextRef
  listsOnce  : ∀ b ∈ L.batches, b.adopted = false → (b.contribs.map (·.serial)).Nodup
  offered    : ∀ bid, L.offer = some bid → bid < L.nextBid ∧ ∀ b ∈ L.batches, b.bid = bid → b.adopted = false
  unfiled    : ∀ f, L.hold = some f → ∃ k raw, f = some (k, raw) ∧
    ∀ num serial call lead gp go items, framed k raw = some (.ticket num serial call lead gp go items) →
      ∀ t ∈ L.tickets, ¬(t.pass = raw.sender ∧ t.serial = serial)
  demand     : ∀ w ∈ L.waves, w.anonymous = false → Demanded (fun c => unbatchedOf w.ref c L.tickets) w.lines
  due        : ∀ w ∈ L.waves, w.anonymous = false → ∀ s c, M.due w.ref s c (L.due w.ref s c)
  filed      : ∀ t ∈ L.tickets, M.filed t.wave t.pass t.serial
  own        : ∀ b ∈ L.batches, M.own b.bid b.wave b.adopted
  lists      : ∀ b ∈ L.batches, ∀ c ∈ b.contribs, M.lists b.bid b.wave c.serial
  ownNew     : ∀ bid r a, L.nextBid ≤ bid → M.own bid r a
  listsFiled : ∀ bid r a s, M.filed r a s → M.lists bid r s

/-- The records are told apart (`idsOk`), and, where `p` holds, the accounts kept. -/
structure Sound (p : Prop) (M : Marks) (L : Ledger) : Prop where
  refs     : (L.waves.map (·.ref)).Nodup
  below    : ∀ w ∈ L.waves, w.ref < L.nextRef
  bids     : (L.batches.map (·.bid)).Nodup
  bidBelow : ∀ b ∈ L.batches, b.bid < L.nextBid
  names    : ((L.waves.filter (fun w => !w.anonymous)).map (·.id)).Nodup
  named    : ∀ w ∈ L.waves, w.anonymous = false → M.named w.ref w.id
  accounts : p → L.Accounts M

end Ledger

/-! ### The laws of the statements -/

theorem Device.idsOk_iff (d : Device) : d.idsOk ↔
    (d.books.waves.map (·.ref)).Nodup ∧ (∀ w ∈ d.books.waves, w.ref < d.books.nextRef) ∧
    (d.books.batches.map (·.bid)).Nodup ∧ (∀ b ∈ d.books.batches, b.bid < d.books.nextBid) ∧
    ((d.books.waves.filter (fun w => !w.anonymous)).map (·.id)).Nodup := by
  simp only [idsOk, books, List.map_map, List.forall_mem_map, List.filter_map]
  rfl

theorem Device.due_eq_zero_iff (d : Device) (ref : Nat) (s : Serial) (dish : Byte) : d.books.due ref s dish = 0 ↔
    quantityOf ref s dish d.ti.tickets = unbatchedOf ref dish (d.ti.tickets.filter (fun t => t.serial = s)) +
      d.inBatches ref s dish + d.inHanded ref s dish := by
  rw [inBatches_eq, inHanded_eq, Ledger.due]
  change ((quantityOf ref s dish d.ti.tickets : Nat) : ℤ) - ((unbatchedBy ref s dish d.ti.tickets + _ + _ : Nat) : ℤ) = 0 ↔ _
  rw [sub_eq_zero, Nat.cast_inj]
  rfl

theorem Device.accountsOk_iff (d : Device) : d.accountsOk ↔ ∀ w ∈ d.books.waves, w.anonymous = false →
    Ledger.Demanded (fun c => unbatchedOf w.ref c d.books.tickets) w.lines ∧
      ∀ s c, Ledger.Marks.plain.due w.ref s c (d.books.due w.ref s c) := by
  have hplain : ∀ r s c, Ledger.Marks.plain.due r s c (d.books.due r s c) ↔ d.books.due r s c = 0 := fun _ _ _ => .rfl
  simp only [hplain, due_eq_zero_iff]
  simp only [accountsOk, books, List.forall_mem_map, Ledger.Demanded, and_assoc]
  rfl

theorem Device.offer_eq_some {d : Device} {bid : Nat} :
    d.books.offer = some bid ↔ ∃ f, d.fe.inFlight = some f ∧ f.entry = .offer bid := by
  simp only [books, Option.bind_eq_some_iff, InFlight.offered_eq_some]

theorem Device.hold_eq_some {d : Device} {f : Option (Kind × RawFrame)} :
    d.books.hold = some f ↔ ∃ r, d.fe.rx = some r ∧ r.ticket = .hold ∧ r.frame = f := by
  simp only [books, Option.bind_eq_some_iff, Rx.held_eq_some]

/-- The books of a part whose records are told apart, and whose accounts are kept. -/
theorem Device.sound_of_ok {p : Prop} {d : Device} (hids : d.idsOk) (h : p → d.filedOk ∧ d.accountsOk) :
    d.books.Sound p .plain := by
  obtain ⟨h1, h2, h3, h4, h5⟩ := d.idsOk_iff.mp hids
  refine ⟨h1, h2, h3, h4, h5, fun _ _ _ => trivial, fun hp => ?_⟩
  obtain ⟨⟨hhome, honce, hbw, hhw, hlists, hoff, hrx⟩, hacc⟩ := h hp
  refine ⟨fun t ht => ?_, honce, List.forall_mem_map.mpr hbw, hhw, List.forall_mem_map.mpr hlists, fun bid ho => ?_,
    fun f hf => ?_, fun w hw ha => (d.accountsOk_iff.mp hacc w hw ha).1, fun w hw ha => (d.accountsOk_iff.mp hacc w hw ha).2,
    fun _ _ => trivial, fun _ _ => trivial, fun _ _ _ _ => trivial, fun _ _ _ _ => trivial, fun _ _ _ _ _ => trivial⟩
  · obtain ⟨w, hw, hr, ha, hid⟩ := hhome t ht
    exact ⟨w.entry, List.mem_map_of_mem hw, hr, ha, hid⟩
  · obtain ⟨f, hf, he⟩ := offer_eq_some.mp ho
    obtain ⟨hlt, hb⟩ := hoff f bid hf he
    exact ⟨hlt, List.forall_mem_map.mpr hb⟩
  · obtain ⟨r, hr, ht, rfl⟩ := hold_eq_some.mp hf
    exact hrx r hr ht

namespace Ledger.Sound

variable {p : Prop} {M : Marks} {d : Device}

theorem idsOk (h : d.books.Sound p M) : d.idsOk :=
  d.idsOk_iff.mpr ⟨h.refs, h.below, h.bids, h.bidBelow, h.names⟩

theorem numbered (h : d.books.Sound p M) : d.bp.Numbered := by
  obtain ⟨-, -, hn, hb, -⟩ := h.idsOk
  exact ⟨hn, hb⟩

theorem filedOk (h : d.books.Sound p M) (hp : p) : d.filedOk := by
  have ha := h.accounts hp
  refine ⟨fun t ht => ?_, ha.once, List.forall_mem_map.mp ha.batchWave, ha.handedWave, List.forall_mem_map.mp ha.listsOnce,
    fun f bid hf he => ?_, fun r hr ht => ha.unfiled r.frame (hold_eq_some.mpr ⟨r, hr, ht, rfl⟩)⟩
  · obtain ⟨w, hw, hr, hn, hid⟩ := ha.home t ht
    obtain ⟨x, hx, rfl⟩ := List.mem_map.mp hw
    exact ⟨x, hx, hr, hn, hid⟩
  · obtain ⟨hlt, hb⟩ := ha.offered bid (offer_eq_some.mpr ⟨f, hf, he⟩)
    exact ⟨hlt, List.forall_mem_map.mp hb⟩

theorem accountsOk (h : d.books.Sound p .plain) (hp : p) : d.accountsOk :=
  d.accountsOk_iff.mpr fun w hw ha => ⟨(h.accounts hp).demand w hw ha, (h.accounts hp).due w hw ha⟩

end Ledger.Sound

end Sys2Proof.Machine
end

section
/-! What leaves the books as they are (O51, O56). -/

namespace Sys2Proof.Machine

open Device

namespace Device

/-! ### One part of the device changed -/

@[simp] theorem books_onSck (f : Sck → Sck) (d : Device) : (d.onSck f).books = d.books := rfl
@[simp] theorem books_onLif (f : Lif → Lif) (d : Device) : (d.onLif f).books = d.books := rfl
@[simp] theorem books_onLu (f : Lu → Lu) (d : Device) : (d.onLu f).books = d.books := rfl
@[simp] theorem books_onLane (i : Fin 8) (f : Lane → Lane) (d : Device) : (d.onLane i f).books = d.books := rfl
@[simp] theorem books_onIu (f : Iu → Iu) (d : Device) : (d.onIu f).books = d.books := rfl
@[simp] theorem books_onSp (f : Sp → Sp) (d : Device) : (d.onSp f).books = d.books := rfl
@[simp] theorem books_notify (n : NoticeBody) (d : Device) : (d.notify n).books = d.books := rfl
@[simp] theorem books_answer (st : Status) (l : List Byte) (d : Device) : (d.answer st l).books = d.books := rfl
@[simp] theorem books_place (e : TxEntry) (d : Device) : (d.place e).books = d.books := rfl
@[simp] theorem books_withdraw (e : TxEntry) (d : Device) : (d.withdraw e).books = d.books := rfl

/-- The Frame Engine changed: of what it has in hand the books hold the OFFER and the TICKET to be held. -/
theorem books_onFe (f : Fe → Fe) (d : Device) : (d.onFe f).books = { d.books with
    offer := (f d.fe).inFlight.bind InFlight.offered
    hold := (f d.fe).rx.bind Rx.held } := rfl

theorem books_onFe_same {f : Fe → Fe} {d : Device} (hf : (f d.fe).inFlight = d.fe.inFlight) (hx : (f d.fe).rx = d.fe.rx) :
    (d.onFe f).books = d.books := by
  rw [books_onFe, hf, hx]
  rfl

/-- The own frame in flight changed in what the books do not hold. -/
theorem books_onFlight {g : InFlight → InFlight} (hg : ∀ x, (g x).offered = x.offered) (d : Device) :
    (d.onFe fun f => { f with inFlight := f.inFlight.map g }).books = d.books := by
  have hoffer : (d.fe.inFlight.map g).bind InFlight.offered = d.books.offer := by
    simp only [Option.bind_map, Function.comp_def, hg]
    rfl
  rw [books_onFe]
  exact congrArg (fun o => { d.books with offer := o }) hoffer

theorem books_onRx (f : Rx → Rx) (d : Device) : (d.onRx f).books =
    { d.books with hold := (d.fe.rx.map f).bind Rx.held } := rfl

theorem books_onRx_same {f : Rx → Rx} (hf : ∀ r, (f r).held = r.held) (d : Device) : (d.onRx f).books = d.books := by
  have hhold : (d.fe.rx.map f).bind Rx.held = d.books.hold := by
    simp only [Option.bind_map, Function.comp_def, hf]
    rfl
  rw [books_onRx, hhold]

/-- The batch records changed in what the books do not hold. -/
theorem books_onBp_map {f : Bp → Bp} {g : Batch → Batch} {d : Device} (hf : (f d.bp).batches = d.bp.batches.map g)
    (hn : (f d.bp).nextBid = d.bp.nextBid) (hh : (f d.bp).handed = d.bp.handed)
    (hg : ∀ b ∈ d.bp.batches, (g b).entry = b.entry) : (d.onBp f).books = d.books := by
  have hb : (f d.bp).batches.map Batch.entry = d.bp.batches.map Batch.entry := by
    rw [hf, List.map_map]
    exact List.map_congr_left hg
  change { d.books with
    batches := (f d.bp).batches.map Batch.entry, nextBid := (f d.bp).nextBid, handed := (f d.bp).handed } = _
  rw [hb, hn, hh]
  rfl

theorem books_onBatch_same {f : Batch → Batch} (hf : ∀ b, (f b).entry = b.entry) (bid : Nat) (d : Device) :
    (d.onBatch bid f).books = d.books := by
  refine books_onBp_map rfl rfl rfl fun b _ => ?_
  split
  · exact hf b
  · rfl

/-- The wave records changed in what the books do not hold. -/
theorem books_onWu_map {f : Wu → Wu} {g : Wave → Wave} {d : Device} (hf : (f d.wu).waves = d.wu.waves.map g)
    (hn : (f d.wu).nextRef = d.wu.nextRef) (hg : ∀ w ∈ d.wu.waves, (g w).entry = w.entry) : (d.onWu f).books = d.books := by
  have hw : (f d.wu).waves.map Wave.entry = d.wu.waves.map Wave.entry := by
    rw [hf, List.map_map]
    exact List.map_congr_left hg
  change { d.books with waves := (f d.wu).waves.map Wave.entry, nextRef := (f d.wu).nextRef } = _
  rw [hw, hn]
  rfl

theorem books_onWave_same {f : Wave → Wave} (hf : ∀ w, (f w).entry = w.entry) (r : Nat) (d : Device) :
    (d.onWave r f).books = d.books := by
  refine books_onWu_map rfl rfl fun w _ => ?_
  split
  · exact hf w
  · rfl

theorem books_ite {c : Prop} [Decidable c] {d x y : Device} (hx : x.books = d.books) (hy : y.books = d.books) :
    (if c then x else y).books = d.books := by
  split
  · exact hx
  · exact hy

theorem books_foldl {α : Type} {f : Device → α → Device} (hf : ∀ (x : Device) (a : α), (f x a).books = x.books) (l : List α)
    (d : Device) : (l.foldl f d).books = d.books := foldl_keeps Device.books f hf l d

/-! ### Records, and the evaluation (R83, R86, R90) -/

@[simp] theorem books_withdrawWave (r : Nat) (d : Device) : (d.withdrawWave r).books = d.books := rfl
@[simp] theorem books_recompute (d : Device) : d.recompute.books = d.books := books_onWu_map rfl rfl fun _ _ => rfl
@[simp] theorem books_leaveFire (bid : Nat) (d : Device) : (d.leaveFire bid).books = d.books := rfl
@[simp] theorem books_reorderFire (d : Device) : d.reorderFire.books = d.books := rfl

@[simp] theorem books_joinFire (bid : Nat) (d : Device) : (d.joinFire bid).books = d.books := by
  obtain ⟨q, hq⟩ := joinFire_eq bid d
  rw [hq]
  rfl

@[simp] theorem books_enterAway (w : Wave) (d : Device) : (d.enterAway w).books = d.books :=
  books_onWave_same (fun _ => by rfl) _ d

@[simp] theorem books_enterSettling (r : Nat) (d : Device) : (d.enterSettling r).books = d.books :=
  books_onWave_same (fun _ => by rfl) _ d

@[simp] theorem books_markPartial (d : Device) : d.markPartial.books = d.books :=
  books_onWu_map rfl rfl fun _ _ => by split <;> rfl

@[simp] theorem books_dropHead (d : Device) : d.dropHead.books = d.books := rfl
@[simp] theorem books_onIssue (s : Serial) (f : Issue → Issue) (d : Device) : (d.onIssue s f).books = d.books := rfl
@[simp] theorem books_dropIssue (s : Serial) (d : Device) : (d.dropIssue s).books = d.books := rfl

@[simp] theorem books_announce (r : Nat) (d : Device) : (d.announce r).books = d.books := by
  unfold announce
  split
  · exact books_ite rfl rfl
  · rfl

@[simp] theorem books_slipEval (r : Nat) (d : Device) : (d.slipEval r).books = d.books := by
  unfold slipEval
  split
  · exact books_ite rfl rfl
  · rfl

@[simp] theorem books_markLate (b : Nat) (d : Device) : (d.markLate b).books = d.books := by
  unfold markLate
  split
  · rfl
  · split
    · rfl
    · exact books_ite ((books_notify ..).trans (books_onBatch_same (fun _ => by rfl) _ d)) rfl

@[simp] theorem books_offerEval (d : Device) : d.offerEval.books = d.books := by
  unfold offerEval
  refine books_ite ?_ rfl
  split
  · exact (books_place ..).trans (books_onBatch_same (fun _ => by rfl) _ d)
  · rfl

@[simp] theorem books_evaluate (d : Device) : d.evaluate.books = d.books := by
  unfold evaluate
  refine books_ite rfl ?_
  extract_lets d1 refs d2 d3 d4
  calc d4.offerEval.books = d4.books := books_offerEval d4
    _ = d3.books := books_foldl (fun x b => books_markLate b x) _ _
    _ = d2.books := books_foldl (fun x r => books_slipEval r x) _ _
    _ = d1.books := books_foldl (fun x r => books_announce r x) _ _
    _ = d.books := books_recompute d

@[simp] theorem books_evaluateSince (b d : Device) : (d.evaluateSince b).books = d.books :=
  books_ite rfl (books_evaluate d)

/-! ### Calls, staging, presses and compares (R117, R119, R120, R127 to R134) -/

@[simp] theorem books_beginCall (i : Fin 8) (bid : Nat) (d : Device) : (d.beginCall i bid).books = d.books :=
  (books_onLane ..).trans ((books_onBatch_same (fun _ => by rfl) _ _).trans (books_leaveFire bid d))

@[simp] theorem books_callBatch (i : Fin 8) (b : Batch) (d : Device) : (d.callBatch i b).books = d.books :=
  books_beginCall i b.bid d

@[simp] theorem books_dispatchLane (i : Fin 8) (d : Device) : (d.dispatchLane i).books = d.books := by
  unfold dispatchLane
  refine books_ite ?_ rfl
  split
  · exact books_callBatch i _ d
  · rfl

@[simp] theorem books_dispatch (d : Device) : d.dispatch.books = d.books := books_foldl (fun x i => books_dispatchLane i x) _ d

@[simp] theorem books_stage (i : Fin 8) (d : Device) : (d.stage i).books = d.books := by
  unfold stage
  split
  · exact (books_onLane ..).trans ((books_onBatch_same (fun _ => by rfl) _ _).trans (books_leaveFire _ d))
  · rfl

@[simp] theorem books_laneDone (i : Fin 8) (d : Device) : (d.laneDone i).books = d.books := by
  unfold laneDone
  split
  · exact books_callBatch i _ _
  · rfl

@[simp] theorem books_startPress (i : Fin 8) (b : Batch) (d : Device) : (d.startPress i b).books = d.books := by
  unfold startPress
  extract_lets now due turn d1 d2
  have h2 : d2.books = d.books := (books_onLane ..).trans (books_onBatch_same (fun _ => by rfl) _ d)
  refine (books_onFlight (fun x => ?_) d2).trans h2
  split <;> rfl

@[simp] theorem books_turnCompare (i : Fin 8) (d : Device) : (d.turnCompare i).books = d.books := books_ite rfl rfl
@[simp] theorem books_flashEnd (i : Fin 8) (d : Device) : (d.flashEnd i).books = d.books := books_ite rfl rfl
@[simp] theorem books_callOverdue (i : Fin 8) (d : Device) : (d.callOverdue i).books = d.books := books_ite rfl rfl
@[simp] theorem books_dueOverdue (i : Fin 8) (d : Device) : (d.dueOverdue i).books = d.books := books_ite rfl rfl
@[simp] theorem books_setOutputs (d : Device) : d.setOutputs.books = d.books := rfl

@[simp] theorem books_dueCompare (i : Fin 8) (d : Device) : (d.dueCompare i).books = d.books := by
  unfold dueCompare
  refine books_ite ?_ rfl
  split
  · exact (books_evaluate _).trans ((books_stage i _).trans (books_onBatch_same (fun _ => by rfl) _ _))
  · rfl

@[simp] theorem books_laneBoundary (i : Fin 8) (d : Device) : (d.laneBoundary i).books = d.books :=
  (books_dueOverdue i _).trans ((books_callOverdue i _).trans ((books_dueCompare i _).trans
    ((books_flashEnd i _).trans (books_turnCompare i d))))

/-! ### Waves and slips (R98 to R106, R121, R122) -/

@[simp] theorem books_enterSet (w : Wave) (d : Device) : (d.enterSet w).books = d.books := by
  have h : (d.onWave w.ref fun x => x.toSet).books = d.books := books_onWave_same (fun _ => by rfl) _ d
  unfold enterSet
  (repeat' split) <;> exact h

@[simp] theorem books_applyReady (a : Addr) (st : Tick) (n : Byte) (p : Addr) (off : BitVec 15) (far wd : Bool) (d : Device) :
    (d.applyReady a st n p off far wd).books = d.books := by
  unfold applyReady
  split
  · refine books_onWave_same (fun w => ?_) _ d
    unfold Wave.hearReady
    (repeat' split) <;> rfl
  · rfl

@[simp] theorem books_slipNotices (w : Wave) (a : Addr) (t : Tick) (far : Bool) (d : Device) :
    (d.slipNotices w a t far).books = d.books := books_ite (books_ite rfl rfl) rfl

@[simp] theorem books_retime (r : Nat) (d : Device) : (d.retime r).books = d.books := by
  unfold retime
  refine (books_reorderFire _).trans (books_onBp_map rfl rfl rfl fun b _ => ?_)
  split <;> rfl

@[simp] theorem books_applySlip (a : Addr) (st : Tick) (n : Byte) (p : Addr) (off : BitVec 15) (far : Bool) (d : Device) :
    (d.applySlip a st n p off far).books = d.books := by
  unfold applySlip
  split
  · rfl
  · refine books_ite rfl ?_
    extract_lets sent d1
    have h1 : d1.books = d.books := (books_slipNotices ..).trans (books_onWave_same (fun _ => by rfl) _ d)
    exact books_ite h1 ((books_evaluate _).trans ((books_dispatch _).trans ((books_retime _ d1).trans h1)))

@[simp] theorem books_catchUp (r : Nat) (d : Device) : (d.catchUp r).books = d.books := by
  unfold catchUp
  extract_lets d1
  have h1 : d1.books = d.books := by
    simp only [d1]
    split
    · exact books_ite (books_enterSettling r d) rfl
    · rfl
  split
  · exact books_ite ((books_enterSet _ d1).trans h1) h1
  · exact h1

@[simp] theorem books_waveClose (r : Nat) (d : Device) : (d.waveClose r).books = d.books := by
  unfold waveClose
  split
  · exact books_ite ((books_evaluate _).trans (books_enterSettling r d)) rfl
  · rfl

@[simp] theorem books_refire (b : Batch) (d : Device) : (d.refire b).books = d.books := by
  unfold refire
  exact (books_dispatch _).trans ((books_notify ..).trans ((books_joinFire ..).trans
    (books_onBatch_same (fun _ => by rfl) _ d)))

@[simp] theorem books_unreserve (l : Option (Fin 8)) (d : Device) : (d.unreserve l).books = d.books := by
  unfold unreserve
  split <;> rfl

/-! ### Time (spec/01, spec/04) -/

@[simp] theorem books_changeMode (m : LineMode) (c : ModeCause) (d : Device) : (d.changeMode m c).books = d.books := rfl
@[simp] theorem books_quietLine (d : Device) : d.quietLine.books = d.books := rfl
@[simp] theorem books_drive (a : LineAct) (d : Device) : (d.drive a).books = d.books := rfl
@[simp] theorem books_hear (q : Silences) (d : Device) : (d.hear q).books = d.books := books_ite rfl rfl
@[simp] theorem books_lineReturn (d : Device) : d.lineReturn.books = d.books := books_ite rfl rfl
@[simp] theorem books_markPlace (d : Device) : d.markPlace.books = d.books := books_ite rfl rfl
@[simp] theorem books_placeHead (d : Device) : d.placeHead.books = d.books := books_ite rfl rfl
@[simp] theorem books_listenEnd (d : Device) : d.listenEnd.books = d.books := books_ite rfl rfl
@[simp] theorem books_quietEnd (d : Device) : d.quietEnd.books = d.books := books_ite rfl rfl

@[simp] theorem books_passSlots (n : Nat) (d : Device) : (d.passSlots n).books = d.books := by
  unfold passSlots
  dsimp only
  (repeat' split) <;> rfl

@[simp] theorem books_letPass (n : Nat) (d : Device) : (d.letPass n).books = d.books := by
  simp [letPass]

theorem books_periodAction (d : Device) : d.periodAction.books = d.books := by
  unfold periodAction meanStep forwardOrCorrect
  (repeat' split) <;> rfl

@[simp] theorem books_periodEnd (d : Device) : d.periodEnd.books = d.books :=
  books_ite ((books_setOutputs _).trans (books_periodAction d)) rfl

@[simp] theorem books_tickBegun (d : Device) : d.tickBegun.books = d.books := by
  have hfe : (d.onFe Fe.countTick).books = d.books := by
    refine books_onFe_same ?_ ?_ <;> unfold Fe.countTick <;> split <;> rfl
  exact (books_setOutputs _).trans hfe

@[simp] theorem books_newTick (d : Device) : d.newTick.books = d.books := by
  obtain ⟨e, he, hd⟩ := newTick_eq d
  rw [hd, ← he]
  exact (books_onSck ..).trans ((books_evaluate _).trans ((books_dispatch _).trans (books_tickBegun d)))

@[simp] theorem books_endTick (d : Device) : d.endTick.books = d.books := (books_newTick _).trans (books_passSlots _ d)

/-! ### QUIET, and frames of the station's own (spec/02, spec/10) -/

@[simp] theorem books_withdrawOffer (d : Device) : d.withdrawOffer.books = d.books := by
  refine (books_withdraw _ _).trans (books_foldl (fun x e => ?_) _ _)
  split
  · exact books_onBatch_same (fun _ => by rfl) _ _
  · rfl

@[simp] theorem books_enterQuiet (d : Device) : d.enterQuiet.books = d.books :=
  (books_markPartial _).trans ((books_onSck ..).trans ((books_onFe_same rfl rfl).trans
    ((books_withdraw ..).trans (books_withdrawOffer _))))

@[simp] theorem books_quietIfDue (d : Device) : d.quietIfDue.books = d.books := books_ite (books_enterQuiet d) rfl

@[simp] theorem books_countHeard (bad : Bool) (d : Device) : (d.countHeard bad).books = d.books := by
  unfold countHeard
  split
  · exact books_quietIfDue _
  · exact books_ite (books_markPartial d) rfl
  · rfl
  · rfl

@[simp] theorem books_takeTime (raw : RawFrame) (d : Device) : (d.takeTime raw).books = d.books :=
  books_ite (books_ite rfl rfl) rfl

@[simp] theorem books_driveShort (r : Rx) (d : Device) : (d.driveShort r).books = d.books := by
  unfold driveShort
  split
  · exact books_ite rfl rfl
  · rfl

@[simp] theorem books_dropAsked (es : List TxEntry) (d : Device) : (d.dropAsked es).books = d.books :=
  books_foldl (fun x e => by split <;> simp) _ _

@[simp] theorem books_issueFails (e : IssueEntry) (d : Device) : (d.issueFails e).books = d.books := by
  unfold issueFails
  extract_lets d1 d2
  have h2 : d2.books = d.books := by
    simp only [d2]
    split
    · rfl
    · rfl
    · split
      · exact books_onWave_same (fun _ => by rfl) _ _
      · rfl
  exact h2

@[simp] theorem books_readyFate (r : Nat) (f : Frame) (n : Byte) (p : Addr) (off : BitVec 15) (far wd : Bool) (x : Fate)
    (d : Device) : (d.readyFate r f n p off far wd x).books = d.books := by
  unfold readyFate
  extract_lets stamp d1
  have h1 : d1.books = d.books := by
    simp only [d1]
    split
    · exact (books_applyReady ..).trans (books_onWave_same (fun _ => by rfl) _ d)
    · rfl
  exact books_ite h1 ((books_announce r d1).trans h1)

@[simp] theorem books_slipFate (r : Nat) (f : Frame) (n : Byte) (p : Addr) (off : BitVec 15) (far : Bool) (x : Fate)
    (d : Device) : (d.slipFate r f n p off far x).books = d.books := by
  unfold slipFate
  extract_lets d1
  have h1 : d1.books = d.books := by
    simp only [d1]
    split
    · exact books_applySlip ..
    · rfl
  exact books_ite h1 ((books_slipEval r d1).trans h1)

/-! ### The station port (spec/04, spec/10, spec/11) -/

@[simp] theorem books_applyLock (c : ModeCause) (d : Device) : (d.applyLock c).books = d.books :=
  books_ite (x := d) (y := d.changeMode _ c) rfl rfl

@[simp] theorem books_appendIssue (e : IssueEntry) (d : Device) : (d.appendIssue e).books = d.books := books_placeHead _

@[simp] theorem books_enterListen (d : Device) : d.enterListen.books = d.books := books_applyLock _ _

@[simp] theorem books_recallTicket (s : Serial) (d : Device) : (d.recallTicket s).books = d.books :=
  (books_placeHead _).trans (books_ite rfl rfl)

theorem books_configure (p : List Byte) (d : Device) : (d.configure p).books = d.books :=
  books_ite rfl (books_ite rfl (books_ite rfl ((books_answer ..).trans (books_applyLock ..))))

theorem books_loadDish (p : List Byte) (d : Device) : (d.loadDish p).books = d.books :=
  books_ite rfl (books_ite rfl (books_ite rfl (books_ite rfl (books_ite rfl rfl))))

theorem books_clearMenu (p : List Byte) (d : Device) : (d.clearMenu p).books = d.books := books_ite rfl (books_ite rfl rfl)

theorem books_join (p : List Byte) (d : Device) : (d.join p).books = d.books :=
  books_ite rfl (books_ite rfl (books_ite rfl ((books_answer ..).trans (books_enterListen d))))

theorem books_silence (p : List Byte) (d : Device) : (d.silence p).books = d.books := books_ite rfl rfl

theorem books_issueTicket (p : List Byte) (d : Device) : (d.issueTicket p).books = d.books :=
  books_ite rfl (books_ite rfl (books_ite rfl (books_ite rfl (books_ite rfl (books_ite rfl
    ((books_answer ..).trans (books_appendIssue ..)))))))

theorem books_voidTicket (p : List Byte) (d : Device) : (d.voidTicket p).books = d.books := by
  unfold voidTicket
  refine books_ite rfl (books_ite rfl ?_)
  split
  · rfl
  · refine books_ite rfl ?_
    split
    · rfl
    · refine books_ite rfl (books_ite ((books_answer ..).trans (books_recallTicket ..)) (books_ite rfl ?_))
      exact (books_answer ..).trans ((books_appendIssue ..).trans (books_onIssue ..))

theorem books_sendPickup (p : List Byte) (d : Device) : (d.sendPickup p).books = d.books := by
  unfold sendPickup
  refine books_ite rfl (books_ite rfl ?_)
  split
  · rfl
  · refine books_ite rfl (books_ite rfl ?_)
    exact (books_answer ..).trans ((books_appendIssue ..).trans (books_onWave_same (fun _ => by rfl) _ d))

theorem books_answerPlace {α : Type} (l : List α) (i : Nat) (f : Nat → α → List Byte) (d : Device) :
    (d.answerPlace l i f).books = d.books := by
  unfold answerPlace
  split <;> rfl

theorem books_readWave (p : List Byte) (d : Device) : (d.readWave p).books = d.books :=
  books_ite rfl (books_ite rfl (books_ite (books_answerPlace ..) (books_ite (books_answerPlace ..) rfl)))

theorem books_readTicket (p : List Byte) (d : Device) : (d.readTicket p).books = d.books :=
  books_ite rfl (books_ite (books_ite (books_answerPlace ..) (books_ite (books_answerPlace ..) rfl))
    (books_ite (books_answerPlace ..) (books_answerPlace ..)))

theorem books_readBatch (p : List Byte) (d : Device) : (d.readBatch p).books = d.books := by
  refine books_ite rfl (books_ite rfl (books_ite ?_ (books_answerPlace ..)))
  split <;> rfl

theorem books_readLane (p : List Byte) (d : Device) : (d.readLane p).books = d.books := by
  unfold readLane
  (repeat' split) <;> rfl

theorem books_readNotice (p : List Byte) (d : Device) : (d.readNotice p).books = d.books := by
  refine books_ite rfl ?_
  split <;> rfl

end Device

end Sys2Proof.Machine
end

section
/-! How the books change, and that their laws stay (O51, O56). -/

namespace Sys2Proof.Machine

open Device

/-! ### Tickets by their labels -/

/-- What a ticket says of itself but for its items. -/
def Ticket.label (t : Ticket) : Addr × Serial × Nat := (t.pass, t.serial, t.wave)

/-- What the books hold of a wave record but for its dish lines. -/
def WaveEntry.head (w : WaveEntry) : Nat × Bool × Option WaveId := (w.ref, w.anonymous, w.id)

theorem labels_of_keys {ts us : List Ticket} (h : ts.map Ticket.key = us.map Ticket.key) :
    ts.map Ticket.label = us.map Ticket.label := by
  have := congrArg (List.map fun k : Addr × Serial × Nat × List (Byte × Nat) => (k.1, k.2.1, k.2.2.1)) h
  simp only [List.map_map] at this
  exact this

/-- A ticket of the index after a change of items stands for one before it. -/
theorem exists_of_labels {ts us : List Ticket} (h : (ts.map Ticket.label).Sublist (us.map Ticket.label)) {t : Ticket}
    (ht : t ∈ ts) : ∃ u ∈ us, u.pass = t.pass ∧ u.serial = t.serial ∧ u.wave = t.wave := by
  obtain ⟨u, hu, hl⟩ := List.mem_map.mp (h.subset (List.mem_map_of_mem (f := Ticket.label) ht))
  simp only [Ticket.label, Prod.mk.injEq] at hl
  exact ⟨u, hu, hl⟩

theorem quantityOf_of_keys {ts us : List Ticket} (h : ts.map Ticket.key = us.map Ticket.key) (r : Nat) (s : Serial)
    (c : Byte) : quantityOf r s c ts = quantityOf r s c us := by
  induction ts generalizing us with
  | nil => simp_all
  | cons t ts ih =>
    cases us with
    | nil => simp at h
    | cons u us =>
      simp only [List.map_cons, List.cons.injEq, Ticket.key_eq, Prod.mk.injEq] at h
      obtain ⟨⟨-, hs, hw, hi⟩, h⟩ := h
      have hq : quantityIn c t.items = quantityIn c u.items := by
        have := congrArg (fun l => (l.map (fun k : Byte × Nat => if k.1 = c then k.2 else 0)).sum) hi
        simp only [List.map_map] at this
        exact this
      rw [quantityOf_cons, quantityOf_cons, ih h, hs, hw, hq]

/-- Without a ticket of the record, nothing is filed against it. -/
theorem quantityOf_eq_zero {ts : List Ticket} {r : Nat} {s : Serial} (h : ∀ t ∈ ts, ¬(t.wave = r ∧ t.serial = s)) (c : Byte) :
    quantityOf r s c ts = 0 ∧ unbatchedBy r s c ts = 0 := by
  induction ts with
  | nil => exact ⟨rfl, rfl⟩
  | cons t ts ih =>
    obtain ⟨ht, hts⟩ := List.forall_mem_cons.mp h
    rw [quantityOf_cons, unbatchedBy_cons, if_neg ht, if_neg ht, (ih hts).1, (ih hts).2]
    exact ⟨rfl, rfl⟩

theorem unbatchedOf_eq_zero {ts : List Ticket} {r : Nat} (h : ∀ t ∈ ts, t.wave ≠ r) (c : Byte) : unbatchedOf r c ts = 0 := by
  induction ts with
  | nil => rfl
  | cons t ts ih =>
    obtain ⟨ht, hts⟩ := List.forall_mem_cons.mp h
    rw [unbatchedOf_cons, if_neg ht, ih hts]

theorem sharesOf_eq_zero {bs : List BatchEntry} {r : Nat} {s : Serial} {c : Byte}
    (h : ∀ b ∈ bs, b.share r s c = 0) : sharesOf r s c bs = 0 := by
  induction bs with
  | nil => rfl
  | cons b bs ih =>
    obtain ⟨hb, hbs⟩ := List.forall_mem_cons.mp h
    rw [sharesOf_cons, hb, ih hbs]

theorem handedOf_eq_zero {hs : List Handed} {r : Nat} {s : Serial} {c : Byte}
    (h : ∀ x ∈ hs, x.share r s c = 0) : handedOf r s c hs = 0 := by
  induction hs with
  | nil => rfl
  | cons x hs ih =>
    obtain ⟨hx, hhs⟩ := List.forall_mem_cons.mp h
    rw [handedOf_cons, hx, ih hhs]

namespace Ledger

variable {p : Prop} {M M' : Marks} {L L' : Ledger}

/-! ### The records a wave's tickets stand in -/

/-- The wave record that a ticket is filed against is one: its pass is that of the wave. -/
theorem Accounts.pass_eq (h : L.Accounts M) (hr : (L.waves.map (·.ref)).Nodup) {t u : Ticket} (ht : t ∈ L.tickets)
    (hu : u ∈ L.tickets) (hw : t.wave = u.wave) : t.pass = u.pass := by
  obtain ⟨w, hwm, hwr, -, m, hid⟩ := h.home t ht
  obtain ⟨x, hxm, hxr, -, k, hidx⟩ := h.home u hu
  obtain rfl := List.inj_on_of_nodup_map hr hwm hxm (hwr.trans (hw.trans hxr.symm))
  have := Option.some.inj (hid.symm.trans hidx)
  exact congrArg WaveId.pass this

/-- A serial has one ticket in a wave. -/
theorem Accounts.serials_nodup (h : L.Accounts M) (hr : (L.waves.map (·.ref)).Nodup) (r : Nat) :
    ((L.tickets.filter (fun t => t.wave = r)).map (·.serial)).Nodup := by
  refine List.Nodup.map_on (fun t ht u hu hs => ?_) ((List.Nodup.of_map _ h.once).filter _)
  obtain ⟨ht, htr⟩ := List.mem_filter.mp ht
  obtain ⟨hu, hur⟩ := List.mem_filter.mp hu
  have hw : t.wave = u.wave := by simp_all
  exact List.inj_on_of_nodup_map h.once ht hu (Prod.ext (h.pass_eq hr ht hu hw) hs)

/-! ### Marks changed -/

/-- The laws under other marks, where these hold of the records. -/
theorem Sound.remark (h : L.Sound p M) (hn : ∀ w ∈ L.waves, w.anonymous = false → M'.named w.ref w.id)
    (ha : p → L.Accounts M → (∀ w ∈ L.waves, w.anonymous = false → ∀ s c, M'.due w.ref s c (L.due w.ref s c)) ∧
      (∀ t ∈ L.tickets, M'.filed t.wave t.pass t.serial) ∧ (∀ b ∈ L.batches, M'.own b.bid b.wave b.adopted) ∧
      (∀ b ∈ L.batches, ∀ c ∈ b.contribs, M'.lists b.bid b.wave c.serial) ∧
      (∀ bid r a, L.nextBid ≤ bid → M'.own bid r a) ∧ ∀ bid r a s, M'.filed r a s → M'.lists bid r s) : L.Sound p M' := by
  refine ⟨h.refs, h.below, h.bids, h.bidBelow, h.names, hn, fun hp => ?_⟩
  obtain ⟨hdue, hfiled, hown, hlists, hnew, hlf⟩ := ha hp (h.accounts hp)
  have k := h.accounts hp
  exact ⟨k.home, k.once, k.batchWave, k.handedWave, k.listsOnce, k.offered, k.unfiled, k.demand, hdue, hfiled, hown, hlists,
    hnew, hlf⟩

/-- The laws under marks that ask nothing of single records. -/
theorem Sound.unmark (h : L.Sound p M) (hd : p → ∀ r s c x, M.due r s c x → x = 0) : L.Sound p .plain :=
  h.remark (fun _ _ _ => trivial) fun hp k => ⟨fun w hw ha s c => hd hp _ _ _ _ (k.due w hw ha s c), fun _ _ => trivial,
    fun _ _ => trivial, fun _ _ _ _ => trivial, fun _ _ _ _ => trivial, fun _ _ _ _ _ => trivial⟩

/-! ### Records changed in place, batches that come and go -/

/-- A change that leaves every wave record its name, and the index no new ticket, with what it does to the accounts. -/
structure Revised (M' : Marks) (L L' : Ledger) : Prop where
  labels     : (L'.tickets.map Ticket.label).Sublist (L.tickets.map Ticket.label)
  batches    : ∀ b ∈ L'.batches, (∃ x ∈ L.batches, x.bid = b.bid ∧ x.wave = b.wave ∧ x.adopted = b.adopted) ∨
    L.nextBid ≤ b.bid ∧ b.wave < L.nextRef
  listsOnce  : ∀ b ∈ L'.batches, b.adopted = false → (b.contribs.map (·.serial)).Nodup
  lists      : ∀ b ∈ L'.batches, ∀ c ∈ b.contribs, M'.lists b.bid b.wave c.serial
  handedWave : ∀ r ∈ L'.handed, r.wave < L.nextRef
  offer      : L'.offer = L.offer
  hold       : L'.hold = L.hold
  demand     : ∀ w ∈ L'.waves, w.anonymous = false → Demanded (fun c => unbatchedOf w.ref c L'.tickets) w.lines
  due        : ∀ w ∈ L.waves, w.anonymous = false → ∀ s c, M'.due w.ref s c (L'.due w.ref s c)

theorem mem_heads {ws vs : List WaveEntry} (h : vs.map WaveEntry.head = ws.map WaveEntry.head) {w : WaveEntry} (hw : w ∈ ws) :
    ∃ v ∈ vs, v.ref = w.ref ∧ v.anonymous = w.anonymous ∧ v.id = w.id := by
  obtain ⟨v, hv, he⟩ := List.mem_map.mp (h ▸ List.mem_map_of_mem (f := WaveEntry.head) hw)
  simp only [WaveEntry.head, Prod.mk.injEq] at he
  exact ⟨v, hv, he⟩

theorem Sound.revise (h : L.Sound p M) (hw : L'.waves.map WaveEntry.head = L.waves.map WaveEntry.head)
    (hr : L'.nextRef = L.nextRef) (hb : (L'.batches.map (·.bid)).Nodup) (hbb : ∀ b ∈ L'.batches, b.bid < L'.nextBid)
    (hn : L.nextBid ≤ L'.nextBid) (ha : p → L.Accounts M → Revised M' L L') (hm : M'.named = M.named := by rfl)
    (hf : M'.filed = M.filed := by rfl) (ho : M'.own = M.own := by rfl)
    (hlf : (∀ bid r a s, M.filed r a s → M.lists bid r s) → ∀ bid r a s, M'.filed r a s → M'.lists bid r s := by
      exact id) : L'.Sound p M' := by
  have hrefs : L'.waves.map (·.ref) = L.waves.map (·.ref) := by
    have := congrArg (List.map fun x : Nat × Bool × Option WaveId => x.1) hw
    simp only [List.map_map] at this
    exact this
  have hnames : (L'.waves.filter (fun w => !w.anonymous)).map (·.id) = (L.waves.filter (fun w => !w.anonymous)).map (·.id) := by
    have := congrArg (fun l => (l.filter fun x : Nat × Bool × Option WaveId => !x.2.1).map fun x => x.2.2) hw
    simp only [List.filter_map, List.map_map] at this
    exact this
  refine ⟨hrefs ▸ h.refs, fun w hwm => ?_, hb, hbb, hnames ▸ h.names, fun w hwm hwa => ?_, fun hp => ?_⟩
  · obtain ⟨v, hv, hvr, -⟩ := mem_heads hw.symm hwm
    exact hr ▸ hvr ▸ h.below v hv
  · obtain ⟨v, hv, hvr, hva, hvi⟩ := mem_heads hw.symm hwm
    rw [hm, ← hvr, ← hvi]
    exact h.named v hv (hva.trans hwa)
  · have k := h.accounts hp
    have x := ha hp k
    refine ⟨fun t ht => ?_, ?_, fun b hbm => ?_, fun r hrm => hr ▸ x.handedWave r hrm, x.listsOnce, fun bid hoff => ?_,
      fun f hf' => ?_, x.demand, fun w hwm hwa => ?_, fun t ht => ?_, fun b hbm => ?_, x.lists, fun bid r a hbid => ?_,
      hlf k.listsFiled⟩
    · obtain ⟨u, hu, hup, -, huw⟩ := exists_of_labels x.labels ht
      obtain ⟨w, hwm, hwr, hwa, m, hid⟩ := k.home u hu
      obtain ⟨v, hv, hvr, hva, hvi⟩ := mem_heads hw hwm
      exact ⟨v, hv, hvr.trans (hwr.trans huw), hva.trans hwa, m, by rw [hvi, hid, hup]⟩
    · have hsub := x.labels.map fun y : Addr × Serial × Nat => (y.1, y.2.1)
      simp only [List.map_map] at hsub
      exact hsub.nodup k.once
    · rcases x.batches b hbm with ⟨y, hy, -, hyw, -⟩ | ⟨-, hlt⟩
      · exact hr ▸ hyw ▸ k.batchWave y hy
      · exact hr ▸ hlt
    · rw [x.offer] at hoff
      obtain ⟨hlt, had⟩ := k.offered bid hoff
      refine ⟨by omega, fun b hbm hbid => ?_⟩
      rcases x.batches b hbm with ⟨y, hy, hyb, -, hya⟩ | ⟨hge, -⟩
      · exact hya ▸ had y hy (hyb.trans hbid)
      · omega
    · obtain ⟨kd, raw, rfl, hnot⟩ := k.unfiled f (x.hold ▸ hf')
      refine ⟨kd, raw, rfl, fun num serial call lead gp go items hfr t ht => ?_⟩
      obtain ⟨u, hu, hup, hus, -⟩ := exists_of_labels x.labels ht
      rw [← hup, ← hus]
      exact hnot num serial call lead gp go items hfr u hu
    · obtain ⟨v, hv, hvr, hva, -⟩ := mem_heads hw.symm hwm
      rw [← hvr]
      exact x.due v hv (hva.trans hwa)
    · obtain ⟨u, hu, hup, hus, huw⟩ := exists_of_labels x.labels ht
      rw [hf, ← hup, ← hus, ← huw]
      exact k.filed u hu
    · rw [ho]
      rcases x.batches b hbm with ⟨y, hy, hyb, hyw, hya⟩ | ⟨hge, -⟩
      · rw [← hyb, ← hyw, ← hya]
        exact k.own y hy
      · exact k.ownNew _ _ _ hge
    · rw [ho]
      exact k.ownNew _ _ _ (by omega)

end Ledger

end Sys2Proof.Machine
end

section
/-! Waves that come and go in the books, and frames in hand (O51, O56). -/

namespace Sys2Proof.Machine

open Device

/-! ### Records of other waves -/

theorem quantityOf_filter_wave {r q : Nat} (h : r ≠ q) (s : Serial) (c : Byte) (ts : List Ticket) :
    quantityOf r s c (ts.filter (fun t => t.wave != q)) = quantityOf r s c ts := by
  induction ts with
  | nil => rfl
  | cons t ts ih =>
    by_cases ht : t.wave = q
    · simp [ht, ih, h.symm]
    · simp [ht, ih]

theorem unbatchedOf_filter_wave {r q : Nat} (h : r ≠ q) (c : Byte) (ts : List Ticket) :
    unbatchedOf r c (ts.filter (fun t => t.wave != q)) = unbatchedOf r c ts := by
  induction ts with
  | nil => rfl
  | cons t ts ih =>
    by_cases ht : t.wave = q
    · simp [ht, ih, h.symm]
    · simp [ht, ih]

theorem unbatchedBy_filter_wave {r q : Nat} (h : r ≠ q) (s : Serial) (c : Byte) (ts : List Ticket) :
    unbatchedBy r s c (ts.filter (fun t => t.wave != q)) = unbatchedBy r s c ts := by
  induction ts with
  | nil => rfl
  | cons t ts ih =>
    by_cases ht : t.wave = q
    · simp [ht, ih, h.symm]
    · simp [ht, ih]

theorem handedOf_filter_wave {r q : Nat} (h : r ≠ q) (s : Serial) (c : Byte) (hs : List Handed) :
    handedOf r s c (hs.filter (fun x => x.wave != q)) = handedOf r s c hs := by
  induction hs with
  | nil => rfl
  | cons x hs ih =>
    by_cases hx : x.wave = q
    · simp [hx, ih, Handed.share, h.symm]
    · simp [hx, ih]

namespace Ledger

variable {p : Prop} {M : Marks} {L : Ledger}

/-! ### A wave that no longer answers to its tickets (R83) -/

/-- A record's tickets and handed records gone, and the record gone or anonymous. -/
def dismissed (r : Nat) (ws : List WaveEntry) (L : Ledger) : Ledger :=
  { L with
    waves := ws
    tickets := L.tickets.filter (fun t => t.wave != r)
    handed := L.handed.filter (fun x => x.wave != r) }

theorem due_dismissed {r q : Nat} (h : r ≠ q) (s : Serial) (c : Byte) (ws : List WaveEntry) :
    (L.dismissed q ws).due r s c = L.due r s c := by
  simp only [due, dismissed, quantityOf_filter_wave h, unbatchedBy_filter_wave h, handedOf_filter_wave h]

theorem Sound.dismiss (h : L.Sound p M) {r : Nat} {ws : List WaveEntry}
    (hrefs : (ws.map (·.ref)).Sublist (L.waves.map (·.ref)))
    (hlive : ws.filter (fun w => !w.anonymous) = L.waves.filter (fun w => !w.anonymous && w.ref != r)) :
    (L.dismissed r ws).Sound p M := by
  have hmem : ∀ w, w ∈ ws ∧ w.anonymous = false ↔ w ∈ L.waves ∧ w.anonymous = false ∧ w.ref ≠ r := fun w => by
    have := congrArg (w ∈ ·) hlive
    simpa [List.mem_filter] using this
  refine ⟨hrefs.nodup h.refs, fun w hw => ?_, h.bids, h.bidBelow, ?_, fun w hw ha => ?_, fun hp => ?_⟩
  · obtain ⟨v, hv, hvr⟩ := List.mem_map.mp (hrefs.subset (List.mem_map_of_mem hw))
    exact hvr ▸ h.below v hv
  · refine List.Sublist.nodup (.map _ ?_) h.names
    change (ws.filter fun w => !w.anonymous).Sublist _
    rw [hlive, ← List.filter_filter, List.filter_comm]
    exact List.filter_sublist
  · exact h.named w ((hmem w).mp ⟨hw, ha⟩).1 ha
  · have k := h.accounts hp
    refine { k with
      home := fun t ht => ?_
      once := k.once.sublist (List.filter_sublist.map _)
      handedWave := fun x hx => k.handedWave x (List.mem_filter.mp hx).1
      unfiled := fun f hf => ?_
      demand := fun w hw ha => ?_
      due := fun w hw ha s c => ?_
      filed := fun t ht => k.filed t (List.mem_filter.mp ht).1 }
    · obtain ⟨ht, htr⟩ := List.mem_filter.mp ht
      obtain ⟨w, hw, hwr, ha, hid⟩ := k.home t ht
      exact ⟨w, ((hmem w).mpr ⟨hw, ha, by simpa [hwr] using htr⟩).1, hwr, ha, hid⟩
    · obtain ⟨kd, raw, he, hnot⟩ := k.unfiled f hf
      exact ⟨kd, raw, he, fun num serial call lead gp go items hfr t ht =>
        hnot num serial call lead gp go items hfr t (List.mem_filter.mp ht).1⟩
    · obtain ⟨hw, ha, hne⟩ := (hmem w).mp ⟨hw, ha⟩
      simpa only [dismissed, unbatchedOf_filter_wave hne] using k.demand w hw ha
    · obtain ⟨hw, ha, hne⟩ := (hmem w).mp ⟨hw, ha⟩
      rw [due_dismissed hne]
      exact k.due w hw ha s c

/-! ### A wave that is new (R69) -/

def entered (w : WaveEntry) (L : Ledger) : Ledger := { L with waves := L.waves ++ [w], nextRef := L.nextRef + 1 }

/-- A record with the next reference has nothing filed against it. -/
theorem Accounts.due_nextRef (k : L.Accounts M) (hb : ∀ w ∈ L.waves, w.ref < L.nextRef) (s : Serial) (c : Byte) :
    L.due L.nextRef s c = 0 := by
  have ht : ∀ t ∈ L.tickets, ¬(t.wave = L.nextRef ∧ t.serial = s) := fun t ht ⟨hw, _⟩ => by
    obtain ⟨w, hwm, hwr, -⟩ := k.home t ht
    have := hb w hwm
    omega
  have hs : sharesOf L.nextRef s c L.batches = 0 := sharesOf_eq_zero fun b hb => if_neg fun ⟨hw, _⟩ => by
    have := k.batchWave b hb
    omega
  have hh : handedOf L.nextRef s c L.handed = 0 := handedOf_eq_zero fun x hx => if_neg fun ⟨hw, _⟩ => by
    have := k.handedWave x hx
    omega
  obtain ⟨h1, h2⟩ := quantityOf_eq_zero ht c
  simp [Ledger.due, h1, h2, hs, hh]

theorem Sound.enter (h : L.Sound p M) {w : WaveEntry} (hr : w.ref = L.nextRef) (ha : w.anonymous = false) (hl : w.lines = [])
    (hid : ∀ v ∈ L.waves, v.anonymous = false → v.id ≠ w.id) (hm : M.named w.ref w.id)
    (hd : p → ∀ r s c, M.due r s c 0) : (L.entered w).Sound p M := by
  refine ⟨?_, fun v hv => ?_, h.bids, h.bidBelow, ?_, fun v hv hva => ?_, fun hp => ?_⟩
  · simp only [entered, List.map_append, List.map_cons, List.map_nil]
    refine List.nodup_append.mpr ⟨h.refs, List.nodup_singleton _, fun a ha b hb => ?_⟩
    obtain ⟨v, hv, rfl⟩ := List.mem_map.mp ha
    have := h.below v hv
    rw [List.mem_singleton.mp hb]
    omega
  · rcases List.mem_append.mp hv with hv | hv
    · exact Nat.lt_succ_of_lt (h.below v hv)
    · rw [List.mem_singleton.mp hv, hr]
      exact Nat.lt_succ_self _
  · simp only [entered, List.filter_append, List.map_append, List.filter_singleton, ha, Bool.not_false]
    refine List.nodup_append.mpr ⟨h.names, List.nodup_singleton _, fun a hm b hb => ?_⟩
    obtain ⟨v, hv, rfl⟩ := List.mem_map.mp hm
    obtain ⟨hv, hva⟩ := List.mem_filter.mp hv
    rw [List.mem_singleton.mp hb]
    exact hid v hv (by simpa using hva)
  · rcases List.mem_append.mp hv with hv | hv
    · exact h.named v hv hva
    · rw [List.mem_singleton.mp hv]
      exact hm
  · have k := h.accounts hp
    refine { k with
      home := fun t ht => ?_
      batchWave := fun b hb => Nat.lt_succ_of_lt (k.batchWave b hb)
      handedWave := fun x hx => Nat.lt_succ_of_lt (k.handedWave x hx)
      demand := fun v hv hva => ?_
      due := fun v hv hva s c => ?_ }
    · obtain ⟨v, hv, hvr⟩ := k.home t ht
      exact ⟨v, List.mem_append_left _ hv, hvr⟩
    · rcases List.mem_append.mp hv with hv | hv
      · exact k.demand v hv hva
      · obtain rfl := List.mem_singleton.mp hv
        refine ⟨by simp [hl], fun c _ => unbatchedOf_eq_zero (fun t ht hw => ?_) c⟩
        obtain ⟨x, hx, hxr, -⟩ := k.home t ht
        have := h.below x hx
        omega
    · rcases List.mem_append.mp hv with hv | hv
      · exact k.due v hv hva s c
      · rw [List.mem_singleton.mp hv, hr]
        have := k.due_nextRef h.below s c
        exact this.symm ▸ hd hp _ s c

/-! ### Frames in hand -/

/-- The OFFER in flight is of a batch that was not adopted (R146), if one is. -/
theorem Sound.offering (h : L.Sound p M) {o : Option Nat}
    (ho : p → ∀ bid, o = some bid → bid < L.nextBid ∧ ∀ b ∈ L.batches, b.bid = bid → b.adopted = false) :
    { L with offer := o }.Sound p M :=
  ⟨h.refs, h.below, h.bids, h.bidBelow, h.names, h.named, fun hp => { h.accounts hp with offered := ho hp }⟩

/-- The ticket that the station has decided to hold is in no record of the index (R72), if one is to be held. -/
theorem Sound.holding (h : L.Sound p M) {o : Option (Option (Kind × RawFrame))}
    (ho : p → ∀ f, o = some f → ∃ k raw, f = some (k, raw) ∧
      ∀ num serial call lead gp go items, framed k raw = some (.ticket num serial call lead gp go items) →
        ∀ t ∈ L.tickets, ¬(t.pass = raw.sender ∧ t.serial = serial)) : { L with hold := o }.Sound p M :=
  ⟨h.refs, h.below, h.bids, h.bidBelow, h.names, h.named, fun hp => { h.accounts hp with unfiled := ho hp }⟩

/-- Books without a record. -/
theorem Sound.bare (hw : L.waves = []) (ht : L.tickets = []) (hb : L.batches = []) (hh : L.handed = []) (ho : L.offer = none)
    (hx : L.hold = none) : L.Sound p .plain := by
  refine ⟨by simp [hw], by simp [hw], by simp [hb], by simp [hb], by simp [hw], by simp [hw], fun _ => ?_⟩
  constructor <;> simp [hw, ht, hb, hh, ho, hx, Marks.plain]

end Ledger

end Sys2Proof.Machine
end

section
/-! What portions taken off, dropped and voided do to the tallies (R77 to R79, R84). -/

namespace Sys2Proof.Machine

open Device

/-! ### Portions taken off items (R84) -/

theorem takeOffItems_left (dish : Byte) (n : Nat) (its : List Item) :
    (takeOffItems dish n its).2 = n - quantityIn dish its := by
  induction its with
  | nil => simp [takeOffItems]
  | cons it its ih =>
    by_cases h : it.dish = dish
    · simp [takeOffItems, ih, h]; omega
    · simp [takeOffItems, ih, h]

theorem quantityIn_takeOffItems (dish : Byte) (n : Nat) (its : List Item) (c : Byte) :
    quantityIn c (takeOffItems dish n its).1 = quantityIn c its - if c = dish then n else 0 := by
  induction its with
  | nil => simp [takeOffItems]
  | cons it its ih =>
    have hl := takeOffItems_left dish n its
    by_cases hc : c = dish
    · subst hc
      by_cases h : it.dish = c
      · simp only [takeOffItems, h, BEq.rfl, if_true, quantityIn_cons, hl] at ih ⊢
        omega
      · simpa [takeOffItems, h] using ih
    · by_cases h : it.dish = dish
      · simpa [takeOffItems, h, hc, Ne.symm hc] using ih
      · simpa [takeOffItems, h, hc] using ih

theorem unbatchedIn_takeOffItems (dish : Byte) (n : Nat) (its : List Item) (c : Byte) :
    unbatchedIn c (takeOffItems dish n its).1 = unbatchedIn c its := by
  induction its with
  | nil => rfl
  | cons it its ih => by_cases h : it.dish = dish <;> simp [takeOffItems, ih, h]

/-! ### Portions taken off tickets (R84) -/

/-- A serial stands once among a wave's tickets. -/
def OnePer (ref : Nat) (ts : List Ticket) : Prop := ((ts.filter (fun t => t.wave = ref)).map (·.serial)).Nodup

theorem onePer_of_labels {ref : Nat} {ts us : List Ticket} (h : ts.map Ticket.label = us.map Ticket.label)
    (hu : OnePer ref us) : OnePer ref ts := by
  have he := congrArg (fun l => (l.filter fun x : Addr × Serial × Nat => x.2.2 = ref).map fun x => x.2.1) h
  simp only [List.filter_map, List.map_map] at he
  exact (congrArg List.Nodup he).mpr hu

theorem OnePer.of_cons {ref : Nat} {t : Ticket} {ts : List Ticket} (h : OnePer ref (t :: ts)) : OnePer ref ts :=
  h.sublist (((List.sublist_cons_self t ts).filter _).map _)

/-- The other tickets of a wave have other serials. -/
theorem OnePer.not_mem {ref : Nat} {t : Ticket} {ts : List Ticket} (h : OnePer ref (t :: ts)) (ht : t.wave = ref) :
    ∀ u ∈ ts, ¬(u.wave = ref ∧ u.serial = t.serial) := fun u hu ⟨hw, hs⟩ => by
  unfold OnePer at h
  rw [List.filter_cons_of_pos (by simpa using ht), List.map_cons, List.nodup_cons] at h
  exact h.1 (hs ▸ List.mem_map_of_mem (List.mem_filter.mpr ⟨hu, by simpa using hw⟩))

theorem labels_takeOffEntry (ref : Nat) (dish : Byte) (c : Contrib) (ts : List Ticket) :
    (takeOffEntry ref dish c ts).map Ticket.label = ts.map Ticket.label := by
  simp only [takeOffEntry, List.map_map]
  refine List.map_congr_left fun t _ => ?_
  simp only [Function.comp_apply]
  split <;> rfl

theorem labels_takeOffAll (ref : Nat) (dish : Byte) (cs : List Contrib) (ts : List Ticket) :
    (takeOffAll ref dish cs ts).map Ticket.label = ts.map Ticket.label := by
  induction cs generalizing ts with
  | nil => rfl
  | cons c cs ih => exact (ih _).trans (labels_takeOffEntry ref dish c ts)

theorem takeOffEntry_cons (ref : Nat) (dish : Byte) (x : Contrib) (t : Ticket) (ts : List Ticket) :
    takeOffEntry ref dish x (t :: ts) =
      (if t.wave = ref ∧ t.serial = x.serial then { t with items := (takeOffItems dish x.portions t.items).1 } else t) ::
        takeOffEntry ref dish x ts := by
  simp [takeOffEntry]

theorem unbatchedOf_takeOffAll (ref : Nat) (dish : Byte) (cs : List Contrib) (ts : List Ticket) (r : Nat) (c : Byte) :
    unbatchedOf r c (takeOffAll ref dish cs ts) = unbatchedOf r c ts := by
  have hentry : ∀ (x : Contrib) (ts : List Ticket), unbatchedOf r c (takeOffEntry ref dish x ts) = unbatchedOf r c ts := by
    intro x ts
    induction ts with
    | nil => rfl
    | cons t ts ih =>
      rw [takeOffEntry_cons, unbatchedOf_cons, unbatchedOf_cons, ih]
      split <;> simp only [unbatchedIn_takeOffItems]
  induction cs generalizing ts with
  | nil => rfl
  | cons x cs ih => exact (ih _).trans (hentry x ts)

theorem unbatchedBy_takeOffAll (ref : Nat) (dish : Byte) (cs : List Contrib) (ts : List Ticket) (r : Nat) (s : Serial)
    (c : Byte) : unbatchedBy r s c (takeOffAll ref dish cs ts) = unbatchedBy r s c ts := by
  have hentry : ∀ (x : Contrib) (ts : List Ticket), unbatchedBy r s c (takeOffEntry ref dish x ts) = unbatchedBy r s c ts := by
    intro x ts
    induction ts with
    | nil => rfl
    | cons t ts ih =>
      rw [takeOffEntry_cons, unbatchedBy_cons, unbatchedBy_cons, ih]
      split <;> simp only [unbatchedIn_takeOffItems]
  induction cs generalizing ts with
  | nil => rfl
  | cons x cs ih => exact (ih _).trans (hentry x ts)

theorem takeOffEntry_eq_self {ref : Nat} {dish : Byte} {x : Contrib} {ts : List Ticket}
    (h : ∀ t ∈ ts, ¬(t.wave = ref ∧ t.serial = x.serial)) : takeOffEntry ref dish x ts = ts := by
  induction ts with
  | nil => rfl
  | cons t ts ih =>
    obtain ⟨ht, hts⟩ := List.forall_mem_cons.mp h
    rw [takeOffEntry_cons, if_neg ht, ih hts]

theorem quantityOf_takeOffEntry {ref : Nat} {ts : List Ticket} (h : OnePer ref ts) (dish : Byte) (x : Contrib) (r : Nat)
    (s : Serial) (c : Byte) : quantityOf r s c (takeOffEntry ref dish x ts) =
      quantityOf r s c ts - if r = ref ∧ c = dish ∧ x.serial = s then x.portions else 0 := by
  induction ts with
  | nil => simp [takeOffEntry]
  | cons t ts ih =>
    rw [takeOffEntry_cons, quantityOf_cons]
    by_cases ht : t.wave = ref ∧ t.serial = x.serial
    · have hnot := h.not_mem ht.1
      rw [ht.2] at hnot
      rw [if_pos ht, takeOffEntry_eq_self hnot, quantityOf_cons]
      dsimp only
      by_cases hrs : t.wave = r ∧ t.serial = s
      · have hz : quantityOf r s c ts = 0 := by
          refine (quantityOf_eq_zero (fun u hu => ?_) c).1
          rw [← hrs.1, ← hrs.2, ht.1, ht.2]
          exact hnot u hu
        have hcond : (r = ref ∧ c = dish ∧ x.serial = s) ↔ c = dish :=
          ⟨fun k => k.2.1, fun k => ⟨hrs.1.symm.trans ht.1, k, ht.2.symm.trans hrs.2⟩⟩
        rw [if_pos hrs, if_pos hrs, hz, quantityIn_takeOffItems]
        simp only [hcond, Nat.add_zero]
      · have hcond : ¬(r = ref ∧ c = dish ∧ x.serial = s) := fun k => hrs ⟨ht.1.trans k.1.symm, ht.2.trans k.2.2⟩
        rw [if_neg hrs, if_neg hrs, if_neg hcond, Nat.sub_zero]
    · have ih := ih h.of_cons
      rw [if_neg ht, quantityOf_cons, ih]
      split
      · next hrs =>
        have hcond : ¬(r = ref ∧ c = dish ∧ x.serial = s) := fun k => ht ⟨hrs.1.trans k.1, hrs.2.trans k.2.2.symm⟩
        rw [if_neg hcond, Nat.sub_zero, Nat.sub_zero]
      · rw [Nat.zero_add, Nat.zero_add]

theorem quantityOf_takeOffAll {ref : Nat} {ts : List Ticket} (h : OnePer ref ts) (dish : Byte) (cs : List Contrib) (r : Nat)
    (s : Serial) (c : Byte) : quantityOf r s c (takeOffAll ref dish cs ts) =
      quantityOf r s c ts - if r = ref ∧ c = dish then listedFor s cs else 0 := by
  induction cs generalizing ts with
  | nil => simp [takeOffAll]
  | cons x cs ih =>
    have hstep := ih (onePer_of_labels (labels_takeOffEntry ref dish x ts) h)
    rw [quantityOf_takeOffEntry h] at hstep
    refine hstep.trans ?_
    rw [listedFor_cons, Nat.sub_sub]
    congr 1
    by_cases hr : r = ref ∧ c = dish
    · simp only [hr, true_and, and_self, if_true]
    · simp only [hr, if_false, Nat.add_zero]
      exact if_neg fun k => hr ⟨k.1, k.2.1⟩

/-! ### Handed records dropped (R84) -/

/-- The portions of handed records taken off the tickets of their wave. -/
def takeOffHanded (ref : Nat) (hs : List Handed) (ts : List Ticket) : List Ticket :=
  hs.foldl (fun acc h => takeOffAll ref h.dish h.contribs acc) ts

theorem labels_takeOffHanded (ref : Nat) (hs : List Handed) (ts : List Ticket) :
    (takeOffHanded ref hs ts).map Ticket.label = ts.map Ticket.label := by
  induction hs generalizing ts with
  | nil => rfl
  | cons x hs ih => exact (ih _).trans (labels_takeOffAll ref x.dish x.contribs ts)

theorem unbatchedOf_takeOffHanded (ref : Nat) (hs : List Handed) (ts : List Ticket) (r : Nat) (c : Byte) :
    unbatchedOf r c (takeOffHanded ref hs ts) = unbatchedOf r c ts := by
  induction hs generalizing ts with
  | nil => rfl
  | cons x hs ih => exact (ih _).trans (unbatchedOf_takeOffAll ref x.dish x.contribs ts r c)

theorem unbatchedBy_takeOffHanded (ref : Nat) (hs : List Handed) (ts : List Ticket) (r : Nat) (s : Serial) (c : Byte) :
    unbatchedBy r s c (takeOffHanded ref hs ts) = unbatchedBy r s c ts := by
  induction hs generalizing ts with
  | nil => rfl
  | cons x hs ih => exact (ih _).trans (unbatchedBy_takeOffAll ref x.dish x.contribs ts r s c)

theorem quantityOf_takeOffHanded {ref : Nat} {hs : List Handed} (hw : ∀ x ∈ hs, x.wave = ref) {ts : List Ticket}
    (h : OnePer ref ts) (r : Nat) (s : Serial) (c : Byte) :
    quantityOf r s c (takeOffHanded ref hs ts) = quantityOf r s c ts - if r = ref then handedOf ref s c hs else 0 := by
  induction hs generalizing ts with
  | nil => simp [takeOffHanded]
  | cons x hs ih =>
    obtain ⟨hx, hhs⟩ := List.forall_mem_cons.mp hw
    have hstep := ih hhs (onePer_of_labels (labels_takeOffAll ref x.dish x.contribs ts) h)
    rw [quantityOf_takeOffAll h] at hstep
    refine hstep.trans ?_
    rw [handedOf_cons, Nat.sub_sub]
    congr 1
    by_cases hr : r = ref
    · simp only [hr, true_and, if_true, Handed.share, hx, eq_comm]
    · simp only [hr, false_and, if_false]

/-! ### Unbatched portions dropped (R84, R89) -/

/-- What items lack of a dish to cover their unbatched counts. -/
def shortIn (c : Byte) (its : List Item) : Nat := (its.map (fun it => if it.dish = c then it.unb - it.qty else 0)).sum

theorem quantityIn_foldl_takeOff (c : Byte) (short acc : List Item) :
    quantityIn c (short.foldl (fun acc it => (takeOffItems it.dish (it.unb - it.qty) acc).1) acc) =
      quantityIn c acc - shortIn c short := by
  induction short generalizing acc with
  | nil => simp [shortIn]
  | cons it short ih =>
    rw [List.foldl_cons, ih, quantityIn_takeOffItems, Nat.sub_sub]
    simp only [shortIn, List.map_cons, List.sum_cons, eq_comm]

theorem unbatchedIn_foldl_takeOff (c : Byte) (short acc : List Item) :
    unbatchedIn c (short.foldl (fun acc it => (takeOffItems it.dish (it.unb - it.qty) acc).1) acc) = unbatchedIn c acc := by
  induction short generalizing acc with
  | nil => rfl
  | cons it short ih => rw [List.foldl_cons, ih, unbatchedIn_takeOffItems]

/-- Dropping the unbatched portions takes them off the quantity of their dish. -/
theorem quantityIn_dropItems (c : Byte) (its : List Item) :
    quantityIn c (dropItems its) = quantityIn c its - unbatchedIn c its := by
  have hsum : ∀ its : List Item, quantityIn c (its.map fun it => { it with qty := it.qty - it.unb, unb := 0 }) +
      unbatchedIn c its = quantityIn c its + shortIn c its := by
    intro its
    induction its with
    | nil => rfl
    | cons it its ih =>
      have hs : shortIn c (it :: its) = (if it.dish = c then it.unb - it.qty else 0) + shortIn c its := by simp [shortIn]
      rw [List.map_cons, quantityIn_cons, quantityIn_cons, unbatchedIn_cons, hs]
      dsimp only
      split <;> omega
  have := hsum its
  rw [dropItems, quantityIn_foldl_takeOff]
  omega

theorem unbatchedIn_dropItems (c : Byte) (its : List Item) : unbatchedIn c (dropItems its) = 0 := by
  rw [dropItems, unbatchedIn_foldl_takeOff]
  induction its with
  | nil => rfl
  | cons it its ih => rw [List.map_cons, unbatchedIn_cons, ih]; simp

/-- The tickets of a wave without their unbatched portions. -/
def dropTickets (ref : Nat) (ts : List Ticket) : List Ticket :=
  ts.map (fun x => if x.wave == ref then { x with items := dropItems x.items } else x)

theorem dropTickets_cons (ref : Nat) (t : Ticket) (ts : List Ticket) : dropTickets ref (t :: ts) =
    (if t.wave = ref then { t with items := dropItems t.items } else t) :: dropTickets ref ts := by
  simp [dropTickets]

theorem labels_dropTickets (ref : Nat) (ts : List Ticket) : (dropTickets ref ts).map Ticket.label = ts.map Ticket.label := by
  simp only [dropTickets, List.map_map]
  refine List.map_congr_left fun t _ => ?_
  simp only [Function.comp_apply]
  split <;> rfl

theorem unbatchedOf_dropTickets (ref : Nat) (ts : List Ticket) (r : Nat) (c : Byte) :
    unbatchedOf r c (dropTickets ref ts) = if r = ref then 0 else unbatchedOf r c ts := by
  induction ts with
  | nil => simp [dropTickets]
  | cons t ts ih =>
    rw [dropTickets_cons, unbatchedOf_cons, unbatchedOf_cons, ih]
    by_cases hr : r = ref
    · by_cases ht : t.wave = ref <;> simp [hr, ht, unbatchedIn_dropItems]
    · by_cases ht : t.wave = ref
      · simp [hr, ht, Ne.symm hr]
      · simp [hr, ht]

theorem tallies_dropTickets {ref : Nat} {ts : List Ticket} (h : OnePer ref ts) (r : Nat) (s : Serial) (c : Byte) :
    quantityOf r s c (dropTickets ref ts) = quantityOf r s c ts - (if r = ref then unbatchedBy ref s c ts else 0) ∧
      unbatchedBy r s c (dropTickets ref ts) = if r = ref then 0 else unbatchedBy r s c ts := by
  induction ts with
  | nil => simp [dropTickets]
  | cons t ts ih =>
    obtain ⟨hq, hu⟩ := ih h.of_cons
    rw [dropTickets_cons, quantityOf_cons, quantityOf_cons, unbatchedBy_cons, unbatchedBy_cons, unbatchedBy_cons, hq, hu]
    by_cases ht : t.wave = ref
    · by_cases hr : r = ref
      · subst hr
        by_cases hs : t.serial = s
        · have hz := quantityOf_eq_zero (hs ▸ h.not_mem ht) c
          simp [ht, hs, hz.1, hz.2, quantityIn_dropItems, unbatchedIn_dropItems]
        · simp [ht, hs]
      · simp [ht, hr, Ne.symm hr]
    · by_cases hr : r = ref
      · simp [ht, hr]
      · simp [ht, hr]

end Sys2Proof.Machine
end

section
/-! Batches that come and go in the books, portions taken off, and what the end of a wave drops (O51, O56). -/

namespace Sys2Proof.Machine

open Device

/-! ### Shares -/

theorem share_eq_zero_of_adopted {b : BatchEntry} (h : b.adopted = true) (r : Nat) (s : Serial) (c : Byte) :
    b.share r s c = 0 := if_neg fun ⟨_, _, k⟩ => by simp [h] at k

theorem sharesOf_cut {bs : List BatchEntry} (h : (bs.map (·.bid)).Nodup) {e : BatchEntry} (he : e ∈ bs) (r : Nat) (s : Serial)
    (c : Byte) : sharesOf r s c (bs.filter (fun b => b.bid != e.bid)) + e.share r s c = sharesOf r s c bs := by
  induction bs with
  | nil => cases he
  | cons b bs ih =>
    obtain ⟨hb, hbs⟩ := List.nodup_cons.mp h
    rcases List.mem_cons.mp he with rfl | he
    · have hself : bs.filter (fun b => b.bid != e.bid) = bs :=
        List.filter_eq_self.mpr fun x hx => by
          have : x.bid ≠ e.bid := fun k => hb (List.mem_map.mpr ⟨x, hx, k⟩)
          simpa using this
      simp [hself, Nat.add_comm]
    · have hne : b.bid ≠ e.bid := fun k => hb (List.mem_map.mpr ⟨e, he, k.symm⟩)
      have := ih hbs he
      simp only [List.filter_cons, bne_iff_ne, ne_eq, hne, not_false_eq_true, if_true, sharesOf_cons]
      omega

/-- The contributor list of a batch changed. -/
def relisted (bid : Nat) (f : List Contrib → List Contrib) (bs : List BatchEntry) : List BatchEntry :=
  bs.map (fun e => if e.bid = bid then { e with contribs := f e.contribs } else e)

theorem relisted_eq_self {bid : Nat} {f : List Contrib → List Contrib} {bs : List BatchEntry} (h : ∀ b ∈ bs, b.bid ≠ bid) :
    relisted bid f bs = bs :=
  (List.map_congr_left fun b hb => if_neg (h b hb)).trans (List.map_id bs)

theorem mem_relisted {bid : Nat} {f : List Contrib → List Contrib} {bs : List BatchEntry} {x : BatchEntry}
    (h : x ∈ relisted bid f bs) : (x ∈ bs ∧ x.bid ≠ bid) ∨ ∃ b ∈ bs, b.bid = bid ∧ x = { b with contribs := f b.contribs } := by
  obtain ⟨b, hb, rfl⟩ := List.mem_map.mp h
  by_cases hbid : b.bid = bid
  · exact .inr ⟨b, hb, hbid, if_pos hbid⟩
  · rw [if_neg hbid]
    exact .inl ⟨hb, hbid⟩

theorem bids_relisted (bid : Nat) (f : List Contrib → List Contrib) (bs : List BatchEntry) :
    (relisted bid f bs).map (·.bid) = bs.map (·.bid) := by
  rw [relisted, List.map_map]
  refine List.map_congr_left fun b _ => ?_
  simp only [Function.comp_apply]
  split <;> rfl

theorem sharesOf_relisted {bs : List BatchEntry} (h : (bs.map (·.bid)).Nodup) {e : BatchEntry} (he : e ∈ bs)
    (f : List Contrib → List Contrib) (r : Nat) (s : Serial) (c : Byte) :
    sharesOf r s c (relisted e.bid f bs) + e.share r s c =
      sharesOf r s c bs + ({ e with contribs := f e.contribs } : BatchEntry).share r s c := by
  induction bs with
  | nil => cases he
  | cons b bs ih =>
    obtain ⟨hb, hbs⟩ := List.nodup_cons.mp h
    have hcons : relisted e.bid f (b :: bs) =
        (if b.bid = e.bid then { b with contribs := f b.contribs } else b) :: relisted e.bid f bs := rfl
    rw [hcons, sharesOf_cons, sharesOf_cons]
    rcases List.mem_cons.mp he with rfl | he
    · rw [if_pos rfl, relisted_eq_self fun x hx k => hb (List.mem_map.mpr ⟨x, hx, k⟩)]
      omega
    · have := ih hbs he
      rw [if_neg fun k : b.bid = e.bid => hb (List.mem_map.mpr ⟨e, he, k.symm⟩)]
      omega

namespace Ledger

variable {p : Prop} {M : Marks} {L : Ledger}

/-! ### Marks that leave a share open -/

/-- The tickets of a serial hold, beyond what the marks say, what a batch listed for it. -/
def Marks.owing (M : Marks) (e : BatchEntry) : Marks := { M with due := fun r s c x => M.due r s c (x - e.share r s c) }

/-- The marks under which the books hold no less than they account for. -/
def Marks.Covered (M : Marks) : Prop := ∀ r s c x, M.due r s c x → 0 ≤ x

theorem Marks.covered_plain : Marks.plain.Covered := fun _ _ _ _ h => by rw [show _ = _ from h]

/-! ### A batch that leaves the pool (R125) -/

def cut (bid : Nat) (L : Ledger) : Ledger := { L with batches := L.batches.filter (fun b => b.bid != bid) }

theorem Sound.cut (h : L.Sound p M) {e : BatchEntry} (he : e ∈ L.batches) : (L.cut e.bid).Sound p (M.owing e) := by
  have hmem : ∀ b ∈ (L.cut e.bid).batches, b ∈ L.batches := fun b hb => (List.mem_filter.mp hb).1
  refine h.revise rfl rfl (h.bids.sublist (List.filter_sublist.map _)) (fun b hb => h.bidBelow b (hmem b hb)) le_rfl
    fun hp k => ?_
  refine ⟨.refl _, fun b hb => .inl ⟨b, hmem b hb, rfl, rfl, rfl⟩, fun b hb => k.listsOnce b (hmem b hb),
    fun b hb => k.lists b (hmem b hb), k.handedWave, rfl, rfl, k.demand, fun w hw ha s c => ?_⟩
  have hcut : (sharesOf w.ref s c (L.cut e.bid).batches : ℤ) + e.share w.ref s c = sharesOf w.ref s c L.batches :=
    mod_cast sharesOf_cut h.bids he w.ref s c
  have hdue : (L.cut e.bid).due w.ref s c - e.share w.ref s c = L.due w.ref s c := by
    simp only [Ledger.due, Nat.cast_add, ← hcut]
    simp only [Ledger.cut]
    omega
  have hM := k.due w hw ha s c
  rw [← hdue] at hM
  exact hM

/-- A batch that leaves whose contributors hold nothing in the accounts. -/
theorem Sound.settled {e : BatchEntry} (h : L.Sound p (M.owing e)) (he : ∀ r s c, e.share r s c = 0) : L.Sound p M := by
  refine h.remark h.named fun _ k => ⟨fun w hw ha s c => ?_, k.filed, k.own, k.lists, k.ownNew, k.listsFiled⟩
  have := k.due w hw ha s c
  simpa [Marks.owing, he] using this

/-! ### Portions taken off the tickets (R84, R123) -/

def takenOff (e : BatchEntry) (L : Ledger) : Ledger :=
  if e.adopted then L else { L with tickets := takeOffAll e.wave e.dish e.contribs L.tickets }

theorem Sound.takeOff {e : BatchEntry} (h : L.Sound p (M.owing e)) (hM : p → M.Covered) : (L.takenOff e).Sound p M := by
  unfold takenOff
  split
  · next ha => exact h.settled (share_eq_zero_of_adopted ha)
  · next hn =>
    have hn : e.adopted = false := by simpa using hn
    have hlabels := labels_takeOffAll e.wave e.dish e.contribs L.tickets
    refine h.revise rfl rfl h.bids h.bidBelow le_rfl fun hp k => ?_
    refine ⟨hlabels ▸ .refl _, fun b hb => .inl ⟨b, hb, rfl, rfl, rfl⟩, k.listsOnce, k.lists, k.handedWave, rfl, rfl,
      fun w hw ha => ?_, fun w hw ha s c => ?_⟩
    · simpa only [unbatchedOf_takeOffAll] using k.demand w hw ha
    · have hdue := k.due w hw ha s c
      have hcov : 0 ≤ L.due w.ref s c - e.share w.ref s c := hM hp _ _ _ _ hdue
      have hq := quantityOf_takeOffAll (k.serials_nodup h.refs e.wave) e.dish e.contribs w.ref s c
      have hshare : (if w.ref = e.wave ∧ c = e.dish then listedFor s e.contribs else 0) = e.share w.ref s c := by
        simp only [BatchEntry.share, hn, and_true, eq_comm]
      rw [hshare] at hq
      have heq : (({ L with tickets := takeOffAll e.wave e.dish e.contribs L.tickets } : Ledger).due w.ref s c) =
          L.due w.ref s c - e.share w.ref s c := by
        simp only [Ledger.due, unbatchedBy_takeOffAll, hq] at hcov ⊢
        omega
      rw [heq]
      exact hdue

/-! ### A batch handed over (R149) -/

theorem Sound.hand {e : BatchEntry} (h : L.Sound p (M.owing e)) (he : p → e.adopted = false) {x : Handed} (hx : x.wave = e.wave)
    (hd : x.dish = e.dish) (hc : x.contribs = e.contribs) (hlt : p → e.wave < L.nextRef) :
    { L with handed := L.handed ++ [x] }.Sound p M := by
  refine h.revise rfl rfl h.bids h.bidBelow le_rfl fun hp k => ?_
  refine ⟨.refl _, fun b hb => .inl ⟨b, hb, rfl, rfl, rfl⟩, k.listsOnce, k.lists, fun r hr => ?_, rfl, rfl, k.demand,
    fun w hw ha s c => ?_⟩
  · rcases List.mem_append.mp hr with hr | hr
    · exact k.handedWave r hr
    · rw [List.mem_singleton.mp hr, hx]
      exact hlt hp
  · have hshare : x.share w.ref s c = e.share w.ref s c := by
      simp only [Handed.share, BatchEntry.share, hx, hd, hc, he hp, and_true]
    have heq : (({ L with handed := L.handed ++ [x] } : Ledger).due w.ref s c) = L.due w.ref s c - e.share w.ref s c := by
      simp only [Ledger.due, handedOf_append, handedOf_cons, handedOf_nil, hshare]
      omega
    rw [heq]
    exact k.due w hw ha s c

/-! ### An adopted batch (R152) -/

def adopted (e : BatchEntry) (L : Ledger) : Ledger := { L with batches := L.batches ++ [e], nextBid := L.nextBid + 1 }

theorem nodup_adopted (h : L.Sound p M) {e : BatchEntry} (hb : e.bid = L.nextBid) :
    ((L.batches ++ [e]).map (·.bid)).Nodup := by
  rw [List.map_append, List.map_cons, List.map_nil]
  refine List.nodup_append.mpr ⟨h.bids, List.nodup_singleton _, fun a ha b hm => ?_⟩
  obtain ⟨x, hx, rfl⟩ := List.mem_map.mp ha
  have := h.bidBelow x hx
  rw [List.mem_singleton.mp hm]
  omega

theorem below_adopted (h : L.Sound p M) {e : BatchEntry} (hb : e.bid = L.nextBid) :
    ∀ b ∈ L.batches ++ [e], b.bid < L.nextBid + 1 := fun b hm => by
  rcases List.mem_append.mp hm with hm | hm
  · exact Nat.lt_succ_of_lt (h.bidBelow b hm)
  · rw [List.mem_singleton.mp hm, hb]
    exact Nat.lt_succ_self _

theorem Sound.adopt (h : L.Sound p M) {e : BatchEntry} (hb : e.bid = L.nextBid) (ha : e.adopted = true)
    (hw : p → e.wave < L.nextRef) (hl : p → ∀ s, M.lists e.bid e.wave s) : (L.adopted e).Sound p M := by
  refine h.revise rfl rfl (nodup_adopted h hb) (below_adopted h hb) (Nat.le_succ _) fun hp k => ?_
  refine ⟨.refl _, fun b hm => ?_, fun b hm hba => ?_, fun b hm c hc => ?_, k.handedWave, rfl, rfl, k.demand,
    fun w hw ha' s c => ?_⟩
  · rcases List.mem_append.mp hm with hm | hm
    · exact .inl ⟨b, hm, rfl, rfl, rfl⟩
    · rw [List.mem_singleton.mp hm]
      exact .inr ⟨hb.ge, hw hp⟩
  · rcases List.mem_append.mp hm with hm | hm
    · exact k.listsOnce b hm hba
    · rw [List.mem_singleton.mp hm, ha] at hba
      cases hba
  · rcases List.mem_append.mp hm with hm | hm
    · exact k.lists b hm c hc
    · rw [List.mem_singleton.mp hm]
      exact hl hp c.serial
  · have heq : (L.adopted e).due w.ref s c = L.due w.ref s c := by
      simp [Ledger.due, adopted, share_eq_zero_of_adopted ha]
    rw [heq]
    exact k.due w hw ha' s c

/-! ### The end of a wave's work (R84) -/

/-- A wave's handed records dropped, their portions taken off. -/
def unhanded (r : Nat) (L : Ledger) : Ledger :=
  { L with
    tickets := takeOffHanded r (L.handed.filter (fun h => h.wave == r)) L.tickets
    handed := L.handed.filter (fun h => h.wave != r) }

theorem handedOf_filter_same (r : Nat) (s : Serial) (c : Byte) (hs : List Handed) :
    handedOf r s c (hs.filter (fun h => h.wave == r)) = handedOf r s c hs ∧
      handedOf r s c (hs.filter (fun h => h.wave != r)) = 0 := by
  induction hs with
  | nil => exact ⟨rfl, rfl⟩
  | cons x hs ih => by_cases hx : x.wave = r <;> simp [hx, ih, Handed.share]

theorem Sound.unhand (h : L.Sound p M) (hM : p → M.Covered) (r : Nat) : (L.unhanded r).Sound p M := by
  have hlabels := labels_takeOffHanded r (L.handed.filter (fun h => h.wave == r)) L.tickets
  refine h.revise rfl rfl h.bids h.bidBelow le_rfl fun hp k => ?_
  refine ⟨hlabels ▸ .refl _, fun b hb => .inl ⟨b, hb, rfl, rfl, rfl⟩, k.listsOnce, k.lists,
    fun x hx => k.handedWave x (List.mem_filter.mp hx).1, rfl, rfl, fun w hw ha => ?_, fun w hw ha s c => ?_⟩
  · simpa only [unhanded, unbatchedOf_takeOffHanded] using k.demand w hw ha
  · have hdue := k.due w hw ha s c
    have hcov := hM hp _ _ _ _ hdue
    have hq := quantityOf_takeOffHanded (fun x hx => by simpa using (List.mem_filter.mp hx).2) (k.serials_nodup h.refs r)
      (hs := L.handed.filter (fun h => h.wave == r)) w.ref s c
    have heq : (L.unhanded r).due w.ref s c = L.due w.ref s c := by
      simp only [Ledger.due] at hcov
      simp only [Ledger.due, unhanded, unbatchedBy_takeOffHanded, hq]
      by_cases hr : w.ref = r
      · subst hr
        obtain ⟨h1, h2⟩ := handedOf_filter_same w.ref s c L.handed
        rw [if_pos rfl, h1, h2]
        omega
      · rw [if_neg hr, handedOf_filter_wave hr]
        omega
    rw [heq]
    exact hdue

/-- A wave's unbatched portions dropped, and its demand. -/
def unbatched (r : Nat) (L : Ledger) : Ledger :=
  { L with
    tickets := dropTickets r L.tickets
    waves := L.waves.map (fun w => if w.ref = r then { w with lines := w.lines.map (fun l => { l with demand := 0 }) } else w) }

theorem heads_map {f : WaveEntry → WaveEntry} (hf : ∀ w, (f w).head = w.head) (ws : List WaveEntry) :
    (ws.map f).map WaveEntry.head = ws.map WaveEntry.head := by
  rw [List.map_map]
  exact List.map_congr_left fun w _ => hf w

theorem Sound.unbatch (h : L.Sound p M) (hM : p → M.Covered) (r : Nat) : (L.unbatched r).Sound p M := by
  have hlabels := labels_dropTickets r L.tickets
  refine h.revise (heads_map (fun w => by split <;> rfl) _) rfl h.bids h.bidBelow le_rfl fun hp k => ?_
  refine ⟨hlabels ▸ .refl _, fun b hb => .inl ⟨b, hb, rfl, rfl, rfl⟩, k.listsOnce, k.lists, k.handedWave, rfl, rfl,
    fun w hw ha => ?_, fun w hw ha s c => ?_⟩
  · obtain ⟨v, hv, rfl⟩ := List.mem_map.mp hw
    simp only [unbatched, unbatchedOf_dropTickets]
    by_cases hr : v.ref = r
    · simp only [hr, if_true, Demanded, List.forall_mem_map, implies_true, and_self]
    · simp only [hr, if_false] at ha ⊢
      exact k.demand v hv ha
  · have hdue := k.due w hw ha s c
    have hcov := hM hp _ _ _ _ hdue
    obtain ⟨hq, hu⟩ := tallies_dropTickets (k.serials_nodup h.refs r) w.ref s c
    have heq : (L.unbatched r).due w.ref s c = L.due w.ref s c := by
      simp only [Ledger.due] at hcov
      simp only [Ledger.due, unbatched, hq, hu]
      by_cases hr : w.ref = r
      · subst hr
        rw [if_pos rfl, if_pos rfl]
        omega
      · rw [if_neg hr, if_neg hr, Nat.sub_zero]
    rw [heq]
    exact hdue

end Ledger

end Sys2Proof.Machine
end

section
/-! Portions poured from the tickets into batches: formation's three stages in the books (R112 to R114; O51, O56). -/

namespace Sys2Proof.Machine

open Device

/-! ### Portions of other waves and dishes -/

theorem unbatchedBy_drawTickets_other {ref r : Nat} {dish c : Byte} (h : r ≠ ref ∨ c ≠ dish) (n : Nat) (ts : List Ticket)
    (s : Serial) : unbatchedBy r s c (drawTickets ref dish n ts).1 = unbatchedBy r s c ts := by
  induction ts generalizing n with
  | nil => rfl
  | cons t ts ih =>
    by_cases ht : t.wave = ref
    · rw [drawTickets_cons_of_wave ht, unbatchedBy_cons, unbatchedBy_cons, ih]
      by_cases hr : t.wave = r
      · simp only [unbatchedIn_drawItems_other (h.resolve_left fun k => k (hr.symm.trans ht))]
      · simp only [hr, false_and, if_false]
    · rw [drawTickets_cons_of_other ht, unbatchedBy_cons, unbatchedBy_cons, ih]

theorem unbatchedBy_claimTickets_other {ref r : Nat} {dish c : Byte} (h : r ≠ ref ∨ c ≠ dish) (ts : List Ticket)
    (bs : List Batch) (s : Serial) : unbatchedBy r s c (claimTickets ref dish ts bs).1 = unbatchedBy r s c ts := by
  induction ts generalizing bs with
  | nil => rfl
  | cons t ts ih =>
    by_cases ht : t.wave = ref
    · by_cases hr : ref = r
      · simp [claimTickets, ih, ht, unbatchedIn_claimItems_other (h.resolve_left fun k => k hr.symm)]
      · simp [claimTickets, ih, ht, hr]
    · simp [claimTickets, ih, ht]

/-! ### Claims take no more than there is -/

theorem claimItem_le (serial : Serial) (n : Nat) (bs : List Batch) : (claimItem serial n bs).1 ≤ n := by
  induction bs generalizing n with
  | nil => rfl
  | cons b bs ih =>
    rw [claimItem_cons]
    exact (ih _).trans (Nat.sub_le _ _)

theorem unbatchedIn_claimItems_le (serial : Serial) (dish c : Byte) (its : List Item) (bs : List Batch) :
    unbatchedIn c (claimItems serial dish its bs).1 ≤ unbatchedIn c its := by
  induction its generalizing bs with
  | nil => rfl
  | cons it its ih =>
    have hle := claimItem_le serial it.unb bs
    unfold claimItems
    split
    · have := ih (claimItem serial it.unb bs).2
      rw [unbatchedIn_cons, unbatchedIn_cons]
      dsimp only
      split <;> omega
    · have := ih bs
      rw [unbatchedIn_cons, unbatchedIn_cons]
      omega

theorem unbatchedOf_claimTickets_le (ref r : Nat) (dish c : Byte) (ts : List Ticket) (bs : List Batch) :
    unbatchedOf r c (claimTickets ref dish ts bs).1 ≤ unbatchedOf r c ts := by
  induction ts generalizing bs with
  | nil => rfl
  | cons t ts ih =>
    unfold claimTickets
    split
    · have := ih (claimItems t.serial dish t.items bs).2
      have hle := unbatchedIn_claimItems_le t.serial dish c t.items bs
      rw [unbatchedOf_cons, unbatchedOf_cons]
      dsimp only
      split <;> omega
    · have := ih bs
      rw [unbatchedOf_cons, unbatchedOf_cons]
      omega

/-! ### Serials that a list takes on -/

theorem mem_serials_addContrib {cs : List Contrib} {c : Contrib} {s : Serial} (h : s ∈ (addContrib cs c).map (·.serial)) :
    s ∈ cs.map (·.serial) ∨ s = c.serial := by
  rw [serials_addContrib] at h
  split at h
  · exact .inl h
  · simpa using h

theorem mem_serials_addContribs {cs ds : List Contrib} {s : Serial} (h : s ∈ (ds.foldl addContrib cs).map (·.serial)) :
    s ∈ cs.map (·.serial) ∨ s ∈ ds.map (·.serial) := by
  induction ds generalizing cs with
  | nil => exact .inl h
  | cons c ds ih =>
    rcases ih h with h | h
    · rcases mem_serials_addContrib h with h | rfl
      · exact .inl h
      · exact .inr (by simp)
    · exact .inr (List.mem_cons_of_mem _ h)

/-- Each batch stands with the same name, its list of serials perhaps with some of `S`. -/
def Fed (S : Serial → Prop) (bs cs : List Batch) : Prop :=
  List.Forall₂ (fun b c : Batch => c = { b with contribs := c.contribs } ∧
    ∀ s ∈ c.contribs.map (·.serial), s ∈ b.contribs.map (·.serial) ∨ S s) bs cs

theorem Fed.refl (S : Serial → Prop) (bs : List Batch) : Fed S bs bs := List.forall₂_same.mpr fun _ _ => ⟨rfl, fun _ => .inl⟩

theorem Fed.trans {S : Serial → Prop} {as bs cs : List Batch} (h : Fed S as bs) (k : Fed S bs cs) : Fed S as cs := by
  induction h generalizing cs with
  | nil => exact k
  | cons hx _ ih =>
    cases k with
    | cons hy k =>
      refine .cons ⟨by rw [hy.1, hx.1], fun s hs => ?_⟩ (ih k)
      rcases hy.2 s hs with hs | hs
      · exact hx.2 s hs
      · exact .inr hs

theorem Fed.of_mem {S : Serial → Prop} {bs cs : List Batch} (h : Fed S bs cs) {c : Batch} (hc : c ∈ cs) :
    ∃ b ∈ bs, c = { b with contribs := c.contribs } ∧
      ∀ s ∈ c.contribs.map (·.serial), s ∈ b.contribs.map (·.serial) ∨ S s := by
  induction h with
  | nil => cases hc
  | cons hx _ ih =>
    rcases List.mem_cons.mp hc with rfl | hc
    · exact ⟨_, List.mem_cons_self, hx⟩
    · obtain ⟨b, hb, hbc⟩ := ih hc
      exact ⟨b, List.mem_cons_of_mem _ hb, hbc⟩

theorem fed_claimItem {S : Serial → Prop} {serial : Serial} (hs : S serial) (n : Nat) (bs : List Batch) :
    Fed S bs (claimItem serial n bs).2 := by
  induction bs generalizing n with
  | nil => exact .nil
  | cons b bs ih =>
    rw [claimItem_cons]
    refine .cons ⟨b.claim_eq serial n, fun s hm => ?_⟩ (ih _)
    unfold Batch.claim at hm
    split at hm
    · exact .inl hm
    · rcases mem_serials_addContrib hm with hm | rfl
      · exact .inl hm
      · exact .inr hs

theorem fed_claimItems {S : Serial → Prop} {serial : Serial} (hs : S serial) (dish : Byte) (its : List Item)
    (bs : List Batch) : Fed S bs (claimItems serial dish its bs).2 := by
  induction its generalizing bs with
  | nil => exact .refl S bs
  | cons it its ih =>
    unfold claimItems
    split
    · exact (fed_claimItem hs it.unb bs).trans (ih _)
    · exact ih bs

theorem fed_claimTickets {S : Serial → Prop} {ref : Nat} {ts : List Ticket} (hs : ∀ t ∈ ts, t.wave = ref → S t.serial)
    (dish : Byte) (bs : List Batch) : Fed S bs (claimTickets ref dish ts bs).2 := by
  induction ts generalizing bs with
  | nil => exact .refl S bs
  | cons t ts ih =>
    obtain ⟨ht, hts⟩ := List.forall_mem_cons.mp hs
    unfold claimTickets
    split
    · next hw => exact (fed_claimItems (ht (by simpa using hw)) dish t.items bs).trans (ih hts _)
    · exact ih hts bs

/-! ### Records put back -/

theorem bids_putBack (changed pool : List Batch) : (putBack changed pool).map (·.bid) = pool.map (·.bid) := by
  rw [putBack, List.map_map]
  refine List.map_congr_left fun b _ => ?_
  simp only [Function.comp_apply]
  cases hf : changed.find? (fun x => x.bid == b.bid) with
  | none => rfl
  | some c => simpa using List.find?_some hf

theorem of_mem_putBack {changed pool : List Batch} {x : Batch} (h : x ∈ putBack changed pool) : x ∈ pool ∨ x ∈ changed := by
  obtain ⟨b, hb, rfl⟩ := List.mem_map.mp h
  cases hf : changed.find? (fun x => x.bid == b.bid) with
  | none => exact .inl hb
  | some c => exact .inr (List.mem_of_find?_eq_some hf)

theorem putBack_cons {c : Batch} {cs : List Batch} (hc : c.bid ∉ cs.map (·.bid)) (pool : List Batch) :
    putBack (c :: cs) pool = putBack cs (pool.map (fun x => if x.bid = c.bid then c else x)) := by
  have hnone : cs.find? (fun x => x.bid == c.bid) = none :=
    List.find?_eq_none.mpr fun x hx k => hc (List.mem_map.mpr ⟨x, hx, by simpa using k⟩)
  rw [putBack, putBack, List.map_map]
  refine List.map_congr_left fun b _ => ?_
  simp only [Function.comp_apply, List.find?_cons]
  by_cases hb : b.bid = c.bid
  · simp [hb, hnone]
  · have hne : (c.bid == b.bid) = false := by simpa using Ne.symm hb
    simp [hb, hne]

theorem sum_replace (f : Batch → Nat) {pool : List Batch} (h : (pool.map (·.bid)).Nodup) {b c : Batch} (hb : b ∈ pool)
    (hc : c.bid = b.bid) :
    ((pool.map (fun x => if x.bid = c.bid then c else x)).map f).sum + f b = (pool.map f).sum + f c := by
  induction pool with
  | nil => cases hb
  | cons x pool ih =>
    obtain ⟨hx, hpool⟩ := List.nodup_cons.mp h
    simp only [List.map_cons, List.sum_cons]
    rcases List.mem_cons.mp hb with rfl | hb
    · have hself : pool.map (fun x => if x.bid = c.bid then c else x) = pool :=
        (List.map_congr_left fun y hy => by
          rw [if_neg fun k : y.bid = c.bid => hx (List.mem_map.mpr ⟨y, hy, k.trans hc⟩), id]).trans (List.map_id pool)
      rw [hself, if_pos hc.symm]
      omega
    · have hne : x.bid ≠ c.bid := fun k => hx (List.mem_map.mpr ⟨b, hb, (k.trans hc).symm⟩)
      have := ih hpool hb
      rw [if_neg hne]
      omega

/-- A sum over the pool once changed records are put back. -/
theorem sum_putBack (f : Batch → Nat) {pool orig changed : List Batch} (h : (pool.map (·.bid)).Nodup)
    (ho : (orig.map (·.bid)).Nodup) (hm : ∀ b ∈ orig, b ∈ pool)
    (hc : List.Forall₂ (fun b c : Batch => c.bid = b.bid) orig changed) :
    ((putBack changed pool).map f).sum + (orig.map f).sum = (pool.map f).sum + (changed.map f).sum := by
  induction hc generalizing pool with
  | nil => simp [putBack]
  | @cons b c orig changed hbc hrest ih =>
    obtain ⟨hb, horig⟩ := List.nodup_cons.mp ho
    obtain ⟨hbp, hop⟩ := List.forall_mem_cons.mp hm
    have hbids : changed.map (·.bid) = orig.map (·.bid) := by
      clear ih ho hb horig hm hop
      induction hrest with
      | nil => rfl
      | cons hx _ ih => rw [List.map_cons, List.map_cons, ih, hx]
    have hpool : ((pool.map (fun x => if x.bid = c.bid then c else x)).map (·.bid)) = pool.map (·.bid) := by
      rw [List.map_map]
      refine List.map_congr_left fun x _ => ?_
      simp only [Function.comp_apply]
      split
      · next k => exact k.symm
      · rfl
    have hrep := sum_replace f h hbp hbc
    have := ih (hpool ▸ h) horig fun x hx => List.mem_map.mpr
      ⟨x, hop x hx, if_neg fun k : x.bid = c.bid => hb (List.mem_map.mpr ⟨x, hx, k.trans hbc⟩)⟩
    rw [putBack_cons (by rw [hbc, hbids]; exact hb), List.map_cons, List.map_cons, List.sum_cons, List.sum_cons]
    omega

namespace Ledger

variable {p : Prop} {M : Marks} {L : Ledger}

/-- Demand of a dish line lowered (R75). -/
def lowerLines (r : Nat) (dish : Byte) (n : Nat) (ws : List WaveEntry) : List WaveEntry :=
  ws.map (fun w => if w.ref = r then
    { w with lines := w.lines.map (fun l => if l.dish = dish then { l with demand := l.demand - n } else l) } else w)

theorem heads_lowerLines (r : Nat) (dish : Byte) (n : Nat) (ws : List WaveEntry) :
    (lowerLines r dish n ws).map WaveEntry.head = ws.map WaveEntry.head :=
  heads_map (fun w => by split <;> rfl) ws

/-- Lines of a dish lowered carry its lowered demand. -/
theorem Demanded.lower {u v : Byte → Nat} {ls : List DishLine} (h : Demanded u ls) {dish : Byte} {n : Nat}
    (hd : v dish = u dish - n) (ho : ∀ c, c ≠ dish → v c = u c) :
    Demanded v (ls.map (fun l => if l.dish = dish then { l with demand := l.demand - n } else l)) := by
  obtain ⟨h1, h2⟩ := h
  refine ⟨List.forall_mem_map.mpr fun l hl => ?_, fun c hc => ?_⟩
  · by_cases hld : l.dish = dish
    · rw [if_pos hld, h1 l hl, hld, hd]
    · rw [if_neg hld, h1 l hl, ho _ hld]
  · have hz : u c = 0 := h2 c fun l hl => by
      have := List.forall_mem_map.mp hc l hl
      split at this <;> exact this
    by_cases hcd : c = dish
    · rw [hcd, hd, ← hcd, hz, Nat.zero_sub]
    · rw [ho c hcd, hz]

/-- Unbatched portions of a wave and dish that have become portions of batches, `n` in all. -/
structure Poured (ref : Nat) (dish : Byte) (n : Nat) (ts : List Ticket) (bs : List BatchEntry) (L : Ledger) : Prop where
  keys      : ts.map Ticket.key = L.tickets.map Ticket.key
  drawn     : unbatchedOf ref dish ts = unbatchedOf ref dish L.tickets - n
  others    : ∀ r c, r ≠ ref ∨ c ≠ dish → unbatchedOf r c ts = unbatchedOf r c L.tickets
  balance   : ∀ r s c, unbatchedBy r s c ts + sharesOf r s c bs = unbatchedBy r s c L.tickets + sharesOf r s c L.batches
  batches   : ∀ b ∈ bs, (∃ x ∈ L.batches, x.bid = b.bid ∧ x.wave = b.wave ∧ x.adopted = b.adopted) ∨
    L.nextBid ≤ b.bid ∧ b.wave < L.nextRef
  listsOnce : ∀ b ∈ bs, b.adopted = false → (b.contribs.map (·.serial)).Nodup
  serials   : ∀ b ∈ bs, ∀ s ∈ b.contribs.map (·.serial),
    (∃ x ∈ L.batches, x.bid = b.bid ∧ x.wave = b.wave ∧ s ∈ x.contribs.map (·.serial)) ∨
      ∃ t ∈ L.tickets, t.wave = b.wave ∧ t.serial = s

def poured (ref : Nat) (dish : Byte) (n : Nat) (ts : List Ticket) (bs : List BatchEntry) (m : Nat) (L : Ledger) : Ledger :=
  { L with waves := lowerLines ref dish n L.waves, tickets := ts, batches := bs, nextBid := m }

theorem Sound.pour (h : L.Sound p M) {ref : Nat} {dish : Byte} {n : Nat} {ts : List Ticket} {bs : List BatchEntry} {m : Nat}
    (hb : (bs.map (·.bid)).Nodup) (hbb : ∀ b ∈ bs, b.bid < m) (hm : L.nextBid ≤ m)
    (hp : p → L.Accounts M → L.Poured ref dish n ts bs) : (L.poured ref dish n ts bs m).Sound p M := by
  refine h.revise (heads_lowerLines ..) rfl hb hbb hm fun hp' k => ?_
  have x := hp hp' k
  refine ⟨labels_of_keys x.keys ▸ .refl _, x.batches, x.listsOnce, fun b hb c hc => ?_, k.handedWave, rfl, rfl,
    fun w hw ha => ?_, fun w hw ha s c => ?_⟩
  · rcases x.serials b hb c.serial (List.mem_map_of_mem hc) with ⟨y, hy, hyb, hyw, hys⟩ | ⟨t, ht, htw, hts⟩
    · obtain ⟨z, hz, hzs⟩ := List.mem_map.mp hys
      rw [← hyb, ← hyw, ← hzs]
      exact k.lists y hy z hz
    · exact k.listsFiled _ _ t.pass _ (htw ▸ hts ▸ k.filed t ht)
  · obtain ⟨v, hv, rfl⟩ := List.mem_map.mp hw
    by_cases hr : v.ref = ref
    · simp only [hr, if_true] at ha ⊢
      refine (k.demand v hv ha).lower (dish := dish) ?_ fun c hc => ?_
      · simpa only [hr, poured] using x.drawn
      · simpa only [hr, poured] using x.others ref c (.inr hc)
    · simp only [hr, if_false] at ha ⊢
      have hd := k.demand v hv ha
      simpa only [poured, x.others v.ref _ (.inl hr)] using hd
  · have heq : (L.poured ref dish n ts bs m).due w.ref s c = L.due w.ref s c := by
      have := x.balance w.ref s c
      simp only [Ledger.due, poured, quantityOf_of_keys x.keys]
      omega
    rw [heq]
    exact k.due w hw ha s c

end Ledger

end Sys2Proof.Machine
end

section
/-! Formation keeps the books (R112 to R115, R117; O51, O56). -/

namespace Sys2Proof.Machine

open Device

namespace Device

theorem books_lowerDemand (r : Nat) (dish : Byte) (n : Nat) (d : Device) : (d.lowerDemand r dish n).books =
    { d.books with waves := Ledger.lowerLines r dish n d.books.waves } := by
  have hw : (d.lowerDemand r dish n).wu.waves.map Wave.entry = Ledger.lowerLines r dish n (d.wu.waves.map Wave.entry) := by
    simp only [lowerDemand, onWave_waves, Ledger.lowerLines, List.map_map]
    refine List.map_congr_left fun w _ => ?_
    by_cases h : w.ref = r <;> simp [h, Wave.entry]
  change { d.books with waves := (d.lowerDemand r dish n).wu.waves.map Wave.entry } = _
  rw [hw]
  rfl

/-- The claims on spare portions in the books (R82). -/
theorem books_claimSpares (ref : Nat) (dish : Byte) (d : Device) : (d.claimSpares ref dish).books =
    d.books.poured ref dish
      (unbatchedOf ref dish d.ti.tickets -
        unbatchedOf ref dish (claimTickets ref dish d.ti.tickets (d.claimable ref dish)).1)
      (claimTickets ref dish d.ti.tickets (d.claimable ref dish)).1
      ((putBack (claimTickets ref dish d.ti.tickets (d.claimable ref dish)).2 d.bp.batches).map Batch.entry)
      d.bp.nextBid := by
  unfold claimSpares
  rw [books_lowerDemand]
  rfl

/-- A FORMED batch filled in the books (R113). -/
theorem books_fillBatch (ref : Nat) (dish : Byte) (b : Batch) (d : Device) : (d.fillBatch ref dish b).books =
    d.books.poured ref dish (portionsOf (drawTickets ref dish (d.sizeOf dish - b.portions) d.ti.tickets).2)
      (drawTickets ref dish (d.sizeOf dish - b.portions) d.ti.tickets).1
      (relisted b.bid (fun cs => (drawTickets ref dish (d.sizeOf dish - b.portions) d.ti.tickets).2.foldl addContrib cs)
        d.books.batches)
      d.bp.nextBid := by
  have hb : (d.fillBatch ref dish b).bp.batches.map Batch.entry =
      relisted b.bid (fun cs => (drawTickets ref dish (d.sizeOf dish - b.portions) d.ti.tickets).2.foldl addContrib cs)
        d.books.batches := by
    change ((d.bp.batches.map _).map Batch.entry) = (d.bp.batches.map Batch.entry).map _
    rw [List.map_map, List.map_map]
    refine List.map_congr_left fun x _ => ?_
    by_cases h : x.bid = b.bid <;> simp [h, Batch.entry]
  rw [← hb]
  unfold fillBatch
  rw [books_lowerDemand]
  rfl

/-- A batch created in the books (R114). -/
theorem books_createBatch (ref : Nat) (dish : Byte) (d : Device) : (d.createBatch ref dish).books =
    d.books.poured ref dish (portionsOf (drawTickets ref dish (d.sizeOf dish) d.ti.tickets).2)
      (drawTickets ref dish (d.sizeOf dish) d.ti.tickets).1
      (d.books.batches ++ [(d.nextBatch ref dish).entry])
      (d.bp.nextBid + 1) := by
  have hb : (d.bp.batches ++ [d.nextBatch ref dish]).map Batch.entry = d.books.batches ++ [(d.nextBatch ref dish).entry] := by
    rw [List.map_append]
    rfl
  rw [← hb]
  unfold createBatch
  rw [books_joinFire, books_lowerDemand]
  rfl

end Device

theorem listedIn_eq {ref : Nat} {dish : Byte} {bs : List Batch}
    (h : ∀ b ∈ bs, b.wave = ref ∧ b.dish = dish ∧ b.adopted = false) (s : Serial) :
    (bs.map (fun b => b.entry.share ref s dish)).sum = listedIn s bs := by
  refine congrArg List.sum (List.map_congr_left fun b hb => ?_)
  exact if_pos (h b hb)

theorem shares_eq_zero {ref r : Nat} {dish c : Byte} (hrc : r ≠ ref ∨ c ≠ dish) {bs : List Batch}
    (h : ∀ b ∈ bs, b.wave = ref ∧ b.dish = dish ∧ b.adopted = false) (s : Serial) :
    (bs.map (fun b => b.entry.share r s c)).sum = 0 := by
  refine List.sum_eq_zero fun x hx => ?_
  obtain ⟨b, hb, rfl⟩ := List.mem_map.mp hx
  obtain ⟨hw, hd, -⟩ := h b hb
  refine if_neg fun ⟨k1, k2, _⟩ => ?_
  rcases hrc with hr | hc
  · exact hr (k1.symm.trans hw)
  · exact hc (k2.symm.trans hd)

theorem sharesOf_books (r : Nat) (s : Serial) (c : Byte) (bs : List Batch) :
    sharesOf r s c (bs.map Batch.entry) = (bs.map (fun b => b.entry.share r s c)).sum := by
  rw [sharesOf, List.map_map]
  rfl

namespace Ledger.Sound

variable {p : Prop} {M : Marks} {d : Device}

theorem congr {e : Device} (h : d.books.Sound p M) (he : e.books = d.books) : e.books.Sound p M := he ▸ h

theorem ite {c : Prop} [Decidable c] {x y : Device} (hx : c → x.books.Sound p M) (hy : ¬c → y.books.Sound p M) :
    (if c then x else y).books.Sound p M := by
  split
  · next h => exact hx h
  · next h => exact hy h

theorem foldl {α : Type} (h : d.books.Sound p M) {f : Device → α → Device} {l : List α}
    (hf : ∀ (x : Device), ∀ a ∈ l, x.books.Sound p M → (f x a).books.Sound p M) : (l.foldl f d).books.Sound p M := by
  induction l generalizing d with
  | nil => exact h
  | cons a l ih => exact ih (hf d a (.head _) h) fun x b hb => hf x b (.tail _ hb)

/-- Spare portions claimed: what leaves the items of a serial enters its lists (R82). -/
theorem claimSpares (h : d.books.Sound p M) (ref : Nat) (dish : Byte) : (d.claimSpares ref dish).books.Sound p M := by
  have hbids : ((putBack (claimTickets ref dish d.ti.tickets (d.claimable ref dish)).2 d.bp.batches).map Batch.entry).map
      (·.bid) = d.books.batches.map (·.bid) := by
    have := bids_putBack (claimTickets ref dish d.ti.tickets (d.claimable ref dish)).2 d.bp.batches
    simp only [Device.books, List.map_map]
    exact this
  rw [books_claimSpares]
  refine h.pour (hbids ▸ h.bids) (fun b hb => ?_) le_rfl fun hp k => ?_
  · have hm := List.mem_map_of_mem (f := (·.bid)) hb
    rw [hbids] at hm
    obtain ⟨x, hx, hxb⟩ := List.mem_map.mp hm
    exact hxb ▸ h.bidBelow x hx
  have hmem : ∀ b ∈ d.claimable ref dish, b ∈ d.bp.batches ∧ b.wave = ref ∧ b.dish = dish ∧ b.adopted = false := fun b hb =>
    let ⟨h1, h2, h3, h4, _⟩ := mem_claimable.mp hb
    ⟨h1, h2, h3, h4⟩
  have hnodup : ∀ b ∈ d.claimable ref dish, (b.contribs.map (·.serial)).Nodup := fun b hb =>
    k.listsOnce b.entry (List.mem_map_of_mem (hmem b hb).1) (hmem b hb).2.2.2
  have hclaimed := claimed_claimTickets hnodup ref dish d.ti.tickets
  have hfed := fed_claimTickets (S := fun s => ∃ t ∈ d.ti.tickets, t.wave = ref ∧ t.serial = s)
    (fun t ht hw => ⟨t, ht, hw, rfl⟩) dish (d.claimable ref dish)
  have hnames : ∀ c ∈ (claimTickets ref dish d.ti.tickets (d.claimable ref dish)).2,
      c.wave = ref ∧ c.dish = dish ∧ c.adopted = false := fun c hc => by
    obtain ⟨b, hb, he, -⟩ := hfed.of_mem hc
    rw [he]
    exact (hmem b hb).2
  have hsum : ∀ r s c, _ := fun r s c => sum_putBack (fun b => b.entry.share r s c) h.numbered.1
    (nodup_claimable h.numbered ref dish) (fun b hb => (hmem b hb).1)
    (hclaimed.imp fun b c hbc => by rw [hbc.1] : List.Forall₂ (fun b c : Batch => c.bid = b.bid) _ _)
  have hle := unbatchedOf_claimTickets_le ref ref dish dish d.ti.tickets (d.claimable ref dish)
  refine ⟨keys_claimTickets .., by simp only [Device.books]; omega, fun r c hrc => unbatchedOf_claimTickets_other hrc _ _,
    fun r s c => ?_, fun e he => ?_, fun e he ha => ?_, fun e he s hs => ?_⟩
  · have hpool := hsum r s c
    simp only [Device.books, sharesOf_books]
    by_cases hrc : r ≠ ref ∨ c ≠ dish
    · rw [shares_eq_zero hrc (fun b hb => (hmem b hb).2), shares_eq_zero hrc hnames] at hpool
      rw [unbatchedBy_claimTickets_other hrc]
      omega
    · obtain ⟨rfl, rfl⟩ : r = ref ∧ c = dish := by tauto
      rw [listedIn_eq (fun b hb => (hmem b hb).2), listedIn_eq hnames] at hpool
      have hbal := listedIn_claimTickets hnodup r c d.ti.tickets s
      simp only [unbatchedBy]
      omega
  · obtain ⟨x, hx, rfl⟩ := List.mem_map.mp he
    rcases of_mem_putBack hx with hx | hx
    · exact .inl ⟨x.entry, List.mem_map_of_mem hx, rfl, rfl, rfl⟩
    · obtain ⟨b, hb, hxb, -⟩ := hfed.of_mem hx
      exact .inl ⟨b.entry, List.mem_map_of_mem (hmem b hb).1, by rw [hxb]; exact ⟨rfl, rfl, rfl⟩⟩
  · obtain ⟨x, hx, rfl⟩ := List.mem_map.mp he
    rcases of_mem_putBack hx with hx | hx
    · exact k.listsOnce x.entry (List.mem_map_of_mem hx) ha
    · exact hclaimed.nodup x hx
  · obtain ⟨x, hx, rfl⟩ := List.mem_map.mp he
    rcases of_mem_putBack hx with hx | hx
    · exact .inl ⟨x.entry, List.mem_map_of_mem hx, rfl, rfl, hs⟩
    · obtain ⟨b, hb, hxb, hser⟩ := hfed.of_mem hx
      rcases hser s hs with hs | ⟨t, ht, htw, hts⟩
      · exact .inl ⟨b.entry, List.mem_map_of_mem (hmem b hb).1, by rw [hxb]; exact ⟨rfl, rfl, hs⟩⟩
      · exact .inr ⟨t, ht, htw.trans (hnames x hx).1.symm, hts⟩

/-- The tickets that entries are drawn for. -/
theorem of_mem_drawn {ref : Nat} {dish : Byte} {n : Nat} {ts : List Ticket} {s : Serial}
    (hs : s ∈ (drawTickets ref dish n ts).2.map (·.serial)) : ∃ t ∈ ts, t.wave = ref ∧ t.serial = s := by
  obtain ⟨t, ht, hts⟩ := List.mem_map.mp ((serials_drawTickets ref dish n ts).subset hs)
  obtain ⟨ht, htw⟩ := List.mem_filter.mp ht
  exact ⟨t, ht, by simpa using htw, hts⟩

/-- A batch of the wave and dish filled from their tickets (R113). -/
theorem fillBatch (h : d.books.Sound p M) {ref : Nat} {dish : Byte} {b : Batch} (hb : ∃ e ∈ d.books.batches,
    e.bid = b.bid ∧ e.wave = ref ∧ e.dish = dish ∧ e.adopted = false) : (d.fillBatch ref dish b).books.Sound p M := by
  obtain ⟨e, he, heb, hew, hed, hea⟩ := hb
  rw [books_fillBatch, ← heb]
  have hleft := unbatchedOf_drawTickets ref dish (d.sizeOf dish - b.portions) d.ti.tickets
  have hport := portionsOf_drawTickets ref dish (d.sizeOf dish - b.portions) d.ti.tickets
  have hkeys := keys_drawTickets ref dish (d.sizeOf dish - b.portions) d.ti.tickets
  have hothers := fun r c hrc => unbatchedOf_drawTickets_other (ref := ref) (r := r) (dish := dish) (c := c) hrc
    (d.sizeOf dish - b.portions) d.ti.tickets
  have hby := fun r c hrc => unbatchedBy_drawTickets_other (ref := ref) (r := r) (dish := dish) (c := c) hrc
    (d.sizeOf dish - b.portions) d.ti.tickets
  have hlisted := listedFor_drawTickets ref dish (d.sizeOf dish - b.portions) d.ti.tickets
  have hfrom := fun s => of_mem_drawn (ref := ref) (dish := dish) (n := d.sizeOf dish - b.portions) (ts := d.ti.tickets)
    (s := s)
  generalize drawTickets ref dish (d.sizeOf dish - b.portions) d.ti.tickets = r at *
  have hbids := bids_relisted e.bid (fun cs => r.2.foldl addContrib cs) d.books.batches
  refine h.pour (hbids ▸ h.bids) (fun x hx => ?_) le_rfl fun hp k => ?_
  · rcases mem_relisted hx with ⟨hx, -⟩ | ⟨y, hy, -, rfl⟩
    · exact h.bidBelow x hx
    · exact h.bidBelow y hy
  have hbid : ∀ x ∈ d.books.batches, x.bid = e.bid → x = e := fun x hx hxb => List.inj_on_of_nodup_map h.bids hx he hxb
  have hone := k.listsOnce e he hea
  refine ⟨hkeys, by simp only [Device.books]; omega, hothers, fun r' s c => ?_, fun x hx => ?_, fun x hx ha => ?_,
    fun x hx s hs => ?_⟩
  · have hsum := sharesOf_relisted h.bids he (fun cs => r.2.foldl addContrib cs) r' s c
    simp only [BatchEntry.share, hew, hed, hea, and_true, listedFor_addContribs hone] at hsum
    by_cases hrc : ref = r' ∧ dish = c
    · obtain ⟨rfl, rfl⟩ := hrc
      have hbal := hlisted s
      simp only [and_self, if_true] at hsum
      simp only [unbatchedBy, Device.books] at hsum ⊢
      omega
    · rw [if_neg hrc, if_neg hrc] at hsum
      rw [hby r' c (by rcases not_and_or.mp hrc with k | k <;> tauto)]
      simp only [Device.books] at hsum ⊢
      omega
  · rcases mem_relisted hx with ⟨hx, -⟩ | ⟨y, hy, -, rfl⟩
    · exact .inl ⟨x, hx, rfl, rfl, rfl⟩
    · exact .inl ⟨y, hy, rfl, rfl, rfl⟩
  · rcases mem_relisted hx with ⟨hx, -⟩ | ⟨y, hy, hye, rfl⟩
    · exact k.listsOnce x hx ha
    · exact hbid y hy hye ▸ nodup_addContribs hone r.2
  · rcases mem_relisted hx with ⟨hx, -⟩ | ⟨y, hy, hye, rfl⟩
    · exact .inl ⟨x, hx, rfl, rfl, hs⟩
    · rcases mem_serials_addContribs hs with hs | hs
      · exact .inl ⟨y, hy, rfl, rfl, hs⟩
      · obtain ⟨t, ht, htw, hts⟩ := hfrom s hs
        exact .inr ⟨t, ht, htw.trans ((hbid y hy hye).symm ▸ hew.symm), hts⟩

/-- A batch created from the tickets of its wave (R114). -/
theorem createBatch (h : d.books.Sound p M) {ref : Nat} {dish : Byte}
    (hr : (drawTickets ref dish (d.sizeOf dish) d.ti.tickets).2 ≠ []) : (d.createBatch ref dish).books.Sound p M := by
  rw [books_createBatch]
  refine h.pour (nodup_adopted h rfl) (below_adopted h rfl) (Nat.le_succ _) fun hp k => ?_
  have hone : ((drawTickets ref dish (d.sizeOf dish) d.ti.tickets).2.map (·.serial)).Nodup :=
    (k.serials_nodup h.refs ref).sublist (serials_drawTickets ref dish _ _)
  refine ⟨keys_drawTickets .., ?_, fun r c hrc => unbatchedOf_drawTickets_other hrc _ _, fun r s c => ?_, fun b hb => ?_,
    fun b hb ha => ?_, fun b hb s hs => ?_⟩
  · have h1 := unbatchedOf_drawTickets ref dish (d.sizeOf dish) d.ti.tickets
    have h2 := portionsOf_drawTickets ref dish (d.sizeOf dish) d.ti.tickets
    simp only [Device.books]
    omega
  · have hshare : (d.nextBatch ref dish).entry.share r s c = if r = ref ∧ c = dish then
        listedFor s (drawTickets ref dish (d.sizeOf dish) d.ti.tickets).2 else 0 := by
      simp [BatchEntry.share, Batch.entry, nextBatch, formedBatch, eq_comm]
    rw [sharesOf_append, sharesOf_cons, sharesOf_nil, hshare]
    by_cases hrc : r = ref ∧ c = dish
    · obtain ⟨rfl, rfl⟩ := hrc
      have hbal := listedFor_drawTickets r c (d.sizeOf c) d.ti.tickets s
      simp only [unbatchedBy, Device.books, and_self, if_true]
      omega
    · rw [if_neg hrc, unbatchedBy_drawTickets_other (by tauto)]
      rfl
  · rcases List.mem_append.mp hb with hb | hb
    · exact .inl ⟨b, hb, rfl, rfl, rfl⟩
    · obtain rfl := List.mem_singleton.mp hb
      obtain ⟨c, hc⟩ := List.exists_mem_of_ne_nil _ hr
      obtain ⟨t, ht, htw, -⟩ := of_mem_drawn (List.mem_map_of_mem (f := (·.serial)) hc)
      obtain ⟨w, hw, hwr, -⟩ := k.home t ht
      exact .inr ⟨le_rfl, htw ▸ hwr ▸ h.below w hw⟩
  · rcases List.mem_append.mp hb with hb | hb
    · exact k.listsOnce b hb ha
    · obtain rfl := List.mem_singleton.mp hb
      exact hone
  · rcases List.mem_append.mp hb with hb | hb
    · exact .inl ⟨b, hb, rfl, rfl, hs⟩
    · obtain rfl := List.mem_singleton.mp hb
      obtain ⟨t, ht, htw, hts⟩ := of_mem_drawn hs
      exact .inr ⟨t, ht, htw, hts⟩

end Ledger.Sound

end Sys2Proof.Machine
end

section
/-! The books through formation, batches freed, and the end of a wave's work (R84, R112 to R115, R125; O51, O56). -/

namespace Sys2Proof.Machine

open Device

namespace Device

theorem books_removeBatch (b : Batch) (d : Device) : (d.removeBatch b).books = d.books.cut b.bid := by
  obtain ⟨q, hq⟩ := removeBatch_eq b d
  have hb : (d.bp.batches.filter (fun x => x.bid != b.bid)).map Batch.entry =
      (d.bp.batches.map Batch.entry).filter (fun x : BatchEntry => x.bid != b.bid) := by
    rw [List.filter_map]
    rfl
  rw [hq]
  change { d.books with batches := (d.bp.batches.filter (fun x : Batch => x.bid != b.bid)).map Batch.entry } = _
  rw [hb]
  rfl

theorem books_takeOff (b : Batch) (d : Device) : (d.takeOff b).books = d.books.takenOff b.entry := by
  unfold takeOff Ledger.takenOff
  cases h : b.adopted
  · simp only [Batch.entry, h, Bool.false_eq_true, if_false]
    rfl
  · simp only [Batch.entry, h, if_true]

theorem books_retire (r : Nat) (d : Device) :
    (d.retire r).books = d.books.dismissed r (d.books.waves.filter (fun w => w.ref != r)) := by
  have hw : (d.wu.waves.filter (fun w => w.ref != r)).map Wave.entry =
      (d.wu.waves.map Wave.entry).filter (fun w => w.ref != r) := by
    rw [List.filter_map]
    rfl
  have hd : (d.retire r).books = d.books.dismissed r ((d.wu.waves.filter (fun w => w.ref != r)).map Wave.entry) := rfl
  rw [hd, hw]
  rfl

theorem books_makeAnonymous (r : Nat) (d : Device) : (d.makeAnonymous r).books =
    d.books.dismissed r (d.books.waves.map (fun w => if w.ref = r then { w with anonymous := true, id := none } else w)) := by
  have hw : (d.makeAnonymous r).wu.waves.map Wave.entry =
      d.books.waves.map (fun w => if w.ref = r then { w with anonymous := true, id := none } else w) := by
    simp only [makeAnonymous, onWave_waves, books, List.map_map]
    refine List.map_congr_left fun w _ => ?_
    by_cases h : w.ref = r <;> simp [h, Wave.entry]
  have hd : (d.makeAnonymous r).books = d.books.dismissed r ((d.makeAnonymous r).wu.waves.map Wave.entry) := rfl
  rw [hd, hw]

theorem books_dropHanded (r : Nat) (d : Device) : (d.dropHanded r).books = d.books.unhanded r := rfl

theorem books_dropUnbatched (r : Nat) (d : Device) : (d.dropUnbatched r).books = d.books.unbatched r := by
  have hw : (d.dropUnbatched r).wu.waves.map Wave.entry = (d.books.unbatched r).waves := by
    simp only [dropUnbatched, onWave_waves, Ledger.unbatched, books, List.map_map]
    refine List.map_congr_left fun w _ => ?_
    by_cases h : w.ref = r <;> simp [h, Wave.entry]
  have hd : (d.dropUnbatched r).books = { d.books.unbatched r with waves := (d.dropUnbatched r).wu.waves.map Wave.entry } := rfl
  rw [hd, hw]

theorem books_addWave (w : Wave) (d : Device) : (d.addWave w).books = d.books.entered w.entry := by
  simp only [addWave, books, onWu_wu, List.map_append]
  rfl

end Device

namespace Ledger.Sound

variable {p : Prop} {M : Marks} {d : Device}

/-! ### Formation (R112 to R115) -/

/-- A batch that formation may fill stands in the pool with its wave and dish, also once others have been filled. -/
theorem fillBatches (h : d.books.Sound p M) {ref : Nat} {dish : Byte} {bs : List Batch} (hb : ∀ b ∈ bs,
    ∃ e ∈ d.books.batches, e.bid = b.bid ∧ e.wave = ref ∧ e.dish = dish ∧ e.adopted = false) :
    (bs.foldl (fun x b => x.fillBatch ref dish b) d).books.Sound p M := by
  induction bs generalizing d with
  | nil => exact h
  | cons b bs ih =>
    obtain ⟨hb, hbs⟩ := List.forall_mem_cons.mp hb
    refine ih (h.fillBatch hb) fun x hx => ?_
    obtain ⟨e, he, heb, hew, hed, hea⟩ := hbs x hx
    rw [books_fillBatch]
    refine ⟨_, List.mem_map_of_mem he, ?_⟩
    split
    · exact ⟨heb, hew, hed, hea⟩
    · exact ⟨heb, hew, hed, hea⟩

theorem fillFormed (h : d.books.Sound p M) (ref : Nat) (dish : Byte) : (d.fillFormed ref dish).books.Sound p M :=
  h.fillBatches fun b hb =>
    let ⟨hm, hw, hd, _, ha, _⟩ := mem_fillable.mp hb
    ⟨b.entry, List.mem_map_of_mem hm, rfl, hw, hd, ha⟩

theorem createBatches (h : d.books.Sound p M) (ref : Nat) (dish : Byte) (n : Nat) :
    (d.createBatches ref dish n).books.Sound p M := by
  induction n generalizing d with
  | zero => exact h
  | succ n ih =>
    rw [createBatches_succ]
    exact ite (fun _ => h) fun hr => ih (h.createBatch hr)

theorem formDish (h : d.books.Sound p M) (ref : Nat) (dish : Byte) : (d.formDish ref dish).books.Sound p M :=
  ((h.claimSpares ref dish).fillFormed ref dish).createBatches ref dish _

theorem formLines (h : d.books.Sound p M) (w : Wave) : (d.formLines w).books.Sound p M := h.foldl fun _ c _ hx => hx.formDish _ c

theorem dispatch (h : d.books.Sound p M) : d.dispatch.books.Sound p M := h.congr (books_dispatch d)

theorem evaluate (h : d.books.Sound p M) : d.evaluate.books.Sound p M := h.congr (books_evaluate d)

theorem formationPass (h : d.books.Sound p M) (r : Nat) : (d.formationPass r).books.Sound p M := by
  unfold Device.formationPass
  split
  · exact (h.formLines _).dispatch
  · exact h

theorem formOthers (h : d.books.Sound p M) (o : Option Nat) : (d.formOthers o).books.Sound p M :=
  h.foldl fun _ r _ hx => ite (fun _ => hx.formationPass r) fun _ => hx

theorem formUndispatched (h : d.books.Sound p M) (o : Option Nat) : (d.formUndispatched o).books.Sound p M := by
  refine h.foldl fun x r _ hx => ?_
  split
  · exact ite (fun _ => hx.formLines _) fun _ => hx
  · exact hx

theorem formWaiting (h : d.books.Sound p M) : d.formWaiting.books.Sound p M := h.formOthers none

theorem evaluateSince (h : d.books.Sound p M) (e : Device) : (d.evaluateSince e).books.Sound p M :=
  h.congr (books_evaluateSince e d)

/-! ### Waves retired (R83, R86) -/

theorem retire (h : d.books.Sound p M) (r : Nat) : (d.retire r).books.Sound p M := by
  rw [books_retire]
  refine h.dismiss (List.filter_sublist.map _) ?_
  rw [List.filter_filter]

theorem makeAnonymous (h : d.books.Sound p M) (r : Nat) : (d.makeAnonymous r).books.Sound p M := by
  rw [books_makeAnonymous]
  refine h.dismiss (ws := d.books.waves.map fun w =>
    if w.ref = r then { w with anonymous := true, id := none } else w) ?_ ?_
  · have hrefs : (d.books.waves.map fun w => if w.ref = r then { w with anonymous := true, id := none } else w).map
        (·.ref) = d.books.waves.map (·.ref) := by
      rw [List.map_map]
      refine List.map_congr_left fun w _ => ?_
      simp only [Function.comp_apply]
      split <;> rfl
    exact hrefs ▸ .refl _
  · generalize d.books.waves = ws
    induction ws with
    | nil => rfl
    | cons w ws ih => by_cases hw : w.ref = r <;> by_cases ha : w.anonymous <;> simp [hw, ha, ih]

theorem testNoWork (h : d.books.Sound p M) (r : Nat) : (d.testNoWork r).books.Sound p M := by
  unfold Device.testNoWork
  split
  · exact ite (fun _ => h.retire r) fun _ => h
  · exact h

theorem retireIfRunOut (h : d.books.Sound p M) (r : Nat) : (d.retireIfRunOut r).books.Sound p M := by
  unfold Device.retireIfRunOut
  split
  · exact ite (fun _ => h.retire r) fun _ => h
  · exact h

/-! ### A batch freed, and the end of a wave's work (R84, R125) -/

theorem mem_entries {b : Batch} (hb : b ∈ d.bp.batches) : b.entry ∈ d.books.batches := List.mem_map_of_mem hb

theorem removeBatch (h : d.books.Sound p M) {b : Batch} (hb : b.entry ∈ d.books.batches) :
    (d.removeBatch b).books.Sound p (M.owing b.entry) := by
  rw [books_removeBatch]
  exact h.cut hb

theorem afterFree (h : d.books.Sound p M) (o : Option Nat) (i : Bool) : (d.afterFree o i).books.Sound p M := by
  unfold Device.afterFree
  exact ite (fun _ => (h.formOthers o).dispatch) fun _ => h.formOthers o

theorem freeBatch (h : d.books.Sound p M) {b : Batch} (hb : b ∈ d.bp.batches) :
    (d.freeBatch b).books.Sound p (M.owing b.entry) := (h.removeBatch (mem_entries hb)).afterFree _ _

/-- A batch that leaves with its portions (R84). -/
theorem serve (h : d.books.Sound p M) (hM : p → M.Covered) {b c : Batch} (hb : b ∈ d.bp.batches) (hc : c.bid = b.bid) :
    ((d.takeOff b).removeBatch c).books.Sound p M := by
  have hcomm : ((d.takeOff b).removeBatch c).books = (d.books.cut b.bid).takenOff b.entry := by
    rw [books_removeBatch, books_takeOff, hc]
    unfold Ledger.takenOff
    split <;> rfl
  rw [hcomm]
  exact (h.cut (mem_entries hb)).takeOff hM

theorem endBatch (h : d.books.Sound p M) (hM : p → M.Covered) (r bid : Nat) : (d.endBatch r bid).books.Sound p M := by
  unfold Device.endBatch
  split
  · next b hb =>
    have h1 := h.serve hM (mem_of_batch? hb) (c := b) rfl
    exact ite (fun _ => h1.formUndispatched _) fun _ => h1.formOthers _
  · exact h

theorem endThose (h : d.books.Sound p M) (hM : p → M.Covered) (r : Nat) (st : BatchState) :
    (d.endThose r st).books.Sound p M := h.foldl fun _ bid _ hx => hx.endBatch hM r bid

theorem dropHanded (h : d.books.Sound p M) (hM : p → M.Covered) (r : Nat) : (d.dropHanded r).books.Sound p M := by
  rw [books_dropHanded]
  exact h.unhand hM r

theorem dropUnbatched (h : d.books.Sound p M) (hM : p → M.Covered) (r : Nat) : (d.dropUnbatched r).books.Sound p M := by
  rw [books_dropUnbatched]
  exact h.unbatch hM r

theorem endSet (h : d.books.Sound p M) (hM : p → M.Covered) (w : Wave) : (d.endSet w).books.Sound p M := by
  unfold Device.endSet
  extract_lets d1 d2 d3 d4
  have h1 : d1.books.Sound p M := (h.endThose hM w.ref .holding).endThose hM w.ref .formed
  have h2 : d2.books.Sound p M := h1.endThose hM w.ref .called
  have h3 : d3.books.Sound p M := ((h2.dropHanded hM w.ref).dropUnbatched hM w.ref).congr (books_withdrawWave w.ref _)
  have h4 : d4.books.Sound p M := ite (fun _ => h3.retire w.ref) fun _ => h3.congr (books_enterAway w d3)
  exact ite (fun _ => h4.dispatch) fun _ => h4

theorem endWave (h : d.books.Sound p M) (hM : p → M.Covered) (r : Nat) : (d.endWave r).books.Sound p M := by
  unfold Device.endWave
  split
  · exact h
  · split
    · exact (h.dropUnbatched hM r).retire r
    · exact (h.dropUnbatched hM r).retire r
    · exact h.endSet hM _
    · exact h

theorem abandonWave (h : d.books.Sound p M) (hM : p → M.Covered) (r : Nat) : (d.abandonWave r).books.Sound p M := by
  unfold Device.abandonWave
  split
  · exact h
  · exact (h.congr (books_notify _ d)).endWave hM r

/-! ### Presses and compares (R85, R120, R130 to R134) -/

theorem donePress (h : d.books.Sound p M) (hM : p → M.Covered) (i : Fin 8) {b : Batch} (hb : b ∈ d.bp.batches) :
    (d.donePress i b).books.Sound p M := by
  unfold Device.donePress
  extract_lets idles d1 d2 now d3 d4
  refine ite (fun _ => ?_) fun _ => ?_
  · have h1 : d1.books.Sound p M := h.serve hM hb rfl
    have h2 : d2.books.Sound p M := (h1.congr (books_laneDone i d1)).afterFree _ _
    exact h2.retireIfRunOut _
  · have h3 : d3.books.Sound p M := h.congr (books_onBatch_same (fun _ => by rfl) _ d)
    have h4 : d4.books.Sound p M := h3.congr (books_laneDone i d3)
    exact ite (fun _ => h4.dispatch) fun _ => h4

theorem pressAct (h : d.books.Sound p M) (hM : p → M.Covered) (i : Fin 8) : (d.pressAct i).books.Sound p M := by
  unfold Device.pressAct
  split
  · exact h
  · next b hb =>
    obtain ⟨bid, -, hb⟩ := Option.bind_eq_some_iff.mp hb
    have hb := mem_of_batch? hb
    split
    · exact h
    · exact evaluate (h.congr (books_startPress i b d))
    · exact ite (fun _ => (h.donePress hM i hb).evaluate) fun _ => h
    · exact (h.donePress hM i hb).evaluate

theorem press (h : d.books.Sound p M) (hM : p → M.Covered) (i : Fin 8) : (d.press i).books.Sound p M := by
  unfold Device.press
  exact ite (fun _ => h) fun _ => pressAct (h.congr (books_onLane i _ d)) hM i

/-! ### Waves that settle or are abandoned (R87, R99 to R102) -/

theorem afterSet (h : d.books.Sound p M) (r : Nat) : (d.afterSet r).books.Sound p M := by
  unfold Device.afterSet
  refine ite (fun _ => h) fun _ => evaluate (testNoWork ?_ r)
  exact (h.formationPass r).congr (books_recompute _)

theorem waveSettle (h : d.books.Sound p M) (r : Nat) : (d.waveSettle r).books.Sound p M := by
  unfold Device.waveSettle
  split
  · exact ite (fun _ => (h.congr (books_enterSet _ d)).afterSet r) fun _ => h
  · exact h

theorem waveAbandon (h : d.books.Sound p M) (hM : p → M.Covered) (r : Nat) : (d.waveAbandon r).books.Sound p M := by
  unfold Device.waveAbandon
  split
  · refine ite (fun _ => ?_) fun _ => h
    extract_lets flying d1 d2
    have h1 : d1.books.Sound p M := h.abandonWave hM r
    have h2 : d2.books.Sound p M := ite (fun _ => h1.congr (books_onFlight (fun _ => by rfl) d1)) fun _ => h1
    exact h2.evaluate
  · exact h

/-- A pass's abandoned wave is retired (R87). -/
theorem passAbandon (h : d.books.Sound p M) (r : Nat) : (d.passAbandon r).books.Sound p M := by
  unfold Device.passAbandon
  split
  · extract_lets num n d1 d2 gone
    have h2 : d2.books.Sound p M := (h.congr (books_notify _ d)).retire r
    refine ite (fun _ => ?_) fun _ => h
    refine congr ?_ (books_placeHead _)
    exact ite (fun _ => h2) fun _ => h2
  · exact h

theorem waveBoundary (h : d.books.Sound p M) (hM : p → M.Covered) (r : Nat) : (d.waveBoundary r).books.Sound p M :=
  (((congr h (books_waveClose r d)).waveSettle r).waveAbandon hM r).passAbandon r

end Ledger.Sound

end Sys2Proof.Machine
end

section
/-! Tickets filed and voided in the books (R75, R77 to R79; O51, O56). -/

namespace Sys2Proof.Machine

open Device

/-! ### A ticket taken from the index -/

theorem quantityOf_filter {q : Ticket → Bool} {r : Nat} {s : Serial} {ts : List Ticket}
    (h : ∀ t ∈ ts, q t = false → ¬(t.wave = r ∧ t.serial = s)) (c : Byte) :
    quantityOf r s c (ts.filter q) = quantityOf r s c ts ∧ unbatchedBy r s c (ts.filter q) = unbatchedBy r s c ts := by
  induction ts with
  | nil => exact ⟨rfl, rfl⟩
  | cons t ts ih =>
    obtain ⟨ht, hts⟩ := List.forall_mem_cons.mp h
    obtain ⟨h1, h2⟩ := ih hts
    cases hq : q t with
    | true => simp [hq, h1, h2]
    | false => simp [hq, h1, h2, ht hq]

theorem unbatchedOf_filter {q : Ticket → Bool} {r : Nat} {ts : List Ticket} (h : ∀ t ∈ ts, q t = false → t.wave ≠ r)
    (c : Byte) : unbatchedOf r c (ts.filter q) = unbatchedOf r c ts := by
  induction ts with
  | nil => rfl
  | cons t ts ih =>
    obtain ⟨ht, hts⟩ := List.forall_mem_cons.mp h
    cases hq : q t with
    | true => simp [hq, ih hts]
    | false => simp [hq, ih hts, ht hq]

/-- The index without the tickets of a pass and serial. -/
def withoutTicket (t : Ticket) (ts : List Ticket) : List Ticket :=
  ts.filter (fun x => !(x.pass == t.pass && x.serial == t.serial))

theorem eq_of_not_withoutTicket {ts : List Ticket} (h : (ts.map (fun t => (t.pass, t.serial))).Nodup) {t x : Ticket}
    (ht : t ∈ ts) (hx : x ∈ ts) (hq : (!(x.pass == t.pass && x.serial == t.serial)) = false) : x = t := by
  refine List.inj_on_of_nodup_map h hx ht ?_
  simpa using hq

theorem notSame_of {t x : Ticket} (h : ¬(x.pass = t.pass ∧ x.serial = t.serial)) :
    (!(x.pass == t.pass && x.serial == t.serial)) = true := by
  simp only [Bool.not_eq_true', Bool.and_eq_false_iff, beq_eq_false_iff_ne]
  exact not_and_or.mp h

/-- The ticket taken out leaves with its unbatched portions. -/
theorem unbatchedOf_withoutTicket {ts : List Ticket} (h : (ts.map (fun t => (t.pass, t.serial))).Nodup) {t : Ticket}
    (ht : t ∈ ts) (c : Byte) :
    unbatchedOf t.wave c (withoutTicket t ts) + unbatchedIn c t.items = unbatchedOf t.wave c ts := by
  induction ts with
  | nil => cases ht
  | cons x ts ih =>
    obtain ⟨hx, hts⟩ := List.nodup_cons.mp h
    rcases List.mem_cons.mp ht with rfl | ht
    · have hself : withoutTicket t ts = ts := List.filter_eq_self.mpr fun y hy => notSame_of fun ⟨k1, k2⟩ =>
        hx (List.mem_map.mpr ⟨y, hy, Prod.ext k1 k2⟩)
      have hcons : withoutTicket t (t :: ts) = withoutTicket t ts := by simp [withoutTicket]
      rw [hcons, hself, unbatchedOf_cons, if_pos rfl]
      omega
    · have hne : ¬(x.pass = t.pass ∧ x.serial = t.serial) := fun ⟨k1, k2⟩ =>
        hx (List.mem_map.mpr ⟨t, ht, Prod.ext k1.symm k2.symm⟩)
      have hcons : withoutTicket t (x :: ts) = x :: withoutTicket t ts :=
        List.filter_cons_of_pos (p := fun x : Ticket => !(x.pass == t.pass && x.serial == t.serial)) (notSame_of hne)
      have := ih hts ht
      rw [hcons, unbatchedOf_cons, unbatchedOf_cons]
      omega

/-! ### Serials dropped from lists (R78, R79) -/

theorem listedFor_eq_zero {s : Serial} {cs : List Contrib} (h : ∀ c ∈ cs, c.serial ≠ s) : listedFor s cs = 0 := by
  induction cs with
  | nil => rfl
  | cons c cs ih =>
    obtain ⟨hc, hcs⟩ := List.forall_mem_cons.mp h
    rw [listedFor_cons, if_neg hc, ih hcs]

theorem listedFor_dropSerial (s y : Serial) (cs : List Contrib) :
    listedFor y (dropSerial s cs) = if y = s then 0 else listedFor y cs := by
  induction cs with
  | nil => simp [dropSerial]
  | cons c cs ih =>
    by_cases hc : c.serial = s
    · have hcons : dropSerial s (c :: cs) = dropSerial s cs := by simp [dropSerial, hc]
      rw [hcons, ih, listedFor_cons]
      by_cases hy : y = s
      · simp [hy]
      · simp [hy, hc, Ne.symm hy]
    · have hcons : dropSerial s (c :: cs) = c :: dropSerial s cs := by simp [dropSerial, hc]
      rw [hcons, listedFor_cons, listedFor_cons, ih]
      by_cases hy : y = s
      · simp [hy, hc]
      · simp [hy]

theorem serials_dropSerial (s : Serial) (cs : List Contrib) :
    ((dropSerial s cs).map (·.serial)).Sublist (cs.map (·.serial)) := List.filter_sublist.map _

theorem serial_ne_of_mem_dropSerial {s : Serial} {cs : List Contrib} {c : Contrib} (h : c ∈ dropSerial s cs) :
    c.serial ≠ s := by simpa using (List.mem_filter.mp h).2

/-- A list that the drop of a serial empties has nothing for another. -/
theorem listedFor_of_emptied {s y : Serial} {cs : List Contrib} (h : (dropSerial s cs).isEmpty = true) (hy : y ≠ s) :
    listedFor y cs = 0 := by
  have := listedFor_dropSerial s y cs
  rw [List.isEmpty_iff.mp h, if_neg hy] at this
  exact this.symm

theorem handedOf_voidHanded (ref : Nat) (s : Serial) (hs : List Handed) (r : Nat) (y : Serial) (c : Byte) :
    handedOf r y c (voidHanded ref s hs) = if r = ref ∧ y = s then 0 else handedOf r y c hs := by
  induction hs with
  | nil => simp [voidHanded]
  | cons x hs ih =>
    have hshare : ∀ (z : Handed), z.wave = x.wave → z.dish = x.dish → z.contribs = dropSerial s x.contribs → x.wave = ref →
        z.share r y c = if r = ref ∧ y = s then 0 else x.share r y c := fun z h1 h2 h3 h4 => by
      simp only [Handed.share, h1, h2, h3, listedFor_dropSerial]
      by_cases hry : r = ref ∧ y = s
      · rw [if_pos hry, if_pos hry.2, ite_self]
      · by_cases hy : y = s
        · have : ¬(x.wave = r ∧ x.dish = c) := fun k => hry ⟨k.1.symm.trans h4, hy⟩
          simp [hry, this]
        · simp [hy]
    by_cases hx : x.wave = ref
    · cases he : (dropSerial s x.contribs).isEmpty with
      | true =>
        have hcons : voidHanded ref s (x :: hs) = voidHanded ref s hs := by
          simp only [voidHanded, List.map_cons, hx, BEq.rfl, if_true, List.filter_cons, he]
          rfl
        have hz := hshare { x with contribs := dropSerial s x.contribs } rfl rfl rfl hx
        have hzero : ({ x with contribs := dropSerial s x.contribs } : Handed).share r y c = 0 := by
          simp [Handed.share, List.isEmpty_iff.mp he]
        rw [hcons, ih, handedOf_cons]
        split
        · rfl
        · next hry => rw [hzero, if_neg hry] at hz; omega
      | false =>
        have hcons : voidHanded ref s (x :: hs) = { x with contribs := dropSerial s x.contribs } :: voidHanded ref s hs := by
          simp only [voidHanded, List.map_cons, hx, BEq.rfl, if_true, List.filter_cons, he]
          rfl
        rw [hcons, handedOf_cons, handedOf_cons, ih, hshare { x with contribs := dropSerial s x.contribs } rfl rfl rfl hx]
        split <;> omega
    · have hcons : voidHanded ref s (x :: hs) = x :: voidHanded ref s hs := by
        simp [voidHanded, hx]
      rw [hcons, handedOf_cons, handedOf_cons, ih]
      by_cases hry : r = ref ∧ y = s
      · have : x.share r y c = 0 := if_neg fun k => hx (k.1.trans hry.1)
        rw [if_pos hry, if_pos hry, this]
      · rw [if_neg hry, if_neg hry]

theorem mem_voidHanded {ref : Nat} {s : Serial} {hs : List Handed} {x : Handed} (h : x ∈ voidHanded ref s hs) :
    ∃ z ∈ hs, z.wave = x.wave := by
  obtain ⟨h, -⟩ := List.mem_filter.mp h
  obtain ⟨z, hz, rfl⟩ := List.mem_map.mp h
  refine ⟨z, hz, ?_⟩
  split <;> rfl

/-- The items of a ticket as it is filed. -/
def filedItems (kept : List Order) : List Item := kept.map (fun o => { dish := o.dish, qty := o.qty, unb := o.qty })

theorem filedItems_cons (o : Order) (kept : List Order) :
    filedItems (o :: kept) = { dish := o.dish, qty := o.qty, unb := o.qty } :: filedItems kept := rfl

theorem unbatchedIn_filedItems (c : Byte) (kept : List Order) :
    unbatchedIn c (filedItems kept) = quantityIn c (filedItems kept) := by
  induction kept with
  | nil => rfl
  | cons o kept ih => rw [filedItems_cons, unbatchedIn_cons, quantityIn_cons, ih]

namespace Ledger

variable {p : Prop} {M : Marks} {L : Ledger}

/-! ### A ticket filed (R75) -/

theorem Demanded.add {u : Byte → Nat} {ls : List DishLine} (h : Demanded u ls) (dish : Byte) (n : Nat) :
    Demanded (fun c => u c + if c = dish then n else 0) (addDemand dish n ls) := by
  obtain ⟨h1, h2⟩ := h
  unfold addDemand
  split
  · next hany =>
    refine ⟨List.forall_mem_map.mpr fun l hl => ?_, fun c hc => ?_⟩
    · by_cases hld : l.dish = dish
      · simp [hld, h1 l hl]
      · simp [hld, h1 l hl]
    · have hl : ∀ l ∈ ls, l.dish ≠ c := fun l hl => by
        have := List.forall_mem_map.mp hc l hl
        split at this <;> exact this
      obtain ⟨l, hm, hd⟩ := List.any_eq_true.mp hany
      have hcd : c ≠ dish := fun k => hl l hm (by simpa [k] using hd)
      simp [h2 c hl, hcd]
  · next hany =>
    have hno : ∀ l ∈ ls, l.dish ≠ dish := by simpa using hany
    refine ⟨fun l hl => ?_, fun c hc => ?_⟩
    · rcases List.mem_append.mp hl with hl | hl
      · simp [h1 l hl, hno l hl]
      · rw [List.mem_singleton.mp hl]
        simp [h2 dish hno]
    · have hcd : dish ≠ c := hc { dish := dish, demand := n } (by simp)
      simp [h2 c fun l hl => hc l (List.mem_append_left _ hl), Ne.symm hcd]

theorem Demanded.fill {u : Byte → Nat} {ls : List DishLine} (h : Demanded u ls) (kept : List Order) :
    Demanded (fun c => u c + unbatchedIn c (filedItems kept)) (kept.foldl (fun ls o => addDemand o.dish o.qty ls) ls) := by
  induction kept generalizing u ls with
  | nil => exact h
  | cons o kept ih =>
    have := ih (h.add o.dish o.qty)
    simp only [filedItems_cons, unbatchedIn_cons, eq_comm (a := o.dish), ← Nat.add_assoc]
    exact this

def filed (t : Ticket) (kept : List Order) (L : Ledger) : Ledger :=
  { L with
    tickets := L.tickets ++ [t]
    waves := L.waves.map (fun w => if w.ref = t.wave then
      { w with lines := kept.foldl (fun ls o => addDemand o.dish o.qty ls) w.lines } else w) }

/-- No ticket of a pass and serial is in the index. -/
def Marks.unheld (a : Addr) (s : Serial) : Marks := { Marks.plain with filed := fun _ x y => ¬(x = a ∧ y = s) }

theorem Sound.file {t : Ticket} (h : L.Sound p (.unheld t.pass t.serial)) (hh : L.hold = none) {kept : List Order}
    (ht : t.items = filedItems kept) (hw : ∃ w ∈ L.waves, w.ref = t.wave ∧ w.anonymous = false ∧
      ∃ num, w.id = some { pass := t.pass, num := num }) : (L.filed t kept).Sound p .plain := by
  have hheads : (L.filed t kept).waves.map WaveEntry.head = L.waves.map WaveEntry.head :=
    heads_map (fun w => by split <;> rfl) _
  have hrefs : (L.filed t kept).waves.map (·.ref) = L.waves.map (·.ref) := by
    have := congrArg (List.map fun x : Nat × Bool × Option WaveId => x.1) hheads
    simp only [List.map_map] at this
    exact this
  have hnames : ((L.filed t kept).waves.filter (fun w => !w.anonymous)).map (·.id) =
      (L.waves.filter (fun w => !w.anonymous)).map (·.id) := by
    have := congrArg (fun l => (l.filter fun x : Nat × Bool × Option WaveId => !x.2.1).map fun x => x.2.2) hheads
    simp only [List.filter_map, List.map_map] at this
    exact this
  have hhome : ∀ u, (∃ w ∈ L.waves, w.ref = u ∧ w.anonymous = false ∧ ∃ num, w.id = some { pass := t.pass, num := num }) →
      ∃ w ∈ (L.filed t kept).waves, w.ref = u ∧ w.anonymous = false ∧ ∃ num, w.id = some { pass := t.pass, num := num } := by
    rintro u ⟨w, hw, hwr, ha, num, hid⟩
    obtain ⟨v, hv, hvr, hva, hvi⟩ := mem_heads hheads hw
    exact ⟨v, hv, hvr.trans hwr, hva.trans ha, num, hvi.trans hid⟩
  refine ⟨hrefs ▸ h.refs, fun w hwm => ?_, h.bids, h.bidBelow, hnames ▸ h.names, fun _ _ _ => trivial, fun hp => ?_⟩
  · obtain ⟨v, hv, hvr, -⟩ := mem_heads hheads.symm hwm
    exact hvr ▸ h.below v hv
  have k := h.accounts hp
  refine ⟨fun u hu => ?_, ?_, k.batchWave, k.handedWave, k.listsOnce, k.offered, fun f hf => ?_, fun w hwm ha => ?_,
    fun w hwm ha s c => ?_, fun _ _ => trivial, fun _ _ => trivial, fun _ _ _ _ => trivial, fun _ _ _ _ => trivial,
    fun _ _ _ _ _ => trivial⟩
  · rcases List.mem_append.mp hu with hu | hu
    · obtain ⟨w, hw, hwr, ha, num, hid⟩ := k.home u hu
      obtain ⟨v, hv, hvr, hva, hvi⟩ := mem_heads hheads hw
      exact ⟨v, hv, hvr.trans hwr, hva.trans ha, num, hvi.trans hid⟩
    · rw [List.mem_singleton.mp hu]
      exact hhome _ hw
  · simp only [filed, List.map_append, List.map_cons, List.map_nil]
    refine List.nodup_append.mpr ⟨k.once, List.nodup_singleton _, fun a ha b hb => ?_⟩
    obtain ⟨u, hu, rfl⟩ := List.mem_map.mp ha
    rw [List.mem_singleton.mp hb]
    exact fun he => k.filed u hu (Prod.mk.inj he)
  · rw [show (L.filed t kept).hold = none from hh] at hf
    cases hf
  · obtain ⟨v, hv, rfl⟩ := List.mem_map.mp hwm
    by_cases hr : v.ref = t.wave
    · simp only [hr, if_true] at ha ⊢
      have := (k.demand v hv ha).fill kept
      simpa [filed, ht, hr] using this
    · simp only [hr, if_false] at ha ⊢
      have := k.demand v hv ha
      simpa [filed, Ne.symm hr] using this
  · obtain ⟨v, hv, hvr, hva, -⟩ := mem_heads hheads.symm hwm
    have hdue : L.due v.ref s c = 0 := k.due v hv (hva.trans ha) s c
    have heq : (L.filed t kept).due w.ref s c = L.due w.ref s c := by
      simp only [Ledger.due, filed, quantityOf_append, quantityOf_cons, quantityOf_nil, unbatchedBy_append, unbatchedBy_cons,
        unbatchedBy_nil, ht, unbatchedIn_filedItems]
      omega
    exact heq.trans (hvr ▸ hdue)

/-! ### A ticket voided (R77 to R79) -/

/-- A VOID under way: the tickets that it names are gone; the batches still to be taken are among those of `old`, and where
it named a ticket no other batch lists its serial, for which the books are then open. -/
def Marks.voiding (ref : Nat) (s : Serial) (named : Bool) (old bs : List Nat) : Marks where
  named _ _ := True
  filed r _ y := ¬(r = ref ∧ y = s)
  own bid r a := bid ∈ old → r = ref ∧ (named = false → a = true)
  lists bid r y := named = true → r = ref ∧ y = s → bid ∈ bs
  due r y _ x := (named = true ∧ r = ref ∧ y = s) ∨ x = 0

/-- The batches to be taken known, and the books open for the serial of the ticket that the VOID names. -/
def Marks.opened (ref : Nat) (s : Serial) (bs : List Nat) : Marks :=
  { Marks.plain with
    own := fun bid r a => bid ∈ bs → r = ref ∧ (true = false → a = true)
    due := fun r y _ x => (true = true ∧ r = ref ∧ y = s) ∨ x = 0 }

/-- Unbatched portions of a ticket's items taken off the demand of its wave (R77). -/
def lowerAll (r : Nat) (its : List Item) (ws : List WaveEntry) : List WaveEntry :=
  its.foldl (fun ws it => lowerLines r it.dish it.unb ws) ws

theorem heads_lowerAll (r : Nat) (its : List Item) (ws : List WaveEntry) :
    (lowerAll r its ws).map WaveEntry.head = ws.map WaveEntry.head := by
  induction its generalizing ws with
  | nil => rfl
  | cons it its ih => exact (ih _).trans (heads_lowerLines r it.dish it.unb ws)

theorem demanded_lowerAll {r : Nat} {its : List Item} {ws : List WaveEntry} {u : Nat → Byte → Nat}
    (h : ∀ w ∈ ws, w.anonymous = false → Demanded (u w.ref) w.lines) : ∀ w ∈ lowerAll r its ws, w.anonymous = false →
      Demanded (fun c => u w.ref c - if w.ref = r then unbatchedIn c its else 0) w.lines := by
  induction its generalizing ws u with
  | nil =>
    intro w hw ha
    have := h w hw ha
    simpa using this
  | cons it its ih =>
    intro w hw ha
    have hstep : ∀ w ∈ lowerLines r it.dish it.unb ws, w.anonymous = false →
        Demanded (fun c => u w.ref c - if w.ref = r ∧ c = it.dish then it.unb else 0) w.lines := by
      intro w hw ha
      obtain ⟨v, hv, rfl⟩ := List.mem_map.mp hw
      by_cases hr : v.ref = r
      · simp only [hr, if_true] at ha ⊢
        refine (h v hv ha).lower (dish := it.dish) (by simp [hr]) fun c hc => by simp [hr, hc]
      · simp only [hr, if_false] at ha ⊢
        have := h v hv ha
        simpa [hr] using this
    have := ih (u := fun x c => u x c - if x = r ∧ c = it.dish then it.unb else 0) hstep w hw ha
    refine (congrArg (fun v => Demanded v w.lines) (funext fun c => ?_)).mp this
    by_cases hr : w.ref = r
    · simp only [hr, true_and, if_true, unbatchedIn_cons, eq_comm (a := it.dish)]
      omega
    · simp [hr]

def ticketDropped (t : Ticket) (L : Ledger) : Ledger :=
  { L with tickets := withoutTicket t L.tickets, waves := lowerAll t.wave t.items L.waves }

theorem Sound.dropTicket (h : L.Sound p .plain) {t : Ticket} (ht : t ∈ L.tickets) {bs : List Nat}
    (hbs : ∀ b ∈ L.batches, b.bid ∈ bs ↔ b.wave = t.wave ∧ ∃ c ∈ b.contribs, c.serial = t.serial)
    (hlt : ∀ bid ∈ bs, bid < L.nextBid) : (L.ticketDropped t).Sound p (.voiding t.wave t.serial true bs bs) := by
  have hmark : L.Sound p { Marks.opened t.wave t.serial bs with due := Marks.plain.due } :=
    h.remark (fun _ _ _ => trivial) fun _ k => ⟨k.due, fun _ _ => trivial, fun b hb hm => ⟨((hbs b hb).mp hm).1, nofun⟩,
      fun _ _ _ _ => trivial, fun bid _ _ hge hm => absurd (hlt bid hm) (by omega), fun _ _ _ _ _ => trivial⟩
  have hrev : (L.ticketDropped t).Sound p (.opened t.wave t.serial bs) := by
    refine hmark.revise (heads_lowerAll ..) rfl h.bids h.bidBelow le_rfl fun hp k => ?_
    have honly := fun x hx hq => eq_of_not_withoutTicket k.once ht (x := x) hx hq
    refine ⟨List.filter_sublist.map _, fun b hb => .inl ⟨b, hb, rfl, rfl, rfl⟩, k.listsOnce, fun _ _ _ _ => trivial,
      k.handedWave, rfl, rfl, fun w hw ha => ?_, fun w hw ha s c => ?_⟩
    · have := demanded_lowerAll (r := t.wave) (its := t.items) (u := fun x c => unbatchedOf x c L.tickets) k.demand w hw ha
      refine (congrArg (fun v => Demanded v w.lines) (funext fun c => ?_)).mp this
      by_cases hr : w.ref = t.wave
      · have := unbatchedOf_withoutTicket k.once ht c
        simp only [hr, if_true, ticketDropped]
        omega
      · have : unbatchedOf w.ref c (withoutTicket t L.tickets) = unbatchedOf w.ref c L.tickets :=
          unbatchedOf_filter (fun x hx hq => honly x hx hq ▸ Ne.symm hr) c
        simp only [hr, if_false, ticketDropped, this, Nat.sub_zero]
    · by_cases hrs : w.ref = t.wave ∧ s = t.serial
      · exact .inl ⟨rfl, hrs⟩
      · refine .inr ?_
        obtain ⟨h1, h2⟩ := quantityOf_filter (q := fun x => !(x.pass == t.pass && x.serial == t.serial)) (r := w.ref) (s := s)
          (fun x hx hq k => hrs (honly x hx hq ▸ ⟨k.1.symm, k.2.symm⟩)) c
        have heq : (L.ticketDropped t).due w.ref s c = L.due w.ref s c := by
          simp only [Ledger.due, ticketDropped, withoutTicket, h1, h2]
        exact heq.trans (k.due w hw ha s c)
  refine hrev.remark (fun _ _ _ => trivial) fun hp k => ⟨k.due, fun u hu hus => ?_, k.own, fun b hb c hc _ hrs => ?_, k.ownNew,
    fun bid r a y hn _ hrs => absurd hrs hn⟩
  · obtain ⟨hu, huq⟩ := List.mem_filter.mp hu
    have hk := h.accounts hp
    have hpass := hk.pass_eq h.refs hu ht hus.1
    simp [hpass, hus.2] at huq
  · exact (hbs b hb).mpr ⟨hrs.1, c, hc, hrs.2⟩

/-- A VOID that names no ticket of the wave (R80). -/
theorem Sound.voidUnnamed (h : L.Sound p .plain) {ref : Nat} {s : Serial} (ht : p → ∀ t ∈ L.tickets,
    ¬(t.wave = ref ∧ t.serial = s)) {bs : List Nat} (hbs : ∀ b ∈ L.batches, b.bid ∈ bs → b.wave = ref ∧ b.adopted = true)
    (hlt : ∀ bid ∈ bs, bid < L.nextBid) : L.Sound p (.voiding ref s false bs bs) :=
  h.remark (fun _ _ _ => trivial) fun hp k => ⟨fun w hw ha s c => .inr (k.due w hw ha s c), ht hp,
    fun b hb hm => ⟨(hbs b hb hm).1, fun _ => (hbs b hb hm).2⟩, fun _ _ _ _ hf => (Bool.false_ne_true hf).elim,
    fun bid _ _ hge hm => absurd (hlt bid hm) (by omega), fun _ _ _ _ _ hf => (Bool.false_ne_true hf).elim⟩

/-- A batch that is to be taken, once it lists the serial no longer or has left. -/
theorem Sound.voided {ref : Nat} {s : Serial} {named : Bool} {old bs : List Nat} {bid : Nat}
    (h : L.Sound p (.voiding ref s named old (bid :: bs)))
    (hb : ∀ b ∈ L.batches, b.bid = bid → ∀ c ∈ b.contribs, c.serial ≠ s) : L.Sound p (.voiding ref s named old bs) :=
  h.remark (fun _ _ _ => trivial) fun _ k => ⟨k.due, k.filed, k.own, fun b hm c hc hn hrs => by
    rcases List.mem_cons.mp (k.lists b hm c hc hn hrs) with hbid | hbid
    · exact (hb b hm hbid c hc hrs.2).elim
    · exact hbid, k.ownNew, fun _ _ _ _ hn _ hrs => absurd hrs hn⟩

/-- The serial dropped from the list of a batch to be taken (R78). -/
theorem Sound.relist {ref : Nat} {s : Serial} {named : Bool} {old bs : List Nat} {e : BatchEntry}
    (h : L.Sound p (.voiding ref s named old bs)) (he : e ∈ L.batches) (ho : e.bid ∈ old) :
    { L with batches := relisted e.bid (dropSerial s) L.batches }.Sound p (.voiding ref s named old bs) := by
  have hbids := bids_relisted e.bid (dropSerial s) L.batches
  refine h.revise rfl rfl (hbids ▸ h.bids) (fun x hx => ?_) le_rfl fun hp k => ?_
  · rcases mem_relisted hx with ⟨hx, -⟩ | ⟨y, hy, -, rfl⟩
    · exact h.bidBelow x hx
    · exact h.bidBelow y hy
  refine ⟨.refl _, fun x hx => ?_, fun x hx ha => ?_, fun x hx c hc => ?_, k.handedWave, rfl, rfl, k.demand,
    fun w hw ha y c => ?_⟩
  · rcases mem_relisted hx with ⟨hx, -⟩ | ⟨y, hy, -, rfl⟩
    · exact .inl ⟨x, hx, rfl, rfl, rfl⟩
    · exact .inl ⟨y, hy, rfl, rfl, rfl⟩
  · rcases mem_relisted hx with ⟨hx, -⟩ | ⟨y, hy, -, rfl⟩
    · exact k.listsOnce x hx ha
    · exact (k.listsOnce y hy ha).sublist (serials_dropSerial s _)
  · rcases mem_relisted hx with ⟨hx, -⟩ | ⟨y, hy, -, rfl⟩
    · exact k.lists x hx c hc
    · exact k.lists y hy c (List.mem_filter.mp hc).1
  · rcases k.due w hw ha y c with hx | hx
    · exact .inl hx
    · by_cases hex : named = true ∧ w.ref = ref ∧ y = s
      · exact .inl hex
      · refine .inr ?_
        obtain ⟨hwave, hadopt⟩ := k.own e he ho
        have hshare : ({ e with contribs := dropSerial s e.contribs } : BatchEntry).share w.ref y c = e.share w.ref y c := by
          simp only [BatchEntry.share, listedFor_dropSerial]
          by_cases hc : e.wave = w.ref ∧ e.dish = c ∧ e.adopted = false
          · have hy : y ≠ s := fun hys => hex ⟨by
              by_contra hn
              simp [hadopt (by simpa using hn)] at hc, hc.1.symm.trans hwave, hys⟩
            rw [if_pos hc, if_pos hc, if_neg hy]
          · rw [if_neg hc, if_neg hc]
        have hsum := sharesOf_relisted h.bids he (dropSerial s) w.ref y c
        rw [hshare] at hsum
        have heq : (({ L with batches := relisted e.bid (dropSerial s) L.batches } : Ledger).due w.ref y c) =
            L.due w.ref y c := by
          simp only [Ledger.due]
          omega
        exact heq.trans hx

/-- A batch that the VOID has emptied holds nothing of another serial (R78). -/
theorem Sound.voidSettled {ref : Nat} {s : Serial} {named : Bool} {old bs : List Nat} {e : BatchEntry}
    (h : L.Sound p ((Marks.voiding ref s named old bs).owing e)) (he : p → e.wave = ref ∧ (named = false → e.adopted = true))
    (hs : (dropSerial s e.contribs).isEmpty = true) : L.Sound p (.voiding ref s named old bs) := by
  refine h.remark (fun _ _ _ => trivial) fun hp k => ⟨fun w hw ha y c => ?_, k.filed, k.own, k.lists, k.ownNew, k.listsFiled⟩
  obtain ⟨hwave, hadopt⟩ := he hp
  by_cases hex : named = true ∧ w.ref = ref ∧ y = s
  · exact .inl hex
  · have hz : e.share w.ref y c = 0 := by
      by_cases hc : e.wave = w.ref ∧ e.dish = c ∧ e.adopted = false
      · have hy : y ≠ s := fun hys => hex ⟨by
          by_contra hn
          simp [hadopt (by simpa using hn)] at hc, hc.1.symm.trans hwave, hys⟩
        exact (if_pos hc).trans (listedFor_of_emptied hs hy)
      · exact if_neg hc
    have := k.due w hw ha y c
    simp only [Marks.owing, hz, Nat.cast_zero, sub_zero] at this
    exact this

/-- The serial dropped from the handed records of the wave; the books are then balanced (R79). -/
theorem Sound.voidDone {ref : Nat} {s : Serial} {named : Bool} {old : List Nat} (h : L.Sound p (.voiding ref s named old [])) :
    { L with handed := voidHanded ref s L.handed }.Sound p .plain := by
  have hrev : { L with handed := voidHanded ref s L.handed }.Sound p
      { Marks.voiding ref s named old [] with due := fun _ _ _ x => x = 0 } := by
    refine h.revise rfl rfl h.bids h.bidBelow le_rfl fun hp k => ?_
    refine ⟨.refl _, fun b hb => .inl ⟨b, hb, rfl, rfl, rfl⟩, k.listsOnce, k.lists, fun x hx => ?_, rfl, rfl, k.demand,
      fun w hw ha y c => ?_⟩
    · obtain ⟨z, hz, hzw⟩ := mem_voidHanded hx
      exact hzw ▸ k.handedWave z hz
    · have hdue := k.due w hw ha y c
      by_cases hwy : w.ref = ref ∧ y = s
      · obtain ⟨h1, h2⟩ := quantityOf_eq_zero (r := w.ref) (s := y) (fun t ht hk => k.filed t ht
          ⟨hk.1.trans hwy.1, hk.2.trans hwy.2⟩) c
        have hsh : sharesOf w.ref y c L.batches = 0 := by
          cases named with
          | true =>
            refine sharesOf_eq_zero fun b hb => ?_
            by_cases hbc : b.wave = w.ref ∧ b.dish = c ∧ b.adopted = false
            · refine (if_pos hbc).trans (listedFor_eq_zero fun x hx hxs => ?_)
              exact List.not_mem_nil (k.lists b hb x hx rfl ⟨hbc.1.trans hwy.1, hxs.trans hwy.2⟩)
            · exact if_neg hbc
          | false =>
            rcases hdue with hf | hz
            · exact (Bool.false_ne_true hf.1).elim
            · simp only [Ledger.due, h1, h2] at hz
              omega
        simp only [Ledger.due, h1, h2, hsh, handedOf_voidHanded, if_pos hwy]
        rfl
      · have heq : (({ L with handed := voidHanded ref s L.handed } : Ledger).due w.ref y c) = L.due w.ref y c := by
          simp only [Ledger.due, handedOf_voidHanded, if_neg hwy]
        rcases hdue with hf | hz
        · exact absurd hf.2 hwy
        · exact heq.trans hz
  exact hrev.unmark fun _ _ _ _ _ hx => hx

end Ledger

end Sys2Proof.Machine
end

section
/-! The books through tickets, voids, pickups, hand-offs and hold expiry (R74 to R80, R84, R122, R123, R149 to R152; O51,
O56). -/

namespace Sys2Proof.Machine

open Device

/-! ### The record that an id names (R70) -/

theorem Device.named?_eq_some {d : Device} {a : Addr} {n : Byte} {w : Wave} (h : d.named? a n = some w) :
    w ∈ d.wu.waves ∧ w.anonymous = false ∧ w.id = some { pass := a, num := n } := by
  have hp := List.find?_some h
  simp only [Bool.and_eq_true, Bool.not_eq_true', beq_iff_eq] at hp
  exact ⟨List.mem_of_find?_eq_some h, hp⟩

theorem Device.free_of_named?_eq_none {d : Device} {a : Addr} {n : Byte} (h : d.named? a n = none) :
    ∀ v ∈ d.books.waves, v.anonymous = false → v.id ≠ some { pass := a, num := n } := by
  refine List.forall_mem_map.mpr fun w hw ha hid => ?_
  have ha : w.anonymous = false := ha
  have hid : w.id = some { pass := a, num := n } := hid
  have := List.find?_eq_none.mp h w hw
  simp [ha, hid] at this

/-- A record answers to a reference and a wave id. -/
def Device.Answers (d : Device) (r : Nat) (a : Addr) (n : Byte) : Prop :=
  ∃ w ∈ d.books.waves, w.ref = r ∧ w.anonymous = false ∧ w.id = some { pass := a, num := n }

theorem waveUse_some_ne_create (c : Tick) (w : Wave) : waveUse c (some w) ≠ .create := by
  simp only [waveUse]
  (repeat' split) <;> exact nofun

namespace Device

theorem books_createFromTicket (a : Addr) (st : Tick) (n : Byte) (c : Tick) (l : BitVec 16) (gp : Bool) (g : Tick)
    (d : Device) : (d.createFromTicket a st n c l gp g).books = d.books.entered (d.ticketWave a st n c l gp g).entry := by
  unfold createFromTicket
  extract_lets w d1
  have h1 : d1.books = d.books.entered w.entry := books_addWave w d
  split
  · exact (books_notify _ d1).trans h1
  · exact (books_catchUp _ d1).trans h1

theorem books_fileTicket (a : Addr) (s : Serial) (r : Nat) (kept : List Order) (d : Device) :
    (d.fileTicket a s r kept).books =
      d.books.filed { pass := a, serial := s, wave := r, items := filedItems kept } kept := by
  have hw : (d.fileTicket a s r kept).wu.waves.map Wave.entry =
      (d.books.filed { pass := a, serial := s, wave := r, items := filedItems kept } kept).waves := by
    simp only [fileTicket, onWave_waves, Ledger.filed, books, List.map_map]
    refine List.map_congr_left fun w _ => ?_
    by_cases h : w.ref = r <;> simp [h, Wave.entry]
  have hd : (d.fileTicket a s r kept).books = { d.books.filed
      { pass := a, serial := s, wave := r, items := filedItems kept } kept with
    waves := (d.fileTicket a s r kept).wu.waves.map Wave.entry } := rfl
  rw [hd, hw]

theorem books_dropTicket (t : Ticket) (d : Device) : (d.dropTicket t).books = d.books.ticketDropped t := by
  have hfold : ∀ (its : List Item) (e : Device), (its.foldl (fun x it => x.lowerDemand t.wave it.dish it.unb) e).books =
      { e.books with waves := Ledger.lowerAll t.wave its e.books.waves } := by
    intro its
    induction its with
    | nil => exact fun _ => rfl
    | cons it its ih =>
      intro e
      rw [List.foldl_cons, ih, books_lowerDemand]
      rfl
  unfold dropTicket
  rw [hfold]
  rfl

theorem books_addBatch (b : Batch) (d : Device) :
    (d.addBatch b).books = d.books.adopted { b.entry with bid := d.bp.nextBid } := by
  simp only [addBatch, books, onBp_bp, List.map_append]
  rfl

end Device

namespace Ledger.Sound

variable {p : Prop} {M : Marks} {d : Device}

/-! ### A ticket filed (R74, R75) -/

/-- A record created for a wave id that none carries (R76). -/
theorem createFromTicket (h : d.books.Sound p M) (a : Addr) (st : Tick) (n : Byte) (c : Tick) (l : BitVec 16) (gp : Bool)
    (g : Tick) (hfree : ∀ v ∈ d.books.waves, v.anonymous = false → v.id ≠ some { pass := a, num := n })
    (hn : ∀ r i, M.named r i) (hd : p → ∀ r s c, M.due r s c 0) :
    (d.createFromTicket a st n c l gp g).books.Sound p M ∧
      (d.createFromTicket a st n c l gp g).Answers d.wu.nextRef a n := by
  unfold Device.Answers
  rw [books_createFromTicket]
  refine ⟨h.enter rfl rfl rfl hfree (hn _ _) hd, (d.ticketWave a st n c l gp g).entry, ?_, rfl, rfl, rfl⟩
  exact List.mem_append_right _ (List.mem_singleton_self _)

/-- The record of a reused wave number made way for: no other record carries the id (R74). -/
theorem displace (h : d.books.Sound p M) (hM : p → M.Covered) {w : Wave} (hw : w ∈ d.wu.waves) (ha : w.anonymous = false) :
    (d.displace w.ref).books.Sound p M ∧
      ∀ v ∈ (d.displace w.ref).books.waves, v.anonymous = false → v.id ≠ w.id := by
  have hm : d.books.Sound p { M with named := fun r i => M.named r i ∧ (r = w.ref ∨ i ≠ w.id) } := by
    refine h.remark (fun v hv hva => ⟨h.named v hv hva, ?_⟩) fun _ k => ⟨k.due, k.filed, k.own, k.lists, k.ownNew, k.listsFiled⟩
    by_cases hid : v.id = w.id
    · refine .inl (congrArg WaveEntry.ref (List.inj_on_of_nodup_map h.names (List.mem_filter.mpr ⟨hv, by simpa using hva⟩)
        (y := w.entry) (List.mem_filter.mpr ⟨List.mem_map_of_mem hw, ?_⟩) hid))
      simpa [Wave.entry] using ha
    · exact .inr hid
  have h1 := hm.abandonWave hM w.ref
  have hsound : (d.displace w.ref).books.Sound p { M with named := fun r i => M.named r i ∧ (r = w.ref ∨ i ≠ w.id) } :=
    ite (fun _ => h1.makeAnonymous _) fun _ => h1
  have hgone : ∀ v ∈ (d.displace w.ref).books.waves, v.anonymous = false → v.ref ≠ w.ref := by
    unfold Device.displace
    extract_lets d1
    split
    · rw [books_makeAnonymous]
      intro v hv hva hr
      obtain ⟨x, -, rfl⟩ := List.mem_map.mp hv
      by_cases hx : x.ref = w.ref
      · simp [hx] at hva
      · exact hx (by rwa [if_neg hx] at hr)
    · next hnone =>
      refine List.forall_mem_map.mpr fun x hx _ hr => hnone ?_
      exact List.find?_isSome.mpr ⟨x, hx, by simpa [Wave.entry] using hr⟩
  refine ⟨hsound.remark (fun v hv hva => (hsound.named v hv hva).1) fun _ k => ⟨k.due, k.filed, k.own, k.lists, k.ownNew,
    k.listsFiled⟩, fun v hv hva => ?_⟩
  exact (hsound.named v hv hva).2.resolve_left (hgone v hv hva)

/-- The record of a TICKET found or created answers to its wave id (R74). -/
theorem findWave (h : d.books.Sound p M) (hM : p → M.Covered) (hn : ∀ r i, M.named r i) (hd : p → ∀ r s c, M.due r s c 0)
    (a : Addr) (st : Tick) (n : Byte) (c : Tick) (l : BitVec 16) (gp : Bool) (g : Tick) :
    (d.findWave a st n c l gp g).1.books.Sound p M ∧
      (d.findWave a st n c l gp g).1.Answers (d.findWave a st n c l gp g).2 a n := by
  cases hw : d.named? a n with
  | none =>
    simp only [Device.findWave, hw]
    exact h.createFromTicket a st n c l gp g (free_of_named?_eq_none hw) hn hd
  | some w =>
    obtain ⟨hm, ha, hid⟩ := named?_eq_some hw
    have hself : d.Answers w.ref a n := ⟨w.entry, List.mem_map_of_mem hm, rfl, ha, hid⟩
    unfold Device.findWave
    simp only [hw, Option.map_some, Option.getD_some]
    split
    · next hu => exact (waveUse_some_ne_create c w hu).elim
    · exact ⟨h, hself⟩
    · have hb := fun (f : Wave → Wave) (hf : ∀ v, (f v).entry = v.entry) => books_onWave_same hf w.ref d
      refine ⟨h.congr (hb _ fun _ => by rfl), ?_⟩
      unfold Device.Answers at hself ⊢
      rw [hb _ fun _ => by rfl]
      exact hself
    · refine (h.makeAnonymous w.ref).createFromTicket a st n c l gp g (fun v hv hva hvid => ?_) hn hd
      rw [books_makeAnonymous] at hv
      obtain ⟨x, hx, rfl⟩ := List.mem_map.mp hv
      by_cases hxr : x.ref = w.ref
      · simp [hxr] at hva
      · simp only [hxr, if_false] at hva hvid
        have := List.inj_on_of_nodup_map h.names (List.mem_filter.mpr ⟨hx, by simpa using hva⟩)
          (y := w.entry) (List.mem_filter.mpr ⟨List.mem_map_of_mem hm, by simpa [Wave.entry] using ha⟩) (hvid.trans hid.symm)
        exact hxr (congrArg WaveEntry.ref this)
    · obtain ⟨hs, hfree⟩ := h.displace hM hm ha
      exact hs.createFromTicket a st n c l gp g (hid ▸ hfree) hn hd

theorem afterFiling (h : d.books.Sound p M) (r : Nat) (isNew : Bool) : (d.afterFiling r isNew).books.Sound p M :=
  ite (fun _ => ite (fun _ => h.afterSet r) fun _ => (h.formationPass r).evaluate) fun _ => h.evaluate

/-- A ticket that is in no record of the index, filed (R74, R75). -/
theorem takeTicket (h : d.books.Sound p .plain) (hx : d.fe.rx = none) (a : Addr) (st : Tick) (n : Byte) (s : Serial)
    (c : Tick) (l : BitVec 16) (gp : Bool) (g : Tick) (items : List Order)
    (hs : p → ∀ t ∈ d.ti.tickets, ¬(t.pass = a ∧ t.serial = s)) :
    (d.takeTicket a st n s c l gp g items).books.Sound p .plain := by
  have hm : d.books.Sound p (.unheld a s) := h.remark (fun _ _ _ => trivial) fun hp k => ⟨k.due, hs hp, fun _ _ => trivial,
    fun _ _ _ _ => trivial, fun _ _ _ _ => trivial, fun _ _ _ _ _ => trivial⟩
  obtain ⟨hf, w, hw, hwr, ha, hid⟩ := hm.findWave (fun _ _ _ _ _ hx => by rw [show _ = _ from hx]) (fun _ _ => trivial)
    (fun _ _ _ _ => rfl) a st n c l gp g
  have hrx : (d.findWave a st n c l gp g).1.books.hold = none := by
    have := (findWave_kept a st n c l gp g d).rx
    simp [Device.books, this, hx]
  unfold Device.takeTicket
  extract_lets isNew r
  refine afterFiling ?_ _ _
  rw [books_fileTicket]
  exact Ledger.Sound.file hf hrx rfl ⟨w, hw, hwr, ha, n, hid⟩

/-! ### A ticket voided, and a wave picked up (R77 to R80, R84) -/

/-- One batch of a VOID taken (R78). -/
theorem voidBatch {ref : Nat} {s : Serial} {named : Bool} {old bs : List Nat} {bid : Nat}
    (h : d.books.Sound p (.voiding ref s named old (bid :: bs))) (ho : bid ∈ old) :
    (d.voidBatch s bid).books.Sound p (.voiding ref s named old bs) := by
  unfold Device.voidBatch
  split
  · next hnone =>
    refine h.voided fun e he heb => ?_
    obtain ⟨b, hb, rfl⟩ := List.mem_map.mp he
    have := List.find?_eq_none.mp hnone b hb
    exact (this (by simpa [Batch.entry] using heb)).elim
  · next b hb =>
    obtain rfl := bid_of_batch? hb
    have hm := mem_entries (mem_of_batch? hb)
    refine ite (fun he => ?_) fun _ => ?_
    · have hempty : (dropSerial s b.contribs).isEmpty = true := (Bool.and_eq_true_iff.mp he).2
      have hleft : (d.removeBatch b).books.Sound p (.voiding ref s named old (b.bid :: bs)) :=
        (h.removeBatch hm).voidSettled (fun hp => (h.accounts hp).own b.entry hm ho) hempty
      refine afterFree (hleft.voided fun e he heb => ?_) _ _
      rw [books_removeBatch] at he
      have := (List.mem_filter.mp he).2
      simp [heb] at this
    · have hbooks : ∀ f : Batch → Batch, (∀ x, (f x).entry = { x.entry with contribs := dropSerial s x.contribs }) →
          (d.onBatch b.bid f).books = { d.books with batches := relisted b.bid (dropSerial s) d.books.batches } := by
        intro f hf
        have he : (d.onBatch b.bid f).bp.batches.map Batch.entry = relisted b.bid (dropSerial s) d.books.batches := by
          simp only [onBatch_batches, relisted, Device.books, List.map_map]
          refine List.map_congr_left fun x _ => ?_
          by_cases hx : x.bid = b.bid
          · simp only [Function.comp_apply, hx, BEq.rfl, if_true, hf]
            simp [Batch.entry, hx]
          · simp [hx, Batch.entry]
        rw [← he]
        rfl
      rw [hbooks _ fun _ => by rfl]
      refine (Ledger.Sound.relist h hm ho).voided fun e he heb c hc => ?_
      rcases mem_relisted he with ⟨-, hne⟩ | ⟨y, -, -, rfl⟩
      · exact (hne heb).elim
      · exact serial_ne_of_mem_dropSerial hc

theorem voidBatches {ref : Nat} {s : Serial} {named : Bool} {old bs : List Nat}
    (h : d.books.Sound p (.voiding ref s named old bs)) (ho : ∀ bid ∈ bs, bid ∈ old) :
    (bs.foldl (Device.voidBatch s) d).books.Sound p (.voiding ref s named old []) := by
  induction bs generalizing d with
  | nil => exact h
  | cons bid bs ih =>
    obtain ⟨hb, hbs⟩ := List.forall_mem_cons.mp ho
    exact ih (h.voidBatch hb) hbs

/-- The batches that a VOID takes, by their identities. -/
def voidList (d : Device) (ref : Nat) (s : Serial) (named : Bool) : List Nat :=
  ((d.batchesOf ref).filter (fun b => b.lists s && (named || b.adopted))).map (·.bid)

theorem mem_voidList (h : d.books.Sound p M) {ref : Nat} {s : Serial} {named : Bool} {e : BatchEntry}
    (he : e ∈ d.books.batches) : e.bid ∈ voidList d ref s named ↔
      e.wave = ref ∧ (∃ c ∈ e.contribs, c.serial = s) ∧ (named = true ∨ e.adopted = true) := by
  obtain ⟨b, hb, rfl⟩ := List.mem_map.mp he
  have hiff : b ∈ (d.batchesOf ref).filter (fun b => b.lists s && (named || b.adopted)) ↔
      b.wave = ref ∧ (∃ c ∈ b.contribs, c.serial = s) ∧ (named = true ∨ b.adopted = true) := by
    simp only [batchesOf, Batch.lists, List.mem_filter, hb, true_and, beq_iff_eq, Bool.and_eq_true, Bool.or_eq_true,
      List.any_eq_true]
  refine Iff.trans ⟨fun hm => ?_, fun hm => List.mem_map_of_mem hm⟩ hiff
  obtain ⟨x, hx, hxb⟩ := List.mem_map.mp hm
  have hxm : x ∈ d.bp.batches := (List.mem_filter.mp (List.mem_filter.mp hx).1).1
  exact List.inj_on_of_nodup_map h.numbered.1 hxm hb hxb ▸ hx

theorem voidList_lt (h : d.books.Sound p M) {ref : Nat} {s : Serial} {named : Bool} :
    ∀ bid ∈ voidList d ref s named, bid < d.books.nextBid := fun bid hm => by
  obtain ⟨b, hb, rfl⟩ := List.mem_map.mp hm
  exact h.numbered.2 b (List.mem_filter.mp (List.mem_filter.mp hb).1).1

theorem applyVoid (h : d.books.Sound p .plain) (a : Addr) (n : Byte) (s : Serial) :
    (d.applyVoid a n s).books.Sound p .plain := by
  unfold Device.applyVoid
  split
  · exact h
  · next w hw =>
    obtain ⟨hwm, hwa, hid⟩ := named?_eq_some hw
    extract_lets t? d1 bs d2
    have h1 : d1.books.Sound p (.voiding w.ref s t?.isSome (voidList d w.ref s t?.isSome) (voidList d w.ref s t?.isSome)) := by
      cases ht : t? with
      | none =>
        simp only [d1, ht]
        refine h.voidUnnamed (fun hp t htm hts => ?_) (fun e he hm => ?_) h.voidList_lt
        · obtain ⟨x, hx, hxr, hxa, m, hxid⟩ := (h.accounts hp).home t htm
          obtain rfl : x = w.entry := List.inj_on_of_nodup_map h.refs hx (List.mem_map_of_mem hwm) (hxr.trans hts.1)
          have hpass : t.pass = a := congrArg WaveId.pass (Option.some.inj (hxid.symm.trans hid))
          have := List.find?_eq_none.mp ht t htm
          simp [hpass, hts.1, hts.2] at this
        · obtain ⟨hew, -, hea⟩ := (h.mem_voidList he).mp hm
          exact ⟨hew, hea.resolve_left (by simp)⟩
      | some t =>
        simp only [d1, ht]
        have hp := List.find?_some ht
        simp only [Bool.and_eq_true, beq_iff_eq] at hp
        obtain ⟨⟨-, rfl⟩, hr⟩ := hp
        rw [books_dropTicket, ← hr]
        refine h.dropTicket (List.mem_of_find?_eq_some ht) (fun e he => ?_) h.voidList_lt
        rw [h.mem_voidList he]
        simp
    have h2 : d2.books.Sound p .plain := (h1.voidBatches fun _ hm => hm).voidDone
    exact ite (fun _ => (h2.testNoWork _).evaluate) fun _ => h2

theorem applyPickup (h : d.books.Sound p M) (hM : p → M.Covered) (a : Addr) (n : Byte) :
    (d.applyPickup a n).books.Sound p M := by
  unfold Device.applyPickup
  split
  · exact h
  · exact ite (fun _ => h) fun _ => (h.endWave hM _).evaluate

/-! ### The commits of a hand-off, and hold expiry (R122, R123, R149 to R152) -/

theorem releaseTaker (h : d.books.Sound p M) (l : Option (Fin 8)) : (d.releaseTaker l).books.Sound p M :=
  ((congr h (books_unreserve l d)).dispatch.formWaiting).evaluateSince d

theorem takerCommit (h : d.books.Sound p .plain) (l : Option (Fin 8)) (a : Addr) (st : Tick) (n : Byte) (q : Addr) (go : Tick)
    (sl : Nat) (c : Byte) (ps : Nat) (cs : List Contrib) : (d.takerCommit l a st n q go sl c ps cs).books.Sound p .plain := by
  unfold Device.takerCommit
  extract_lets w? ref d1 bid seq d2 d3
  refine ite (fun _ => h.releaseTaker l) fun _ => ?_
  have h1 : d1.books.Sound p .plain ∧ ref < d1.books.nextRef := by
    simp only [d1]
    cases hw : w? with
    | none =>
      have hadd := h.enter (w := (d.adoptedWave st n q go sl).entry) rfl rfl rfl (free_of_named?_eq_none hw) trivial
        fun _ _ _ _ => rfl
      rw [← books_addWave] at hadd
      refine ⟨hadd, ?_⟩
      simp only [ref, hw]
      exact Nat.lt_succ_self _
    | some w =>
      obtain ⟨hm, -⟩ := named?_eq_some hw
      refine ⟨h, ?_⟩
      simp only [ref, hw]
      exact h.below w.entry (List.mem_map_of_mem hm)
  obtain ⟨h1, hlt⟩ := h1
  have h2 : d2.books.Sound p .plain := by
    simp only [d2]
    rw [books_addBatch]
    exact h1.adopt rfl rfl (fun _ => hlt) fun _ _ => trivial
  have h3 : d3.books.Sound p .plain := by
    simp only [d3]
    split
    · exact h2.congr (books_beginCall _ _ d2)
    · exact dispatch (h2.congr (books_joinFire _ d2))
  exact evaluate (h3.congr (books_notify _ d3))

theorem offererCommit (h : d.books.Sound p M) (a : Addr) {b : Batch} (hb : b ∈ d.bp.batches)
    (ha : p → b.adopted = false) : (d.offererCommit a b).books.Sound p M := by
  unfold Device.offererCommit
  extract_lets d1 id d2
  have hleft : (d1.removeBatch b).books.Sound p M := by
    rw [books_removeBatch]
    exact (h.cut (mem_entries hb)).hand
      (x := { wave := b.wave, dish := b.dish, taker := a, seq := b.seq, handedAt := d.now, contribs := b.contribs })
      ha rfl rfl rfl fun hp => (h.accounts hp).batchWave b.entry (mem_entries hb)
  have h2 : d2.books.Sound p M := hleft.afterFree _ _
  exact testNoWork (h2.congr (books_notify _ d2)) _

theorem loseBatch (h : d.books.Sound p M) (hM : p → M.Covered) {b : Batch} (hb : b ∈ d.bp.batches) :
    (d.loseBatch b).books.Sound p M := by
  unfold Device.loseBatch
  extract_lets id d1
  have htaken : ((d.freeBatch b).takeOff b).books.Sound p M := by
    rw [books_takeOff]
    exact (h.freeBatch hb).takeOff hM
  exact testNoWork (htaken.congr (books_notify _ _)) _

theorem holdExpiry (h : d.books.Sound p M) (hM : p → M.Covered) (bid : Nat) : (d.holdExpiry bid).books.Sound p M := by
  unfold Device.holdExpiry
  split
  · exact h
  · next b hb =>
    have hb := mem_of_batch? hb
    refine ite (fun _ => h) fun _ => ite (fun he => ?_) fun _ => ?_
    · have hnone : ∀ r s c, b.entry.share r s c = 0 := fun r s c => by
        simp [BatchEntry.share, Batch.entry, List.isEmpty_iff.mp he]
      exact ((h.freeBatch hb).settled hnone).testNoWork _ |>.evaluate
    · exact ite (fun _ => evaluate (h.congr (books_refire b d))) fun _ => (h.loseBatch hM hb).evaluate

/-! ### The tick boundary, and the passing of time (R1, R8, R99 to R102) -/

theorem boundaryEvents (h : d.books.Sound p M) (hM : p → M.Covered) : d.boundaryEvents.books.Sound p M := by
  unfold Device.boundaryEvents
  extract_lets d1 d2 d3 d4
  have h1 : d1.books.Sound p M := h.congr ((books_quietEnd _).trans ((books_listenEnd _).trans (books_periodEnd d)))
  have h2 : d2.books.Sound p M := h1.foldl fun x i _ hx => hx.congr (books_laneBoundary i x)
  have h3 : d3.books.Sound p M := h2.foldl fun _ b _ hx => hx.holdExpiry hM b
  have h4 : d4.books.Sound p M := h3.foldl fun _ r _ hx => hx.waveBoundary hM r
  exact h4.congr (books_markPlace _)

theorem settleBoundary (h : d.books.Sound p M) (hM : p → M.Covered) : d.settleBoundary.books.Sound p M := by
  unfold Device.settleBoundary
  extract_lets d1
  have h1 : d1.books.Sound p M := h.congr (books_lineReturn d)
  exact ite (fun _ => (h1.boundaryEvents hM).congr (books_onSck _ _)) fun _ => h1

theorem pass (h : d.books.Sound p M) (hM : p → M.Covered) (n : Nat) : (d.pass n).books.Sound p M :=
  ite (fun _ => h) fun _ => (h.settleBoundary hM).congr (books_onSck _ _)

end Ledger.Sound

end Sys2Proof.Machine
end

section
/-! The books through the Link, the station port and so every step: at most one record answers to a wave id (O51), and the
accounts are kept (O56). -/

namespace Sys2Proof.Machine

open Device

namespace Device

theorem books_endOwnFrame (fate : Fate) (byDown agree : Bool) (d : Device) :
    (d.endOwnFrame fate byDown agree).books = { d.books with offer := none } := by
  unfold endOwnFrame
  extract_lets d1 d2 d3
  rw [books_quietIfDue]
  cases fate <;> rfl

theorem books_closeRx (agree : Bool) (d : Device) : (d.closeRx agree).books = { d.books with hold := none } := rfl

/-- The frame that the station follows is this one. -/
def Follows (k : Kind) (raw : RawFrame) (d : Device) : Prop := ∀ r, d.fe.rx = some r → r.frame = some (k, raw)

theorem Follows.onRx {k : Kind} {raw : RawFrame} {d : Device} (h : d.Follows k raw) {f : Rx → Rx}
    (hf : ∀ r, (f r).frame = r.frame) : (d.onRx f).Follows k raw := fun r hr => by
  obtain ⟨x, hx, rfl⟩ := Option.map_eq_some_iff.mp hr
  exact (hf x).trans (h x hx)

theorem Follows.congr {k : Kind} {raw : RawFrame} {d e : Device} (h : d.Follows k raw) (he : e.fe.rx = d.fe.rx) :
    e.Follows k raw := fun r hr => h r (he ▸ hr)

theorem atBodyEnd_frame (raw : RawFrame) (r : Rx) (b : Body) (d : Device) : (d.atBodyEnd raw r b).frame = r.frame := by
  unfold atBodyEnd
  split
  · split <;> rfl
  · split <;> rfl
  · rfl

/-- A ticket that the station decides to hold is in no record of the index (R72). -/
theorem not_filed_of_hold {d : Device} {a : Addr} {num : Byte} {serial : Serial} {call : Tick} {items : List Order}
    (h : d.decideTicket a num serial call items = .hold) : ∀ t ∈ d.ti.tickets, ¬(t.pass = a ∧ t.serial = serial) :=
  fun t ht ⟨hp, hs⟩ => by
    have hany : d.ti.tickets.any (fun t => t.pass == a && t.serial == serial) = true :=
      List.any_eq_true.mpr ⟨t, ht, by simp [hp, hs]⟩
    unfold decideTicket at h
    split at h
    · cases h
    · cases h

/-- Only the decision about a TICKET at body end marks a frame to be held, one in no record of the index (R72). -/
theorem not_filed_of_atBodyEnd {raw : RawFrame} {r : Rx} {b : Body} {d : Device}
    (h : (d.atBodyEnd raw r b).ticket = .hold) : r.ticket = .hold ∨
      ∀ num serial call lead gp go items, b = .ticket num serial call lead gp go items →
        ∀ t ∈ d.ti.tickets, ¬(t.pass = raw.sender ∧ t.serial = serial) := by
  unfold atBodyEnd at h
  split at h
  · split at h
    · refine .inr fun num serial call lead gp go items hb t ht ⟨hp, hs⟩ => ?_
      obtain ⟨-, hserial, -⟩ := Body.ticket.inj hb
      exact not_filed_of_hold h t ht ⟨hp, hs.trans hserial.symm⟩
    · exact .inl h
  · split at h <;> exact .inl h
  · exact .inl h

end Device

namespace Ledger.Sound

variable {p : Prop} {d e : Device}

/-! ### Time -/

theorem settled_plain (h : d.books.Sound p .plain) : d.settleBoundary.books.Sound p .plain :=
  h.settleBoundary fun _ => Marks.covered_plain

theorem endTick (h : d.books.Sound p .plain) : d.endTick.books.Sound p .plain := h.congr (books_endTick d)

theorem passIdle (h : d.books.Sound p .plain) (n : Nat) : (d.passIdle n).books.Sound p .plain :=
  ite (fun _ => h) fun _ => h.settled_plain.congr (books_letPass n _)

theorem crystalCount (h : d.books.Sound p .plain) : d.crystalCount.books.Sound p .plain := by
  unfold Device.crystalCount
  exact ite (fun _ => h.settled_plain.congr (books_letPass 1 _)) fun _ => h.settled_plain.endTick

theorem untilStart (h : d.books.Sound p .plain) (w : Wait) : (d.untilStart w).books.Sound p .plain := by
  have h1 : (d.lineReturn.quietLine.passSlots w.slots).books = d.books :=
    (books_passSlots _ _).trans ((books_quietLine _).trans (books_lineReturn d))
  exact (h.congr h1).pass (fun _ => Marks.covered_plain) _

/-! ### Own frames (R27, R36, R39, R42, R148, R149) -/

theorem endOwnFrame (h : d.books.Sound p .plain) (fate : Fate) (byDown agree : Bool) :
    (d.endOwnFrame fate byDown agree).books.Sound p .plain := by
  rw [books_endOwnFrame]
  exact h.offering nofun

/-- The acceptance of an own PICKUP retires its wave (R165). -/
theorem issueAccepted (h : d.books.Sound p .plain) (x : IssueEntry) (short : Bool) :
    (d.issueAccepted x short).books.Sound p .plain := by
  unfold Device.issueAccepted
  split
  · split <;> exact h
  · exact h
  · split
    · exact congr (h.retire _) (books_dropHead _)
    · exact h.congr (books_dropHead d)

theorem issueFate (h : d.books.Sound p .plain) (fate : Fate) (byDown short : Bool) :
    (d.issueFate fate byDown short).books.Sound p .plain := by
  unfold Device.issueFate
  split
  · exact h
  · refine ite (fun _ => h.congr (books_placeHead _)) fun _ => ?_
    split
    · exact congr (h.issueAccepted _ short) (books_placeHead _)
    · refine ite (fun _ => h.congr (books_placeHead d)) fun _ => ite (fun _ => ?_) fun _ => h.congr (books_placeHead _)
      exact congr (h.congr (books_issueFails _ d)) (books_placeHead _)

/-- An own OFFER's fate; the batch handed over is not an adopted one (R146, R149). -/
theorem offerFate (h : d.books.Sound p .plain) (bid : Nat) (x : Fate) (a : Addr)
    (hx : p → ∀ b ∈ d.books.batches, b.bid = bid → b.adopted = false) : (d.offerFate bid x a).books.Sound p .plain := by
  unfold Device.offerFate
  extract_lets d1 d2
  have hb1 : d1.books = d.books := books_onBatch_same (fun _ => by rfl) bid d
  have h1 : d1.books.Sound p .plain := h.congr hb1
  have h2 : d2.books.Sound p .plain := by
    simp only [d2]
    split
    · refine ite (fun _ => h1.congr (books_onBatch_same (fun _ => by rfl) bid d1)) fun _ => ?_
      split
      · next b hb =>
        have hm := mem_of_batch? hb
        exact h1.offererCommit a hm fun hp => hx hp b.entry (hb1 ▸ mem_entries hm) (bid_of_batch? hb)
      · exact h1
    · exact h1.congr (books_onBatch_same (fun _ => by rfl) bid d1)
    · exact h1.congr (books_onBatch_same (fun _ => by rfl) bid d1)
  exact h2.evaluate

theorem placerFate (h : d.books.Sound p .plain) (f : InFlight) (fate : Fate) (byDown short : Bool) (taker : Addr)
    (hx : p → ∀ bid, f.entry = .offer bid → ∀ b ∈ d.books.batches, b.bid = bid → b.adopted = false) :
    (d.placerFate f fate byDown short taker).books.Sound p .plain := by
  unfold Device.placerFate
  split
  · exact h.congr (books_readyFate ..)
  · exact h.congr (books_slipFate ..)
  · next bid hb => exact h.offerFate bid fate taker fun hp => hx hp bid hb
  · exact h.issueFate _ _ _
  · exact h

theorem takeDeferred (h : d.books.Sound p .plain) (i : Option (Fin 8)) : (d.takeDeferred i).books.Sound p .plain := by
  unfold Device.takeDeferred
  split
  · exact h.press (fun _ => Marks.covered_plain) _
  · exact h

theorem reportFate (h : d.books.Sound p .plain) {f : InFlight} (hf : d.fe.inFlight = some f) (fate : Fate)
    (byDown short : Bool) (taker : Addr) (agree : Bool) :
    (d.reportFate f fate byDown short taker agree).books.Sound p .plain := by
  refine takeDeferred ((h.endOwnFrame fate byDown agree).placerFate f fate byDown short taker fun hp bid he => ?_) _
  rw [books_endOwnFrame]
  exact ((h.accounts hp).offered bid (offer_eq_some.mpr ⟨f, hf, he⟩)).2

theorem fateOf (h : d.books.Sound p .plain) (k : Kind) (fate : Fate) (rep : OfferReply) (short : SlotReading)
    (line : Followed) : (d.fateOf k fate rep short line).books.Sound p .plain := by
  unfold Device.fateOf
  split
  · next f hf =>
    refine ite (fun _ => ?_) fun _ => h
    extract_lets drives d1
    have hb1 : d1.books = d.books := books_ite rfl rfl
    have hf1 : d1.fe.inFlight = some f := by
      simp only [d1]
      split <;> exact hf
    exact reportFate (h.congr ((books_hear _ d1).trans hb1)) (by rw [hear_fe, hf1]) _ _ _ _ _
  · exact h

theorem loseArbitration (h : d.books.Sound p .plain) : d.loseArbitration.books.Sound p .plain := by
  unfold Device.loseArbitration
  split
  · exact h
  · extract_lets d1
    have h1 : d1.books.Sound p .plain := (h.offering (o := none) nofun).holding (o := none) nofun
    exact ite (fun _ => h1) fun _ => h1.congr (books_place _ d1)

theorem bitError (h : d.books.Sound p .plain) (inGap agree : Bool) : (d.bitError inGap agree).books.Sound p .plain := by
  unfold Device.bitError
  split
  · exact h
  · next f hf =>
    refine ite (fun _ => h.congr ?_) fun _ => ?_
    · have hoffer : f.offered = d.books.offer := (congrArg (fun x => Option.bind x InFlight.offered) hf).symm
      rw [books_onFe]
      exact congrArg (fun o => { d.books with offer := o }) hoffer
    · extract_lets d1
      have hb1 : d1.books = d.books := books_ite rfl rfl
      refine reportFate (h.congr hb1) ?_ _ _ _ _ _
      simp only [d1]
      split <;> exact hf

theorem ownBitError (h : d.books.Sound p .plain) (inGap : Bool) (line : Followed) :
    (d.ownBitError inGap line).books.Sound p .plain :=
  ite (fun _ => bitError (h.congr (books_hear _ d)) _ _) fun _ => h

/-- An OFFER is filled for a live batch that is not an adopted one (R146). -/
theorem of_fillOffer (h : d.books.Sound p .plain) {bid : Nat} {x : Body} (hx : d.fillOffer bid = .fill x) :
    bid < d.books.nextBid ∧ ∀ b ∈ d.books.batches, b.bid = bid → b.adopted = false := by
  obtain ⟨b, hb, hc⟩ : ∃ b, d.batch? bid = some b ∧ d.candidate b = true := by
    unfold Device.fillOffer at hx
    grind
  have hm := mem_entries (mem_of_batch? hb)
  have hbid : b.entry.bid = bid := bid_of_batch? hb
  have ha : b.adopted = false := by
    unfold Device.candidate at hc
    grind
  refine ⟨hbid ▸ h.bidBelow _ hm, fun y hy hyb => ?_⟩
  obtain rfl : y = b.entry := List.inj_on_of_nodup_map h.bids hy hm (hyb.trans hbid.symm)
  exact ha

theorem contend (h : d.books.Sound p .plain) (start : OwnStart) : (d.contend start).books.Sound p .plain := by
  unfold Device.contend
  extract_lets d1 stamp r d2 d3
  refine ite (fun _ => h) fun _ => ?_
  have h1 : d1.books.Sound p .plain := h.untilStart _
  have hb2 : d2.books = d1.books := books_dropAsked _ d1
  have hfill : ∀ x, r.1 = some x → d1.fillEntry (stampTick stamp) x.1 = .fill x.2 := fun _ hx => Roomy.fillEntry_of_choose hx
  clear_value d2 r stamp d1
  have h2 : d2.books.Sound p .plain := h1.congr hb2
  have h3 : d3.books.Sound p .plain := by
    simp only [d3]
    split
    · next x hx =>
      have hbegun : (d2.beginFrame stamp x.1 x.2).books.Sound p .plain := by
        refine h2.offering fun _ bid ho => ?_
        have he : x.1 = .offer bid := InFlight.offered_eq_some.mp ho
        have hf := hfill x hx
        rw [he] at hf
        rw [hb2]
        exact h1.of_fillOffer hf
      exact hbegun.congr (books_hear _ _)
    · exact h2
  exact ite (fun _ => h3.congr (books_offerEval d3)) fun _ => h3

/-! ### Received frames (R19, R28 to R33, R72, R150 to R152) -/

theorem onRx_same (h : d.books.Sound p .plain) {f : Rx → Rx} (hf : ∀ r, (f r).held = r.held) :
    (d.onRx f).books.Sound p .plain := h.congr (books_onRx_same hf d)

theorem rxStart (h : d.books.Sound p .plain) (w : Wait) : (d.rxStart w).books.Sound p .plain := by
  unfold Device.rxStart
  extract_lets d1
  refine ite (fun _ => ?_) fun _ => h
  have h1 : d1.books.Sound p .plain := h.untilStart w
  exact ite (fun _ => h1) fun _ => h1.holding nofun

theorem dropQualified (h : d.books.Sound p .plain) : d.dropQualified.books.Sound p .plain := by
  unfold Device.dropQualified
  split
  · refine ite (fun _ => ?_) fun _ => h
    have hx : (d.onRx fun x => { x with taker := .notTaker }).books.Sound p .plain := h.onRx_same fun _ => rfl
    exact hx.formWaiting.evaluateSince d
  · exact h

/-- The frame followed is the one the row brings. -/
theorem bringFrame (h : d.books.Sound p .plain) {k : Kind} {raw : RawFrame}
    (hr : ∀ r, d.fe.rx = some r → r.frame.isSome → r.frame = some (k, raw)) :
    (d.onRx fun x => { x with frame := some (k, raw) }).books.Sound p .plain := by
  rw [books_onRx]
  refine h.holding fun hp f hf => ?_
  obtain ⟨x, hx, hheld⟩ := Option.bind_eq_some_iff.mp hf
  obtain ⟨r, hrx, rfl⟩ := Option.map_eq_some_iff.mp hx
  obtain ⟨ht, rfl⟩ := Rx.held_eq_some.mp hheld
  obtain ⟨k', raw', he, hnot⟩ := (h.accounts hp).unfiled r.frame (hold_eq_some.mpr ⟨r, hrx, ht, rfl⟩)
  have hsome := hr r hrx (by rw [he]; rfl)
  exact ⟨k', raw', hsome.symm.trans he, hnot⟩

/-- A TICKET to be held from body end on is in no record of the index (R72). -/
theorem rxBody (h : d.books.Sound p .plain) {k : Kind} {raw : RawFrame} (hfr : d.Follows k raw) :
    (d.rxBody k raw).books.Sound p .plain := by
  unfold Device.rxBody
  split
  · exact h.onRx_same fun _ => rfl
  · next b hb =>
    rw [books_onRx]
    refine h.holding fun hp f hf => ?_
    obtain ⟨x, hx, hheld⟩ := Option.bind_eq_some_iff.mp hf
    obtain ⟨r, hrx, rfl⟩ := Option.map_eq_some_iff.mp hx
    obtain ⟨ht, rfl⟩ := Rx.held_eq_some.mp hheld
    rw [atBodyEnd_frame]
    rcases not_filed_of_atBodyEnd ht with hold | hnew
    · exact (h.accounts hp).unfiled r.frame (hold_eq_some.mpr ⟨r, hrx, hold, rfl⟩)
    · refine ⟨k, raw, hfr r hrx, fun num serial call lead gp go items hfm => ?_⟩
      exact hnew num serial call lead gp go items (Option.some.inj (hb.symm.trans hfm))

theorem takerSlots (h : d.books.Sound p .plain) (rep : OfferReply) (dish : Byte) :
    (d.takerSlots rep dish).books.Sound p .plain := by
  rcases takerSlots_cases rep dish d with he | he | ⟨r, hr, -, -, -, ⟨-, he⟩ | ⟨-, he⟩⟩ <;> rw [he]
  · exact h
  · exact h.dropQualified
  · exact dropQualified (h.congr (books_drive ..))
  · unfold winSlots
    extract_lets d1
    refine congr ?_ (books_drive _ _)
    have hwon : (d1.onRx fun x => { x with taker := .won (d1.laneToReserve dish) }).books.Sound p .plain :=
      onRx_same (h.congr (books_drive _ d)) fun _ => rfl
    unfold Device.reserve
    split
    · exact hwon.congr (books_onLane _ _ _)
    · exact hwon

theorem rxReply (h : d.books.Sound p .plain) (k : Kind) (raw : RawFrame) (gapFault : Bool) (rep : OfferReply) :
    (d.rxReply k raw gapFault rep).books.Sound p .plain := by
  unfold Device.rxReply
  extract_lets d1
  have h1 : d1.books.Sound p .plain := h.onRx_same fun _ => rfl
  split
  · exact h1.congr (books_driveShort _ _)
  · exact onRx_same (ite (fun _ => h1.dropQualified) fun _ => h1.takerSlots _ _) fun _ => rfl
  · exact h1.dropQualified

/-- A frame delivered once it is no longer in hand; a ticket held by then is in no record of the index (R72, R74). -/
theorem deliver (h : d.books.Sound p .plain) (hx : d.fe.rx = none) (raw : RawFrame) (r : Rx) (b : Body)
    (hs : p → r.ticket = .hold → ∀ num serial call lead gp go items, b = .ticket num serial call lead gp go items →
      ∀ t ∈ d.ti.tickets, ¬(t.pass = raw.sender ∧ t.serial = serial)) : (d.deliver raw r b).books.Sound p .plain := by
  unfold Device.deliver
  extract_lets stamp
  split
  · exact h
  · exact h.congr (books_applyReady ..)
  · exact h.congr (books_applySlip ..)
  · split
    · exact h.takerCommit _ _ _ _ _ _ _ _ _ _
    · exact h
  · exact ite (fun _ => h) fun _ => h.applyVoid _ _ _
  · exact ite (fun _ => h) fun _ => h.applyPickup (fun _ => Marks.covered_plain) _ _
  · split
    · exact h
    · exact h
    · exact h
    · next ht => exact h.takeTicket hx _ _ _ _ _ _ _ _ _ fun hp => hs hp ht _ _ _ _ _ _ _ rfl

theorem rxAccept (h : d.books.Sound p .plain) {k : Kind} {raw : RawFrame} (hfr : d.Follows k raw) (lateFault : Bool)
    (acc : SlotReading) (agree : Bool) : (d.rxAccept k raw lateFault acc agree).books.Sound p .plain := by
  unfold Device.rxAccept
  split
  · exact h
  · next r hr =>
    extract_lets found bad d1 d2 taken d3
    have hb1 : d1.books = d.books := books_ite rfl rfl
    have hb2 : d2.books = { d.books with hold := none } := by
      simp only [d2, books_countHeard, books_closeRx, hb1]
    have hb3 : d3.books = { d.books with hold := none } :=
      (books_onSck _ _).trans ((books_ite (books_takeTime raw d2) rfl).trans hb2)
    have h3 : d3.books.Sound p .plain := hb3 ▸ h.holding nofun
    have hx2 : d2.fe.rx = none := (Roomy.countHeard_counts bad (d1.closeRx agree)).2
    have hx3 : d3.fe.rx = none := by
      simp only [d3, onSck_fe]
      split
      · rw [(Roomy.takeTime_counts raw d2).2, hx2]
      · exact hx2
    split
    · next b hb =>
      refine ite (fun _ => h3.deliver hx3 raw r b fun hp ht num serial call lead gp go items hbt => ?_) fun _ => ?_
      · obtain ⟨k', raw', he, hnot⟩ := (h.accounts hp).unfiled r.frame (hold_eq_some.mpr ⟨r, hr, ht, rfl⟩)
        have hkr := Option.some.inj ((hfr r hr).symm.trans he)
        obtain ⟨rfl, rfl⟩ := Prod.mk.inj hkr
        have htickets : d3.ti.tickets = d.ti.tickets := congrArg Ledger.tickets hb3
        rw [htickets]
        exact hnot num serial call lead gp go items (hb.trans (congrArg some hbt))
      · split
        · exact h3.releaseTaker _
        · exact h3
    · exact h3

theorem codingViolation (h : d.books.Sound p .plain) (w : Wait) (line : Followed) :
    (d.codingViolation w line).books.Sound p .plain := by
  unfold Device.codingViolation
  extract_lets d0
  have h0 : d0.books.Sound p .plain := h.rxStart w
  split
  · exact ite (fun _ => h0.congr (books_hear ..)) fun _ => h
  · next r _ =>
    extract_lets d1 d2
    refine ite (fun _ => h) fun _ => ?_
    have hb1 : d1.books = d0.books := books_ite rfl rfl
    have hb2 : d2.books = { d0.books with hold := none } := by
      simp only [d2, books_onSck, books_countHeard, books_closeRx, books_hear, hb1]
    have h2 : d2.books.Sound p .plain := hb2 ▸ h0.holding nofun
    exact ite (fun _ => h2.formWaiting.evaluateSince d2) fun _ => h2

end Ledger.Sound

/-! ### The frame followed stays the one brought -/

namespace Device.Follows

variable {k : Kind} {raw : RawFrame} {d : Device}

theorem rxBody (h : d.Follows k raw) : (d.rxBody k raw).Follows k raw := by
  unfold Device.rxBody
  split
  · exact h.onRx fun _ => rfl
  · exact h.onRx fun _ => atBodyEnd_frame _ _ _ _

theorem dropQualified (h : d.Follows k raw) : d.dropQualified.Follows k raw := by
  unfold Device.dropQualified
  split
  · split
    · have hx : (d.onRx fun x => { x with taker := .notTaker }).Follows k raw := h.onRx fun _ => rfl
      exact hx.congr ((formWaiting_kept _).trans (evaluateSince_kept d _)).rx
    · exact h
  · exact h

theorem takerSlots (h : d.Follows k raw) (rep : OfferReply) (dish : Byte) : (d.takerSlots rep dish).Follows k raw := by
  rcases takerSlots_cases rep dish d with he | he | ⟨r, hr, -, -, -, ⟨-, he⟩ | ⟨-, he⟩⟩ <;> rw [he]
  · exact h
  · exact h.dropQualified
  · exact (h.congr (drive_rx _ d)).dropQualified
  · unfold winSlots
    extract_lets d1
    have hwon : (d1.onRx fun x => { x with taker := .won (d1.laneToReserve dish) }).Follows k raw :=
      (h.congr (drive_rx _ d)).onRx fun _ => rfl
    refine hwon.congr ((drive_rx _ _).trans ?_)
    unfold Device.reserve
    split <;> rfl

theorem rxReply (h : d.Follows k raw) (gapFault : Bool) (rep : OfferReply) : (d.rxReply k raw gapFault rep).Follows k raw := by
  unfold Device.rxReply
  extract_lets d1
  have h1 : d1.Follows k raw := h.onRx fun _ => rfl
  split
  · refine h1.congr ?_
    unfold driveShort
    (repeat' split) <;> rfl
  · refine onRx ?_ fun _ => rfl
    split
    · exact h1.dropQualified
    · exact h1.takerSlots _ _
  · exact h1.dropQualified

end Device.Follows

namespace Ledger.Sound

variable {p : Prop} {d e : Device}

theorem receive (h : d.books.Sound p .plain) (k : Kind) (x : Heard) (rep : OfferReply) :
    (d.receive k x rep).books.Sound p .plain := by
  unfold Device.receive
  extract_lets d0 d1
  have h0 : d0.books.Sound p .plain := h.rxStart _
  have hp : (d0.pass x.lasted).books.Sound p .plain := h0.pass (fun _ => Marks.covered_plain) _
  split
  · exact ite (fun _ => hp.congr (books_hear ..)) fun _ => h
  · next r hr =>
    refine ite (fun _ => hp.codingViolation _ _) fun _ => ite (fun _ => h) fun hframe => ?_
    extract_lets d2 d3
    have hrx : (d0.pass x.lasted).fe.rx = some r := (Prod.ext_iff.mp (pass_inHand x.lasted d0)).1.trans hr
    have h1 : d1.books.Sound p .plain := by
      refine bringFrame (hp.congr (books_hear _ _)) fun r' hr' hsome => ?_
      rw [hear_fe, hrx] at hr'
      obtain rfl := Option.some.inj hr'
      simpa [hsome] using hframe
    have hf1 : d1.Follows k x.frame := fun r' hr' => by
      obtain ⟨y, -, rfl⟩ := Option.map_eq_some_iff.mp hr'
      rfl
    have h2 : d2.books.Sound p .plain := ite (fun _ => h1.rxBody hf1) fun _ => h1
    have hf2 : d2.Follows k x.frame := by
      simp only [d2]
      split
      · exact hf1.rxBody
      · exact hf1
    have h3 : d3.books.Sound p .plain := ite (fun _ => h2.rxReply _ _ _ _) fun _ => h2
    have hf3 : d3.Follows k x.frame := by
      simp only [d3]
      split
      · exact hf2.rxReply _ _
      · exact hf2
    exact ite (fun _ => h3.rxAccept hf3 _ _ _) fun _ => h3

/-! ### Line failures (R49, R51, R54) -/

theorem failover (h : d.books.Sound p .plain) (inGap : Bool) : (d.failover inGap).books.Sound p .plain := by
  unfold Device.failover
  split
  · exact h.bitError _ _
  · exact onRx_same (dropQualified (h.congr (books_quietLine d))) fun _ => rfl

theorem wireFails (h : d.books.Sound p .plain) (w : Wire) (x : Failure) : (d.wireFails w x).books.Sound p .plain := by
  unfold Device.wireFails
  exact ite (fun _ => failover (h.congr ((books_onLif ..).trans (books_changeMode ..))) _) fun _ => h

theorem dropLine (h : d.books.Sound p .plain) : d.dropLine.books.Sound p .plain := by
  unfold Device.dropLine
  extract_lets d1 d2
  have h1 : d1.books.Sound p .plain := by
    simp only [d1]
    split
    · next f hf => exact h.reportFate hf _ _ _ _ _
    · exact h
  have h2 : d2.books.Sound p .plain := h1.holding nofun
  split
  · exact h1
  · split
    · exact h2
    · exact h2.formWaiting.evaluateSince d2
    · exact h2.releaseTaker _

theorem lineDown (h : d.books.Sound p .plain) (cause : DownCause) (other : Fin 2) :
    (d.lineDown cause other).books.Sound p .plain := by
  unfold Device.lineDown
  extract_lets found good d1 d2 d3
  have hb2 : d2.books = d.books := by
    simp only [d2]
    split <;> rfl
  have h3 : d3.books.Sound p .plain := dropLine (h.congr hb2)
  exact ite (fun _ => ite (fun _ => h3.congr (books_markPartial _)) fun _ => h3) fun _ => h

/-! ### The station port and the buttons (R67, R148, R158) -/

theorem leave (h : d.books.Sound p .plain) (l : List Byte) : (d.leave l).books.Sound p .plain := by
  unfold Device.leave
  exact ite (fun _ => h) fun _ => ite (fun _ => h) fun _ => .bare rfl rfl rfl rfl rfl rfl

/-- A wave opened takes a number that no wave of the pass has (R158). -/
theorem openWave (h : d.books.Sound p .plain) (l : List Byte) : (d.openWave l).books.Sound p .plain := by
  unfold Device.openWave
  extract_lets num call
  refine ite (fun _ => h) fun _ => ite (fun _ => h) fun _ => ite (fun _ => h) fun hfree => ite (fun _ => h) fun _ =>
    ite (fun _ => h) fun _ => congr ?_ (books_answer _ _ _)
  have hnone : d.named? d.strap.addr num = none := by simpa [passWave?] using hfree
  rw [books_addWave]
  exact h.enter rfl rfl rfl (free_of_named?_eq_none hnone) trivial fun _ _ _ _ => rfl

theorem readStation (h : d.books.Sound p .plain) (n : Nat) (l : List Byte) :
    (d.readStation n l).books.Sound p .plain := by
  unfold Device.readStation
  exact ite (fun _ => (h.passIdle n).congr (books_answer ..)) fun _ => (h.passIdle n).congr (books_answer ..)

theorem onNamed (h : d.books.Sound p .plain) (a : Addr) (num : Byte) {f : Nat → Device → Device}
    (hf : ∀ r (x : Device), x.books.Sound p .plain → (f r x).books.Sound p .plain) :
    (d.onNamed a num f).books.Sound p .plain := by
  unfold Device.onNamed
  split
  · exact hf _ d h
  · exact h

theorem slipCutoff (h : d.books.Sound p .plain) (r : Nat) : (d.slipCutoff r).books.Sound p .plain := by
  unfold Device.slipCutoff
  split
  · exact ite (fun _ => h.evaluate) fun _ => h
  · exact h

theorem holdExpired (h : d.books.Sound p .plain) (seq : Seq) : (d.holdExpired seq).books.Sound p .plain := by
  unfold Device.holdExpired
  split
  · exact h.holdExpiry (fun _ => Marks.covered_plain) _
  · exact h

theorem buttonPress (h : d.books.Sound p .plain) (i : Fin 8) (inAccept : Bool) :
    (d.buttonPress i inAccept).books.Sound p .plain :=
  ite (fun _ => h.congr (books_onFlight (fun _ => by rfl) d)) fun _ => h.press (fun _ => Marks.covered_plain) i

end Ledger.Sound

end Sys2Proof.Machine

namespace Sys2Proof

open Machine Machine.Device

/-- Each command keeps the laws of the books. -/
theorem Instr.effect_books (c : Instr) {p : Prop} {d : Device} (h : d.books.Sound p .plain) :
    (c.effect d).books.Sound p .plain := by
  have hM : p → Ledger.Marks.plain.Covered := fun _ => Ledger.Marks.covered_plain
  cases c with
  | reset a k => exact .bare rfl rfl rfl rfl rfl rfl
  | tickBoundary => exact h.settled_plain.endTick
  | periodEnd => exact h.congr (books_periodEnd d)
  | markPlace => exact h.congr (books_markPlace d)
  | contend start => exact h.contend start
  | arbitrationLost => exact h.loseArbitration
  | ownBitError inGap line => exact h.ownBitError inGap line
  | frameCodingViolation wait line => exact h.codingViolation wait line
  | markFrame x => exact h.receive _ x _
  | readyFrame x => exact h.receive _ x _
  | slipFrame x => exact h.receive _ x _
  | offerFrame x rep => exact h.receive _ x _
  | ticketFrame x => exact h.receive _ x _
  | voidFrame x => exact h.receive _ x _
  | pickupFrame x => exact h.receive _ x _
  | readyFate fate line => exact h.fateOf _ _ _ _ line
  | slipFate fate line => exact h.fateOf _ _ _ _ line
  | offerFate fate rep line => exact h.fateOf _ _ _ _ line
  | markFate fate line => exact h.fateOf _ _ _ _ line
  | ticketFate fate short line => exact h.fateOf _ _ _ _ line
  | voidFate fate line => exact h.fateOf _ _ _ _ line
  | pickupFate fate line => exact h.fateOf _ _ _ _ line
  | wireFailed wire failure => exact h.wireFails wire failure
  | lineReturn => exact h.congr (books_lineReturn d)
  | lineDown cause other => exact h.lineDown cause other
  | frameSeen seen => exact .ite (fun _ => h) fun _ => h
  | quietEnd => exact h.congr (books_quietEnd d)
  | listenEnd => exact h.congr (books_listenEnd d)
  | waveClose pass num => exact h.onNamed pass num fun r x hx => hx.congr (books_waveClose r x)
  | waveSettle pass num => exact h.onNamed pass num fun r _ hx => hx.waveSettle r
  | waveAbandon pass num => exact h.onNamed pass num fun r _ hx => hx.waveAbandon hM r
  | passWaveAbandon pass num => exact h.onNamed pass num fun r _ hx => hx.passAbandon r
  | batchReleased seq => exact .ite (fun _ => h.dispatch.evaluate) fun _ => h
  | batchBehind seq => exact .ite (fun _ => h.evaluate) fun _ => h
  | offerRetryDue seq => exact .ite (fun _ => h.evaluate) fun _ => h
  | slipCutoff pass num => exact h.onNamed pass num fun r _ hx => hx.slipCutoff r
  | holdExpiry seq => exact h.holdExpired seq
  | turnCompare i => exact h.congr (books_turnCompare i d)
  | turnFlashEnd i => exact h.congr (books_flashEnd i d)
  | dueCompare i => exact h.congr (books_dueCompare i d)
  | callOverdue i => exact h.congr (books_callOverdue i d)
  | dueOverdue i => exact h.congr (books_dueOverdue i d)
  | buttonPress i inAccept => exact h.buttonPress i inAccept
  | configure l => exact h.congr (books_configure l d)
  | loadDish l => exact h.congr (books_loadDish l d)
  | clearMenu l => exact h.congr (books_clearMenu l d)
  | join l => exact h.congr (books_join l d)
  | leave l => exact h.leave l
  | silence l => exact h.congr (books_silence l d)
  | ring l => exact .ite (fun _ => h) fun _ => h
  | openWave l => exact h.openWave l
  | issueTicket l => exact h.congr (books_issueTicket l d)
  | voidTicket l => exact h.congr (books_voidTicket l d)
  | sendPickup l => exact h.congr (books_sendPickup l d)
  | readStation n l => exact h.readStation n l
  | readWave l => exact h.congr (books_readWave l d)
  | readTicket l => exact h.congr (books_readTicket l d)
  | readBatch l => exact h.congr (books_readBatch l d)
  | readLane l => exact h.congr (books_readLane l d)
  | readNotice l => exact h.congr (books_readNotice l d)
  | unknownCommand code l => exact .ite (fun _ => h) fun _ => h
  | nullSelect l => exact h
  | messageCutShort clocked => exact .ite (fun _ => h) fun _ => h

/-- Each step keeps the laws of the books. -/
theorem step_books {s t : State} {p : Prop} (h : s.dev.books.Sound p .plain) (hstep : step s = .next t) :
    t.dev.books.Sound p .plain := by
  rcases step_eq_next.mp hstep with ⟨c, rest, -, rfl⟩ | ⟨-, rfl⟩
  · exact c.effect_books h
  · exact h.crystalCount

/-- Settles O51: every step keeps the laws of the books, of which those of the identities rest on no other. -/
theorem idsInvariant : Obligations.IdsInvariant := by
  intro s t hids hstep
  exact (step_books (p := False) (sound_of_ok hids False.elim) hstep).idsOk

/-- Settles O56: every step keeps the laws of the books, with the accounts among them. -/
theorem accountsInvariant : Obligations.AccountsInvariant := by
  intro s t hids hfiled haccounts hstep
  have h := step_books (p := True) (sound_of_ok hids fun _ => ⟨hfiled, haccounts⟩) hstep
  exact ⟨h.filedOk trivial, h.accountsOk trivial⟩

end Sys2Proof
end

section
/-! What a formation pass and a dispatch pass leave alone (R112, R117): the press ticks of the lanes, the states of the waves,
and the batches of every other wave. -/

namespace Sys2Proof.Machine

open Device

/-- What a wave is but for its demand and its estimate. -/
def Wave.steady (w : Wave) : Wave := { w with lines := [], est := none }

/-- From `d` to `e` the lanes keep their last presses and the waves all but demand and estimate, and no batch joins the wave
of the record `ref`. -/
structure Device.Past (ref : Nat) (d e : Device) : Prop where
  pressed : ∀ i, (e.lane i).lastPress = (d.lane i).lastPress
  waves   : e.wu.waves.map Wave.steady = d.wu.waves.map Wave.steady
  apart   : (∀ x ∈ d.bp.batches, x.wave ≠ ref) → ∀ x ∈ e.bp.batches, x.wave ≠ ref

theorem Device.wave?_steady (d : Device) (ref : Nat) :
    (d.wave? ref).map Wave.steady = (d.wu.waves.map Wave.steady).find? (fun w => w.ref == ref) := by
  rw [List.find?_map]
  rfl

/-- The evaluation changes the estimates of the waves alone (R90). -/
theorem Device.evaluate_waves_eq (d : Device) :
    ∃ f : Wave → Option Estimate, d.evaluate.wu.waves = d.wu.waves.map fun w => { w with est := f w } := by
  unfold evaluate
  split
  · exact ⟨Wave.est, (List.map_id _).symm⟩
  · rw [offerEval_wu, foldl_wu (fun x b => markLate_wu b x), foldl_wu (fun x r => slipEval_wu r x),
      foldl_wu (fun x r => announce_wu r x)]
    exact ⟨_, rfl⟩

namespace Device.Past

variable {ref : Nat} {a b c d e : Device}

theorem waveStateOf (h : d.Past ref e) (r : Nat) : e.waveStateOf r = d.waveStateOf r := by
  have hw : (e.wave? r).map Wave.steady = (d.wave? r).map Wave.steady := by rw [wave?_steady, wave?_steady, h.waves]
  simpa [Device.waveStateOf, Function.comp_def, Wave.steady] using congrArg (Option.map Wave.state) hw

/-- A wave after, and the one it was before. -/
theorem mem_waves (h : d.Past ref e) {x : Wave} (hx : x ∈ e.wu.waves) : ∃ y ∈ d.wu.waves, y.steady = x.steady :=
  List.mem_map.mp (h.waves ▸ List.mem_map_of_mem hx)

theorem ofSame (hl : e.lu = d.lu) (hw : e.wu = d.wu) (hb : e.bp.batches = d.bp.batches) : d.Past ref e :=
  ⟨fun i => by rw [lane, lane, hl], by rw [hw], fun h => hb ▸ h⟩

theorem refl (d : Device) : d.Past ref d := ofSame rfl rfl rfl

theorem trans (h : a.Past ref b) (k : b.Past ref c) : a.Past ref c :=
  ⟨fun i => (k.pressed i).trans (h.pressed i), k.waves.trans h.waves, fun hn => k.apart (h.apart hn)⟩

theorem ite {p : Prop} [Decidable p] {x y : Device} (hx : p → d.Past ref x) (hy : ¬p → d.Past ref y) :
    d.Past ref (if p then x else y) := by
  split
  · next h => exact hx h
  · next h => exact hy h

theorem foldl {α : Type} {f : Device → α → Device} {l : List α} (hf : ∀ a ∈ l, ∀ x : Device, x.Past ref (f x a))
    (d : Device) : d.Past ref (l.foldl f d) := by
  induction l generalizing d with
  | nil => exact refl d
  | cons a l ih => exact (hf a (.head _) d).trans (ih (fun b hb => hf b (.tail _ hb)) _)

/-! ### One part changed -/

theorem onBp (f : Bp → Bp) (d : Device) (hf : ∀ x ∈ (f d.bp).batches, ∃ y ∈ d.bp.batches, x.wave = y.wave) :
    d.Past ref (d.onBp f) :=
  ⟨fun _ => rfl, rfl, fun h x hx => by
    obtain ⟨y, hy, hxy⟩ := hf x hx
    exact hxy ▸ h y hy⟩

theorem onBatch (bid : Nat) {f : Batch → Batch} (hf : ∀ b, (f b).wave = b.wave) (d : Device) :
    d.Past ref (d.onBatch bid f) :=
  onBp _ d fun x hx => by
    obtain ⟨y, hy, rfl⟩ := List.mem_map.mp hx
    refine ⟨y, hy, ?_⟩
    split
    · exact hf y
    · rfl

theorem onLane (i : Fin 8) {f : Lane → Lane} (hf : ∀ l, (f l).lastPress = l.lastPress) (d : Device) :
    d.Past ref (d.onLane i f) :=
  ⟨fun j => by
    rw [onLane_lane]
    split
    · next hij => rw [hf, hij]
    · rfl, rfl, id⟩

theorem onWave (r : Nat) {f : Wave → Wave} (hf : ∀ w, (f w).steady = w.steady) (d : Device) :
    d.Past ref (d.onWave r f) := by
  refine ⟨fun _ => rfl, ?_, id⟩
  simp only [Device.onWave, onWu_wu, List.map_map]
  refine List.map_congr_left fun w _ => ?_
  simp only [Function.comp_apply]
  split
  · exact hf w
  · rfl

theorem onTi (f : Ti → Ti) (d : Device) : d.Past ref (d.onTi f) := ofSame rfl rfl rfl

theorem notify (n : NoticeBody) (d : Device) : d.Past ref (d.notify n) := ofSame rfl rfl rfl

theorem lowerDemand (r : Nat) (c : Byte) (n : Nat) (d : Device) : d.Past ref (d.lowerDemand r c n) :=
  onWave r (fun _ => by rfl) d

/-! ### Dispatch and the evaluation -/

theorem callBatch (i : Fin 8) (b : Batch) (d : Device) : d.Past ref (d.callBatch i b) :=
  (((ofSame (d := d) (e := d.leaveFire b.bid) rfl rfl rfl).trans (onBatch b.bid (fun _ => by rfl) _)).trans
    (onLane i (fun _ => by rfl) _)).trans (notify _ _)

theorem dispatchLane (i : Fin 8) (d : Device) : d.Past ref (d.dispatchLane i) := by
  unfold Device.dispatchLane
  refine ite (fun _ => ?_) fun _ => refl d
  split
  · exact callBatch i _ d
  · exact refl d

theorem dispatch (d : Device) : d.Past ref d.dispatch := foldl (fun i _ x => dispatchLane i x) d

theorem laneDone (i : Fin 8) (d : Device) : d.Past ref (d.laneDone i) := by
  unfold Device.laneDone
  have hrel : d.Past ref (d.onLane i Lane.release) := onLane i (fun _ => by rfl) d
  split
  · exact hrel.trans (callBatch i _ _)
  · exact hrel

theorem evaluate (d : Device) : d.Past ref d.evaluate := by
  refine ⟨fun i => by rw [lane, evaluate_lu, lane], ?_, fun h x hx => ?_⟩
  · obtain ⟨f, hf⟩ := evaluate_waves_eq d
    rw [hf, List.map_map]
    rfl
  · obtain ⟨y, hy, hxy⟩ := (Graded.evaluate d).batches x hx
    rw [hxy]
    exact h y hy

/-! ### Formation -/

theorem claimSpares (r : Nat) (c : Byte) (d : Device) : d.Past ref (d.claimSpares r c) := by
  refine ((onTi _ d).trans (onBp _ _ fun x hx => ?_)).trans (lowerDemand _ _ _ _)
  obtain ⟨z, hz, rfl⟩ := List.mem_map.mp hx
  obtain ⟨w, hw, y, hy, -, -, -, hyw⟩ := SameFiles.mem_claimed (r := r) (c := c) (d := d) hz
  exact ⟨w, hw, (congrArg Batch.wave hy).trans hyw⟩

theorem fillBatch (r : Nat) (c : Byte) (b : Batch) (d : Device) : d.Past ref (d.fillBatch r c b) :=
  ((onTi _ d).trans (onBatch _ (fun _ => by rfl) _)).trans (lowerDemand _ _ _ _)

theorem joinFire (b : Nat) (d : Device) : d.Past ref (d.joinFire b) := by
  unfold Device.joinFire
  split
  · exact ofSame rfl rfl rfl
  · exact refl d

theorem addBatch {b : Batch} (hb : b.wave ≠ ref) (d : Device) : d.Past ref (d.addBatch b) :=
  ⟨fun _ => rfl, rfl, fun h x hx => by
    rcases List.mem_append.mp hx with hx | hx
    · exact h x hx
    · rw [List.mem_singleton.mp hx]
      exact hb⟩

theorem createBatches {r : Nat} (hr : r ≠ ref) (c : Byte) (n : Nat) (d : Device) : d.Past ref (d.createBatches r c n) := by
  induction n generalizing d with
  | zero => exact refl d
  | succ n ih =>
    unfold Device.createBatches
    extract_lets x bid d1 d2
    refine ite (fun _ => refl d) fun _ => ?_
    have h1 : d.Past ref d1 := onTi _ d
    have h2 : d1.Past ref d2 := (addBatch hr d1).trans (lowerDemand _ _ _ _)
    exact ((h1.trans h2).trans (joinFire bid d2)).trans (ih _)

theorem formDish {r : Nat} (hr : r ≠ ref) (c : Byte) (d : Device) : d.Past ref (d.formDish r c) :=
  ((claimSpares r c d).trans (foldl (fun b _ x => fillBatch r c b x) _)).trans (createBatches hr c _ _)

theorem formationPass {r : Nat} (hr : r ≠ ref) (d : Device) : d.Past ref (d.formationPass r) := by
  unfold Device.formationPass
  split
  · next w hw =>
    have hwr : w.ref = r := by simpa using List.find?_some hw
    exact (foldl (fun c _ x => formDish (hwr ▸ hr) c x) d).trans (dispatch _)
  · exact refl d

/-- No formation pass waits for a wave that is not SET (R115). -/
theorem afterFree (hn : (d.wu.waves.map (·.ref)).Nodup) (hs : d.waveStateOf ref ≠ some .goSet) (idled : Bool) :
    d.Past ref (d.afterFree none idled) := by
  have hf : d.Past ref (d.formOthers none) := foldl (fun r hr x => by
    obtain ⟨w, hw, rfl⟩ := List.mem_map.mp hr
    obtain ⟨hw, hset⟩ := List.mem_filter.mp ((mem_sortBy _ _ _).mp hw)
    have hne : w.ref ≠ ref := by
      rintro rfl
      rw [Device.waveStateOf, wave?_of_mem hn hw] at hs
      simp_all
    exact ite (fun _ => formationPass hne x) fun _ => refl x) d
  unfold Device.afterFree
  exact ite (fun _ => hf.trans (dispatch _)) fun _ => hf

end Device.Past
end Sys2Proof.Machine
end

section
/-! A done press (R130 to R133, R85): the batch it ends, the lane after it, and the AWAY wave it may run out (O42). -/

namespace Sys2Proof.Machine

open Device

theorem Device.callBatch_batches (i : Fin 8) (b : Batch) (d : Device) : (d.callBatch i b).bp.batches = d.bp.batches.map
    fun x => if x.bid == b.bid then { x with state := .called, staged := false, lane := some i } else x := rfl

theorem Device.callBatch_lane (i : Fin 8) (b : Batch) (d : Device) :
    (d.callBatch i b).lane i = (d.lane i).call b.bid d.now :=
  (onLane_lane i i _ _).trans (if_pos rfl)

/-- The batches of `d` stand in `e`, but for where they are. -/
structure Device.Calls (d e : Device) : Prop where
  ti    : e.ti = d.ti
  bids  : e.bp.batches.map (·.bid) = d.bp.batches.map (·.bid)
  stays : ∀ x ∈ d.bp.batches, ∃ y ∈ e.bp.batches, y = { x with state := y.state, staged := y.staged, lane := y.lane }

namespace Device.Calls

variable {a b c d e : Device}

theorem ofSame (ht : e.ti = d.ti) (hb : e.bp.batches = d.bp.batches) : d.Calls e :=
  ⟨ht, by rw [hb], fun x hx => ⟨x, hb ▸ hx, rfl⟩⟩

theorem refl (d : Device) : d.Calls d := ofSame rfl rfl

theorem trans (h : a.Calls b) (k : b.Calls c) : a.Calls c where
  ti := k.ti.trans h.ti
  bids := k.bids.trans h.bids
  stays x hx := by
    obtain ⟨y, hy, hyx⟩ := h.stays x hx
    obtain ⟨z, hz, hzy⟩ := k.stays y hy
    refine ⟨z, hz, ?_⟩
    rw [hzy, hyx]

theorem callBatch (i : Fin 8) (b : Batch) (d : Device) : d.Calls (d.callBatch i b) := by
  refine ⟨rfl, ?_, fun x hx => ⟨_, List.mem_map_of_mem hx, ?_⟩⟩
  · rw [callBatch_batches, List.map_map]
    refine List.map_congr_left fun x _ => ?_
    simp only [Function.comp_apply]
    split <;> rfl
  · split <;> rfl

theorem dispatchLane (i : Fin 8) (d : Device) : d.Calls (d.dispatchLane i) := by
  unfold Device.dispatchLane
  split
  · split
    · exact callBatch i _ d
    · exact refl d
  · exact refl d

theorem dispatch (d : Device) : d.Calls d.dispatch := by
  unfold Device.dispatch
  generalize List.finRange 8 = l
  induction l generalizing d with
  | nil => exact refl d
  | cons i l ih => exact (dispatchLane i d).trans (ih _)

theorem laneDone (i : Fin 8) (d : Device) : d.Calls (d.laneDone i) := by
  unfold Device.laneDone
  have hrel : d.Calls (d.onLane i Lane.release) := ofSame rfl rfl
  split
  · exact hrel.trans (callBatch i _ _)
  · exact hrel

end Device.Calls

/-- A batch through the evaluation. -/
theorem Device.Graded.stays {d e : Device} (h : d.Graded e) (hn : (d.bp.batches.map (·.bid)).Nodup) {x : Batch}
    (hx : x ∈ d.bp.batches) : ∃ y ∈ e.bp.batches, y = { x with late := y.late, offerPending := y.offerPending } := by
  obtain ⟨y, hy, hyx⟩ := List.mem_map.mp (h.bids ▸ List.mem_map_of_mem hx : x.bid ∈ e.bp.batches.map (·.bid))
  obtain ⟨z, hz, hyz⟩ := h.batches y hy
  have hzx : z.bid = x.bid := by rw [← hyx, hyz]
  obtain rfl : z = x := List.inj_on_of_nodup_map hn hz hx hzx
  exact ⟨y, hy, hyz⟩

/-! ### The press -/

/-- The lane with its last press (R129). -/
def Lane.pressed (now : Tick) (l : Lane) : Lane := { l with lastPress := some now }

/-- A batch at the end of its cooking (R133). -/
def Batch.held (now : Tick) (b : Batch) : Batch := { b with state := .holding, done := some now, lane := none }

/-- A done press that is not debounced ends the batch current on its lane (R130, R132). -/
theorem Device.buttonPress_done {d : Device} {i : Fin 8} {b : Batch} (hn : d.bp.Numbered) (hb : b ∈ d.bp.batches)
    (hi : i.val < d.sp.config.laneCount) (hp : (d.lane i).lastPress = none) (hc : (d.lane i).current = some b.bid)
    (hs : (d.lane i).state = .due ∨ (d.lane i).state = .cooking ∧
      before d.sck.tick (b.start.getD 0 + BitVec.ofNat 24 (d.cookOf b.dish / 2)) = false) :
    d.buttonPress i false = ((d.onLane i (Lane.pressed d.now)).donePress i b).evaluate := by
  set p := d.onLane i (Lane.pressed d.now) with hpd
  have hlane : p.lane i = (d.lane i).pressed d.now := by simp [hpd]
  have hfind : (p.lane i).current.bind p.batch? = some b := by
    rw [hlane]
    change (d.lane i).current.bind d.batch? = some b
    rw [hc]
    exact batch?_of_mem hn hb
  have hpress : d.buttonPress i false = p.pressAct i := by
    have hgo : (!d.configured i || debounced d.now (d.lane i)) = false := by simp [configured, cfg, hi, debounced, hp]
    rw [Device.buttonPress, Bool.false_and, if_neg Bool.false_ne_true, press, hgo, if_neg Bool.false_ne_true]
    rfl
  rw [hpress, pressAct, hfind]
  have hstate : (p.lane i).state = (d.lane i).state := by rw [hlane]; rfl
  rw [hstate]
  rcases hs with hs | ⟨hs, hhalf⟩
  · rw [hs]
  · have hafter : atOrAfter p.now (b.start.getD 0 + ticks (p.cookOf b.dish / 2)) = true := by
      rw [atOrAfter, Bool.not_eq_true']
      exact hhalf
    rw [hs]
    dsimp only
    rw [if_pos hafter]

/-! ### A wave that is not AWAY -/

section
variable {d : Device} {i : Fin 8} {b : Batch}

theorem Device.donePress_holds (hw : d.waveStateOf b.wave ≠ some .away) : d.donePress i b =
    if ((d.lane i).staged.bind d.batch?).isNone then ((d.onBatch b.bid (Batch.held d.now)).laneDone i).dispatch
    else (d.onBatch b.bid (Batch.held d.now)).laneDone i := by
  unfold donePress
  simp only [beq_iff_eq, hw, if_false]
  rfl

theorem Device.donePress_calls (hw : d.waveStateOf b.wave ≠ some .away) :
    (d.onBatch b.bid (Batch.held d.now)).Calls (d.donePress i b) := by
  rw [donePress_holds hw]
  split
  · exact (Calls.laneDone i _).trans (.dispatch _)
  · exact .laneDone i _

theorem Device.donePress_pressed (hw : d.waveStateOf b.wave ≠ some .away) (j : Fin 8) :
    ((d.donePress i b).lane j).lastPress = (d.lane j).lastPress := by
  have hpast : (d.onBatch b.bid (Batch.held d.now)).Past 0 (d.donePress i b) := by
    rw [donePress_holds hw]
    split
    · exact (Past.laneDone i _).trans (.dispatch _)
    · exact .laneDone i _
  exact hpast.pressed j

theorem Device.onBatch_bids (bid : Nat) {f : Batch → Batch} (hf : ∀ x, (f x).bid = x.bid) (d : Device) :
    (d.onBatch bid f).bp.batches.map (·.bid) = d.bp.batches.map (·.bid) := by
  rw [onBatch, onBp_bp, List.map_map]
  refine List.map_congr_left fun x _ => ?_
  simp only [Function.comp_apply]
  split
  · exact hf x
  · rfl

theorem Device.mem_held (hb : b ∈ d.bp.batches) (now : Tick) :
    b.held now ∈ (d.onBatch b.bid (Batch.held now)).bp.batches :=
  List.mem_map.mpr ⟨b, hb, if_pos (beq_self_eq_true _)⟩

/-- With nothing staged and nothing released the lane is IDLE (R133). -/
theorem Device.donePress_idle (hw : d.waveStateOf b.wave ≠ some .away) (hs : (d.lane i).staged = none)
    (hq : ∀ x ∈ d.queued, d.released x = false) :
    d.donePress i b = (d.onBatch b.bid (Batch.held d.now)).onLane i Lane.release := by
  have hdone : (d.onBatch b.bid (Batch.held d.now)).laneDone i =
      (d.onBatch b.bid (Batch.held d.now)).onLane i Lane.release := by
    unfold laneDone
    have hs' : ((d.onBatch b.bid (Batch.held d.now)).lane i).staged = none := hs
    rw [hs', Option.bind_none]
  rw [donePress_holds hw, hs, Option.bind_none, Option.isNone_none, if_pos rfl, hdone]
  refine dispatch_of_unreleased fun x hx => ?_
  obtain ⟨y, hy, rfl | rfl⟩ := mem_queued_onBatch (d := d) (bid := b.bid) (f := Batch.held d.now) (fun _ => rfl) hx
  · exact hq x hy
  · exact hq y hy

/-- The staged batch is called in the place of the one that ended (R133). -/
theorem Device.donePress_staged {y : Batch} (hw : d.waveStateOf b.wave ≠ some .away) (hn : d.bp.Numbered)
    (hy : y ∈ d.bp.batches) (hs : (d.lane i).staged = some y.bid) (hne : y.bid ≠ b.bid) :
    d.donePress i b = ((d.onBatch b.bid (Batch.held d.now)).onLane i Lane.release).callBatch i y := by
  have hhere : (d.lane i).staged.bind d.batch? = some y := by
    rw [hs]
    exact batch?_of_mem hn hy
  have hthere : (d.onBatch b.bid (Batch.held d.now)).batch? y.bid = some y := by
    refine batch?_of_mem ((SameFiles.onBatch b.bid (fun _ => by exact ⟨rfl, rfl, rfl⟩) d).grows hn).numbered ?_
    exact List.mem_map.mpr ⟨y, hy, if_neg (by simpa using hne)⟩
  rw [donePress_holds hw, hhere, Option.isNone_some, if_neg Bool.false_ne_true, laneDone]
  have hs' : ((d.onBatch b.bid (Batch.held d.now)).lane i).staged = some y.bid := hs
  rw [hs', Option.bind_some, hthere]

end

/-! ### An AWAY wave -/

section
variable {d : Device} {ref : Nat}

theorem Device.retire_refs (ref : Nat) (d : Device) :
    (d.retire ref).wu.waves.map (·.ref) = (d.wu.waves.map (·.ref)).filter (fun r => r ≠ ref) := by
  have hw : (d.retire ref).wu.waves = d.wu.waves.filter fun w => w.ref != ref := rfl
  rw [hw, List.filter_map]
  refine congrArg _ (List.filter_congr fun w _ => ?_)
  simp only [Function.comp_apply, ne_eq, decide_not, bne]
  rfl

/-- An AWAY wave without a batch is retired (R85). -/
theorem Device.retireIfRunOut_refs (hs : d.waveStateOf ref = some .away) (hb : ∀ x ∈ d.bp.batches, x.wave ≠ ref) :
    (d.retireIfRunOut ref).wu.waves.map (·.ref) = (d.wu.waves.map (·.ref)).filter (fun r => r ≠ ref) := by
  obtain ⟨w, hw, hstate⟩ := Option.map_eq_some_iff.mp hs
  have hwr : w.ref = ref := by simpa using List.find?_some hw
  have hnone : d.batchesOf w.ref = [] := List.filter_eq_nil_iff.mpr fun x hx => by simpa [hwr] using hb x hx
  unfold retireIfRunOut
  have hout : (w.state == .away && (d.batchesOf ref).isEmpty) = true := by
    rw [hstate, ← hwr, hnone]
    rfl
  rw [hw]
  dsimp only
  rw [if_pos hout]
  exact retire_refs ref d

theorem Device.retireIfRunOut_batches (ref : Nat) (d : Device) : (d.retireIfRunOut ref).bp.batches = d.bp.batches := by
  unfold retireIfRunOut
  split
  · split <;> rfl
  · rfl

theorem Device.retireIfRunOut_lu (ref : Nat) (d : Device) : (d.retireIfRunOut ref).lu = d.lu := by
  unfold retireIfRunOut
  split
  · split <;> rfl
  · rfl

/-- The batch that ran out, gone from the pool and the lane not yet gone on. -/
def Device.ranOut (b : Batch) (d : Device) : Device := (d.takeOff b).removeBatch { b with lane := none }

theorem Device.takeOff_parts (b : Batch) (d : Device) :
    (d.takeOff b).bp = d.bp ∧ (d.takeOff b).wu = d.wu ∧ (d.takeOff b).lu = d.lu := by
  unfold takeOff
  split <;> exact ⟨rfl, rfl, rfl⟩

theorem Device.ranOut_parts (b : Batch) (d : Device) : (d.ranOut b).lu = d.lu ∧ (d.ranOut b).wu = d.wu ∧
    (d.ranOut b).bp = { d.bp with
      fireQ := d.bp.fireQ.filter (fun x => x != b.bid)
      batches := d.bp.batches.filter (fun x => x.bid != b.bid) } := by
  obtain ⟨hb, hw, hl⟩ := takeOff_parts b d
  obtain ⟨q, hq⟩ := removeBatch_eq { b with lane := none } (d.takeOff b)
  rw [ranOut, hq]
  exact ⟨hl, hw, by rw [← hb]⟩

theorem Device.donePress_runsOut {i : Fin 8} {b : Batch} (hw : d.waveStateOf b.wave = some .away) : d.donePress i b =
    (((d.ranOut b).laneDone i).afterFree none ((d.lane i).staged.bind d.batch?).isNone).retireIfRunOut b.wave := by
  unfold donePress
  rw [hw, if_pos (beq_self_eq_true _)]
  rfl

theorem Device.SameFiles.laneDone (i : Fin 8) (d : Device) : d.SameFiles (d.laneDone i) := by
  unfold Device.laneDone
  have hrel : d.SameFiles (d.onLane i Lane.release) := onLane i (fun _ => by exact id) d
  split
  · exact hrel.trans ((beginCall i _ _).trans (notify _ _))
  · exact hrel

/-- A done press on a batch of an AWAY wave (R85): the batch is freed, and with the wave's last batch the record is retired. -/
theorem Device.donePress_away {i : Fin 8} {b : Batch} (hn : d.bp.Numbered) (hr : (d.wu.waves.map (·.ref)).Nodup)
    (hb : b ∈ d.bp.batches) (hw : d.waveStateOf b.wave = some .away) :
    ((d.donePress i b).lane i).lastPress = (d.lane i).lastPress ∧
      (∀ x ∈ (d.donePress i b).bp.batches, x.bid ≠ b.bid) ∧
      ((∀ x ∈ d.bp.batches, x.wave = b.wave → x = b) →
        (d.donePress i b).wu.waves.map (·.ref) = (d.wu.waves.map (·.ref)).filter (fun r => r ≠ b.wave)) := by
  obtain ⟨hlu, hwu, hbp⟩ := ranOut_parts b d
  set idles := ((d.lane i).staged.bind d.batch?).isNone
  set x := (d.ranOut b).laneDone i with hx
  have hx1 : (d.ranOut b).Past b.wave x := .laneDone i _
  have hx2 : (d.ranOut b).SameFiles x := .laneDone i _
  have hstate : (d.ranOut b).waveStateOf b.wave = some .away := by
    rw [waveStateOf, wave?, hwu]
    exact hw
  have hpast : (d.ranOut b).Past b.wave (x.afterFree none idles) := by
    refine hx1.trans (.afterFree ?_ ?_ _)
    · rw [hx2.refs, hwu]
      exact hr
    · rw [hx1.waveStateOf, hstate]
      nofun
  have hfiles : (d.ranOut b).SameFiles (x.afterFree none idles) := hx2.trans (.afterFree _ _)
  have hnum : (d.ranOut b).bp.Numbered := hn.sublist (by rw [hbp]; exact List.filter_sublist) (by rw [hbp])
  rw [donePress_runsOut hw]
  refine ⟨?_, fun y hy => ?_, fun hlast => ?_⟩
  · rw [lane, retireIfRunOut_lu, ← lane, hpast.pressed, lane, hlu, lane]
  · rw [retireIfRunOut_batches] at hy
    rcases (hfiles.grows hnum).fresh y hy with ⟨z, hz, hzy⟩ | hnew
    · rw [hbp] at hz
      rw [← hzy]
      simpa using (List.mem_filter.mp hz).2
    · rw [hbp] at hnew
      exact ((hn.2 b hb).trans_le hnew).ne'
  · have hnone : ∀ y ∈ (d.ranOut b).bp.batches, y.wave ≠ b.wave := fun y hy hyw => by
      rw [hbp] at hy
      obtain ⟨hy, hyb⟩ := List.mem_filter.mp hy
      simp [hlast y hy hyw] at hyb
    rw [retireIfRunOut_refs (by rw [hpast.waveStateOf, hstate]) (hpast.apart hnone), hfiles.refs, hwu]

end
end Sys2Proof.Machine

namespace Sys2Proof

open Machine Machine.Device

/-- Settles O42: the press is the done press of the batch on its lane, of a wave not AWAY or of one AWAY. -/
theorem pressEnds : Obligations.PressEnds := by
  intro s i b hids hb hi hp hc hs
  have hn : s.dev.bp.Numbered := ⟨hids.2.2.1, hids.2.2.2.1⟩
  have hr : (s.dev.wu.waves.map (·.ref)).Nodup := hids.1
  set p := s.dev.onLane i (Lane.pressed s.dev.now) with hpd
  have hlane : p.lane i = (s.dev.lane i).pressed s.dev.now := by simp [hpd]
  have heff : (Instr.buttonPress i false).effect s.dev = (p.donePress i b).evaluate :=
    buttonPress_done hn hb hi hp hc hs
  have hkept : s.dev.Kept (p.donePress i b).evaluate := heff ▸ buttonPress_kept i false s.dev
  have hgr := Graded.evaluate (p.donePress i b)
  have hat : ∀ j, (p.donePress i b).evaluate.lane j = (p.donePress i b).lane j := fun j => by rw [lane, evaluate_lu, lane]
  refine ⟨_, exec_of_effect heff, rfl, hkept, ?_, fun hw => ?_, fun hw => ?_⟩
  · dsimp only
    rw [hat]
    by_cases hw : p.waveStateOf b.wave = some .away
    · rw [(donePress_away (d := p) hn hr hb hw).1, hlane]
      rfl
    · rw [donePress_pressed hw, hlane]
      rfl
  · have hw : p.waveStateOf b.wave ≠ some .away := hw
    have hcalls := donePress_calls (i := i) hw
    have hbids : ((p.donePress i b).bp.batches.map (·.bid)).Nodup := by
      rw [hcalls.bids, onBatch_bids _ fun _ => by rfl]
      exact hn.1
    have hheld : b.held p.now ∈ (p.onBatch b.bid (Batch.held p.now)).bp.batches := mem_held hb _
    refine ⟨hgr.ti.trans hcalls.ti, ?_, fun hst hq => ⟨?_, ?_⟩, fun y hy hst hne => ?_⟩
    · obtain ⟨x, hx, hxb⟩ := hcalls.stays _ hheld
      obtain ⟨z, hz, hzx⟩ := hgr.stays hbids hx
      refine ⟨z, hz, ?_⟩
      rw [hzx, hxb]
      exact ⟨rfl, rfl, rfl, rfl⟩
    · refine hgr.stays hbids (x := b.held p.now) ?_
      rw [donePress_idle hw (by rw [hlane]; exact hst) hq]
      exact hheld
    · dsimp only
      rw [hat, donePress_idle hw (by rw [hlane]; exact hst) hq, onLane_lane, if_pos rfl]
      exact congrArg Lane.release hlane
    · have hst : (p.lane i).staged = some y.bid := by
        rw [hlane]
        exact hst
      have heq := donePress_staged hw hn hy hst hne
      have hl : (p.donePress i b).lane i = Lane.call y.bid p.now (p.lane i).release := by
        rw [heq, callBatch_lane, onLane_lane, if_pos rfl]
        rfl
      refine ⟨hgr.stays hbids (x := b.held p.now) ?_, hgr.stays hbids (x := { y with
        state := .called, staged := false, lane := some i }) ?_, ?_⟩
      · rw [heq, callBatch_batches]
        exact List.mem_map.mpr ⟨_, hheld, if_neg (by simpa [Batch.held] using hne.symm)⟩
      · rw [heq, callBatch_batches]
        exact List.mem_map.mpr ⟨y, List.mem_map.mpr ⟨y, hy, if_neg (by simpa using hne)⟩, if_pos (beq_self_eq_true _)⟩
      · dsimp only
        rw [hat, hl]
        exact ⟨rfl, rfl, rfl, rfl, rfl⟩
  · have hw : p.waveStateOf b.wave = some .away := hw
    obtain ⟨-, hgone, hlast⟩ := donePress_away (d := p) (i := i) hn hr hb hw
    refine ⟨fun x hx => ?_, fun honly => ?_⟩
    · obtain ⟨y, hy, hxy⟩ := hgr.batches x hx
      rw [hxy]
      exact hgone y hy
    · exact (SameFiles.evaluate _).refs.trans (hlast honly)

end Sys2Proof
end

section
/-! A wave through its close and its settling (R99 to R102): the record, its notices, and what a pass keeps. -/

namespace Sys2Proof.Machine

open Device

/-! ### The close (R99) -/

theorem mem_placeEntry {e x : TxEntry} {q : List TxEntry} (h : x ∈ placeEntry e q) : x = e ∨ x ∈ q := by
  rcases List.mem_append.mp h with h | h
  · exact .inr (List.mem_filter.mp h).1
  · exact .inl (List.mem_singleton.mp h)

theorem Device.mem_txq_foldl {x : TxEntry} {α : Type} {f : Device → α → Device} {P : Device → Prop}
    (hf : ∀ (d : Device) (a : α), P d → P (f d a) ∧ (x ∈ (f d a).fe.txq → x ∈ d.fe.txq)) (l : List α) {d : Device}
    (hd : P d) : x ∈ (l.foldl f d).fe.txq → x ∈ d.fe.txq := by
  induction l generalizing d with
  | nil => exact id
  | cons a l ih => exact fun h => (hf d a hd).2 (ih (hf d a hd).1 h)

/-- The evaluation places no READY for a wave that is not OPEN (R95). -/
theorem Device.ready_of_mem_evaluate {d : Device} {ref : Nat} (hs : d.waveStateOf ref ≠ some .opened)
    (h : .ready ref ∈ d.evaluate.fe.txq) : .ready ref ∈ d.fe.txq := by
  unfold evaluate at h
  split at h
  · exact h
  extract_lets d1 refs d2 d3 d4 at h
  have hstate : d1.waveStateOf ref ≠ some .opened := by
    have hw : d1.waveStateOf ref = d.waveStateOf ref := by
      simp only [waveStateOf, d1, recompute, wave?, onWu_wu, List.find?_map, Option.map_map]
      rfl
    rwa [hw]
  have hoffer : .ready ref ∈ d4.fe.txq := by
    unfold offerEval at h
    split at h
    · split at h
      · exact (mem_placeEntry h).resolve_left nofun
      · exact h
    · exact h
  have hlate : .ready ref ∈ d3.fe.txq := mem_txq_foldl (P := fun _ => True) (fun x b _ => ⟨trivial, fun hm => by
    unfold markLate at hm
    split at hm
    · exact hm
    · split at hm
      · exact hm
      · split at hm <;> exact hm⟩) _ trivial hoffer
  have hslip : .ready ref ∈ d2.fe.txq := mem_txq_foldl (P := fun _ => True) (fun x r _ => ⟨trivial, fun hm => by
    unfold slipEval at hm
    split at hm
    · split at hm
      · exact (mem_placeEntry hm).resolve_left nofun
      · exact hm
    · exact hm⟩) _ trivial hlate
  refine mem_txq_foldl (P := fun x => x.wu = d1.wu) (fun x r hx => ⟨(announce_wu r x).trans hx, fun hm => ?_⟩) _ (d := d1)
    rfl hslip
  unfold announce at hm
  split at hm
  · next w hw =>
    split at hm
    · next hc =>
      refine (mem_placeEntry hm).resolve_left fun heq => hstate ?_
      obtain rfl : ref = r := by simpa using heq
      have hopen : w.state = .opened := by
        simp only [announceHolds, Bool.and_eq_true, beq_iff_eq] at hc
        exact hc.1.1.1
      have hw1 : d1.wave? ref = some w := by rw [wave?, ← hx]; exact hw
      rw [waveStateOf, hw1, Option.map_some, hopen]
    · exact hm
  · exact hm

/-- An OPEN wave at its close (R99). -/
theorem Device.waveClose_eq {d : Device} {w : Wave} (hr : (d.wu.waves.map (·.ref)).Nodup) (hw : w ∈ d.wu.waves)
    (hs : w.state = .opened) (hc : w.close = some d.sck.tick) : d.waveClose w.ref = (d.enterSettling w.ref).evaluate := by
  have hdue : (w.state == .opened && w.close == some d.now) = true := by simp [hs, hc, now]
  rw [waveClose, wave?_of_mem hr hw]
  dsimp only
  rw [if_pos hdue]

theorem Device.enterSettling_waves (ref : Nat) (d : Device) : (d.enterSettling ref).wu.waves = d.wu.waves.map fun w =>
    if w.ref == ref then { w with state := .settling, est := none } else w := rfl

theorem Device.waveStateOf_enterSettling (ref : Nat) (d : Device) :
    (d.enterSettling ref).waveStateOf ref ≠ some .opened := by
  intro h
  obtain ⟨w, hw, hs⟩ := Option.map_eq_some_iff.mp h
  have hwr : w.ref = ref := by simpa using List.find?_some hw
  have hm : w ∈ (d.enterSettling ref).wu.waves := List.mem_of_find?_eq_some hw
  rw [enterSettling_waves] at hm
  obtain ⟨v, hv, rfl⟩ := List.mem_map.mp hm
  split at hs
  · cases hs
  · next hne =>
    rw [if_neg hne] at hwr
    simp [hwr] at hne

/-- No estimate is made of a wave that is SETTLING (R94). -/
theorem Device.evaluate_est {d : Device} {x : Wave} (hx : x ∈ d.evaluate.wu.waves) :
    ∃ y ∈ d.wu.waves, x = { y with est := x.est } ∧ (y.state = .settling → y.est = none → x.est = none) := by
  unfold evaluate at hx
  split at hx
  · exact ⟨x, hx, rfl, fun _ h => h⟩
  · rw [offerEval_wu, foldl_wu (fun x b => markLate_wu b x), foldl_wu (fun x r => slipEval_wu r x),
      foldl_wu (fun x r => announce_wu r x)] at hx
    obtain ⟨y, hy, rfl⟩ := List.mem_map.mp hx
    exact ⟨y, hy, rfl, fun hs _ => by simp [hs]⟩

/-- The records after the close of a wave. -/
theorem Device.mem_closed {d : Device} {ref : Nat} {x : Wave} (hx : x ∈ (d.enterSettling ref).evaluate.wu.waves) :
    ∃ y ∈ d.wu.waves, x = if y.ref = ref then { y with state := .settling, est := none } else { y with est := x.est } := by
  obtain ⟨z, hz, hxz, hest⟩ := evaluate_est hx
  rw [enterSettling_waves] at hz
  obtain ⟨y, hy, rfl⟩ := List.mem_map.mp hz
  refine ⟨y, hy, ?_⟩
  by_cases hyr : y.ref = ref
  · have hb : (y.ref == ref) = true := by simpa using hyr
    rw [if_pos hb] at hxz hest
    rw [if_pos hyr, hxz, hest rfl rfl]
  · have hb : ¬(y.ref == ref) = true := by simpa using hyr
    rw [if_neg hb] at hxz
    rw [if_neg hyr, ← hxz]

/-! ### Entry to SET (R100, R101) -/

section
variable {d : Device} {w : Wave}

theorem Wave.counted_of_close {close : Tick} (hc : w.close = some close) :
    w.counted = w.participants.filter (fun p => !before p.stamp (close - 64) && before p.stamp close) := by
  rw [counted, hc]
  rfl

theorem Wave.settledGo_eq (w : Wave) : w.settledGo =
    w.counted.foldl (fun g p => if before g p.estimate then p.estimate else g) (w.call.getD 0) := rfl

theorem Wave.heardLate_of_close {close : Tick} (hc : w.close = some close) :
    w.heardLate = before (close - 64) w.heardFrom := by
  rw [heardLate, hc]
  rfl

theorem Device.waveSettle_eq {close : Tick} (hr : (d.wu.waves.map (·.ref)).Nodup) (hw : w ∈ d.wu.waves)
    (hs : w.state = .settling) (hc : w.close = some close) (ht : close + 4 = d.sck.tick) :
    d.waveSettle w.ref = (d.enterSet w).afterSet w.ref := by
  have hdue : (w.state == .settling && w.close == some (d.now - 4)) = true := by
    have hclose : close = d.sck.tick - 4 := by rw [← ht, BitVec.add_sub_cancel]
    simp [hs, hc, hclose, now]
  rw [waveSettle, wave?_of_mem hr hw]
  dsimp only
  rw [if_pos hdue]

/-- Entry to SET changes the record and queues notices. -/
theorem Device.enterSet_eq (w : Wave) (d : Device) :
    ∃ q, d.enterSet w = (d.onWave w.ref fun x => x.toSet).onSp fun _ => q := by
  unfold enterSet
  extract_lets id d1 d2
  have h2 : ∃ q, d2 = (d.onWave w.ref fun x => x.toSet).onSp fun _ => q := by
    simp only [d2]
    split <;> exact ⟨_, rfl⟩
  obtain ⟨q, h2⟩ := h2
  split
  · exact ⟨(d2.notify _).sp, by rw [h2]; rfl⟩
  · exact ⟨q, h2⟩

theorem Device.enterSet_waves (w : Wave) (d : Device) :
    (d.enterSet w).wu.waves = d.wu.waves.map fun x => if x.ref == w.ref then x.toSet else x := by
  obtain ⟨q, hq⟩ := enterSet_eq w d
  rw [hq]
  rfl

theorem Device.enterSet_refs (w : Wave) (d : Device) :
    (d.enterSet w).wu.waves.map (·.ref) = d.wu.waves.map (·.ref) := by
  rw [enterSet_waves, List.map_map]
  refine List.map_congr_left fun x _ => ?_
  simp only [Function.comp_apply]
  split <;> rfl

theorem Device.eq_toSet_of_mem (hr : (d.wu.waves.map (·.ref)).Nodup) (hw : w ∈ d.wu.waves) {x : Wave}
    (hx : x ∈ (d.enterSet w).wu.waves) (hxr : x.ref = w.ref) : x = w.toSet := by
  rw [enterSet_waves] at hx
  obtain ⟨y, hy, rfl⟩ := List.mem_map.mp hx
  have hyr : y.ref = w.ref := by
    split at hxr <;> exact hxr
  obtain rfl : y = w := List.inj_on_of_nodup_map hr hy hw hyr
  exact if_pos (beq_self_eq_true _)

/-! ### The notices (R100, R101) -/

theorem Device.length_notices_notify (n : NoticeBody) (d : Device) :
    (d.notify n).sp.notices.length ≤ d.sp.notices.length + 1 := by
  simp only [notify, onSp, Sp.queueNotice]
  split
  · exact Nat.le_succ _
  · split
    · exact Nat.le_succ _
    · simp

/-- WAVE_SET, WAVE_PARTIAL with its cause and WAVE_FAR at entry to SET. -/
theorem Device.mem_notices_enterSet (hg : d.sp.config.waveGroup = true) (hl : d.sp.notices.length < 30) :
    { tick := d.sck.tick, body := .waveSet w.noticeId w.settledGo w.counted.length } ∈ (d.enterSet w).sp.notices ∧
    (∀ c, w.partialCause = some c →
      { tick := d.sck.tick, body := .wavePartial w.noticeId c } ∈ (d.enterSet w).sp.notices) ∧
    (∀ p, w.counted.find? (·.far) = some p →
      { tick := d.sck.tick, body := .waveFar w.noticeId p.addr } ∈ (d.enterSet w).sp.notices) := by
  unfold enterSet
  extract_lets id d1 d2
  have h1 : { tick := d.sck.tick, body := .waveSet w.noticeId w.settledGo w.counted.length } ∈ d1.sp.notices :=
    mem_notices_self (d := d.onWave w.ref fun x => x.toSet) _ hg (hl.trans (by decide))
  have hlen1 : d1.sp.notices.length ≤ d.sp.notices.length + 1 := length_notices_notify _ _
  have hk1 : d.Kept d1 := (kept_notify _ _ _).mpr ((kept_onWave ..).mpr (.refl d))
  have h2 : (∀ n ∈ d1.sp.notices, n ∈ d2.sp.notices) ∧ d2.sp.notices.length ≤ d.sp.notices.length + 2 ∧ d.Kept d2 ∧
      ∀ c, w.partialCause = some c → { tick := d.sck.tick, body := .wavePartial w.noticeId c } ∈ d2.sp.notices := by
    simp only [d2]
    split
    · next c hc =>
      refine ⟨fun n hn => mem_notices_notify _ hn, ?_, (kept_notify _ _ _).mpr hk1, fun c' hc' => ?_⟩
      · exact (length_notices_notify _ _).trans (by omega)
      · obtain rfl : c = c' := by simpa [hc] using hc'
        have hself := mem_notices_self (d := d1) (.wavePartial w.noticeId c) (by rw [hk1.config]; exact hg) (by omega)
        rw [now, hk1.sck] at hself
        exact hself
    · next hn => exact ⟨fun n hn => hn, by omega, hk1, fun c hc => by simp [hn] at hc⟩
  obtain ⟨hmono, hlen2, hk2, hpart⟩ := h2
  split
  · next p hp =>
    refine ⟨mem_notices_notify _ (hmono _ h1), fun c hc => mem_notices_notify _ (hpart c hc), fun p' hp' => ?_⟩
    obtain rfl : p = p' := by simpa [hp] using hp'
    have hself := mem_notices_self (d := d2) (.waveFar w.noticeId p.addr) (by rw [hk2.config]; exact hg) (by omega)
    rw [now, hk2.sck] at hself
    exact hself
  · next hn => exact ⟨hmono _ h1, hpart, fun p hp => by simp [hn] at hp⟩

theorem Device.mem_notices_dispatch {n : Notice} (h : n ∈ d.sp.notices) : n ∈ d.dispatch.sp.notices := by
  unfold dispatch
  refine mem_notices_foldl (fun x i hx => ?_) _ h
  unfold dispatchLane
  split
  · split
    · next b _ => exact mem_notices_notify (d := x.beginCall i b.bid) _ hx
    · exact hx
  · exact hx

theorem Device.createBatches_sp (ref : Nat) (dish : Byte) (n : Nat) (d : Device) :
    (d.createBatches ref dish n).sp = d.sp := by
  induction n generalizing d with
  | zero => rfl
  | succ n ih =>
    rw [createBatches_succ]
    split
    · rfl
    · rw [ih, createBatch_sp]

theorem Device.formDish_sp (ref : Nat) (dish : Byte) (d : Device) : (d.formDish ref dish).sp = d.sp := by
  have hfill : ∀ (bs : List Batch) (x : Device), (bs.foldl (fun y b => y.fillBatch ref dish b) x).sp = x.sp :=
    fun bs => by
      induction bs with
      | nil => exact fun _ => rfl
      | cons b bs ih => exact fun x => ih _
  exact (createBatches_sp ..).trans (hfill _ _)

theorem Device.mem_notices_afterSet {n : Notice} (ref : Nat) (h : n ∈ d.sp.notices) : n ∈ (d.afterSet ref).sp.notices := by
  have hform : n ∈ (d.formationPass ref).sp.notices := by
    unfold formationPass
    split
    · exact mem_notices_dispatch (mem_notices_foldl (fun x c hx => by rwa [formDish_sp]) _ h)
    · exact h
  unfold afterSet
  split
  · exact h
  · refine mem_notices_evaluate ?_
    unfold testNoWork
    split
    · split <;> exact hform
    · exact hform

end

/-! ### The record through the steps after entry to SET -/

theorem Device.Past.recompute {ref : Nat} (d : Device) : d.Past ref d.recompute := by
  refine ⟨fun _ => rfl, ?_, id⟩
  simp only [Device.recompute, onWu_wu, List.map_map]
  rfl

theorem Device.mem_waves_testNoWork {d : Device} {ref : Nat} {x : Wave} (hx : x ∈ (d.testNoWork ref).wu.waves) :
    x ∈ d.wu.waves := by
  unfold testNoWork at hx
  split at hx
  · split at hx
    · exact (List.mem_filter.mp hx).1
    · exact hx
  · exact hx

/-- The steps after entry to SET change a wave's demand and its estimate alone. -/
theorem Device.mem_waves_afterSet {d : Device} {ref : Nat} {x : Wave} (hx : x ∈ (d.afterSet ref).wu.waves) :
    ∃ y ∈ d.wu.waves, y.steady = x.steady := by
  unfold afterSet at hx
  split at hx
  · exact ⟨x, hx, rfl⟩
  · obtain ⟨y, hy, hyx⟩ := (Past.evaluate (ref := ref + 1) _).mem_waves hx
    obtain ⟨z, hz, hzy⟩ := ((Past.formationPass (ref := ref + 1) (Nat.ne_of_lt (Nat.lt_succ_self ref)) d).trans
      (.recompute _)).mem_waves (mem_waves_testNoWork hy)
    exact ⟨z, hz, hzy.trans hyx⟩

/-- A SET wave as its entry to SET made it (R100, R101). -/
theorem Device.settled_record {d : Device} {w x : Wave} (hr : (d.wu.waves.map (·.ref)).Nodup) (hw : w ∈ d.wu.waves)
    (hx : x ∈ ((d.enterSet w).afterSet w.ref).wu.waves) (hxr : x.ref = w.ref) : x.steady = w.toSet.steady := by
  obtain ⟨y, hy, hyx⟩ := mem_waves_afterSet hx
  rw [← hyx, eq_toSet_of_mem hr hw hy ((congrArg Wave.ref hyx).trans hxr)]

/-- A pass takes no step after entry to SET (R157). -/
theorem Device.afterSet_of_pass {d : Device} {ref : Nat} (h : d.strap.cls = 0) : d.afterSet ref = d := by
  rw [afterSet, isPass, if_pos (by simp [h])]

end Sys2Proof.Machine
end

section
/-! The batches of a wave that has none yet (R112, R114): each of its dish lines with demand goes into batches of the go time. -/

namespace Sys2Proof.Machine

open Device

/-! ### A dish without a batch -/

theorem claimItems_nil (serial : Serial) (dish : Byte) (its : List Item) : claimItems serial dish its [] = (its, []) := by
  induction its with
  | nil => rfl
  | cons it its ih =>
    unfold claimItems
    split
    · simp only [claimItem, ih]
    · rw [ih]

theorem claimTickets_nil (ref : Nat) (dish : Byte) (ts : List Ticket) : claimTickets ref dish ts [] = (ts, []) := by
  induction ts with
  | nil => rfl
  | cons t ts ih =>
    unfold claimTickets
    split
    · simp only [claimItems_nil, ih]
    · rw [ih]

theorem Device.lowerDemand_zero (ref : Nat) (dish : Byte) (d : Device) : d.lowerDemand ref dish 0 = d := by
  have hlines : ∀ w : Wave, { w with lines := w.lines.map (fun l =>
      if l.dish == dish then { l with demand := l.demand - 0 } else l) } = w := fun w => by simp
  unfold lowerDemand onWave
  simp only [hlines, ite_self, List.map_id']
  rfl

/-- With no batch of the dish, formation goes to its third stage (R112). -/
theorem Device.formDish_of_none {d : Device} {ref : Nat} {dish : Byte}
    (h : ∀ b ∈ d.bp.batches, b.wave = ref → b.dish ≠ dish) : d.formDish ref dish = d.createBatches ref dish d.poolFree := by
  have hclaim : d.claimable ref dish = [] := List.eq_nil_iff_forall_not_mem.mpr fun b hb => by
    obtain ⟨hm, hw, hd, -⟩ := mem_claimable.mp hb
    exact h b hm hw hd
  have hfill : d.fillable ref dish = [] := List.eq_nil_iff_forall_not_mem.mpr fun b hb => by
    obtain ⟨hm, hw, hd, -⟩ := mem_fillable.mp hb
    exact h b hm hw hd
  have h1 : d.claimSpares ref dish = d := by
    unfold claimSpares
    rw [hclaim, claimTickets_nil]
    dsimp only
    rw [Nat.sub_self, lowerDemand_zero]
    have hput : ∀ bs, putBack [] bs = bs := fun bs => List.map_id' bs
    simp only [hput]
    rfl
  unfold formDish
  simp only [h1, fillFormed, hfill, List.foldl_nil]

/-! ### What batches created leave -/

theorem Device.createBatch_fe (ref : Nat) (dish : Byte) (d : Device) : (d.createBatch ref dish).fe = d.fe := by
  obtain ⟨q, hq⟩ := createBatch_eq ref dish d
  rw [hq]
  rfl

theorem Device.createBatches_fe (ref : Nat) (dish : Byte) (n : Nat) (d : Device) :
    (d.createBatches ref dish n).fe = d.fe := by
  induction n generalizing d with
  | zero => rfl
  | succ n ih =>
    rw [createBatches_succ]
    split
    · rfl
    · rw [ih, createBatch_fe]

theorem Device.createBatches_goOf (ref r : Nat) (dish : Byte) (n : Nat) (d : Device) :
    (d.createBatches ref dish n).goOf r = d.goOf r := by
  induction n generalizing d with
  | zero => rfl
  | succ n ih =>
    rw [createBatches_succ]
    split
    · rfl
    · rw [ih, createBatch_goOf]

theorem Device.unbatchedOf_createBatches_other {dish c : Byte} (h : c ≠ dish) (ref : Nat) (n : Nat) (d : Device) :
    unbatchedOf ref c (d.createBatches ref dish n).ti.tickets = unbatchedOf ref c d.ti.tickets := by
  induction n generalizing d with
  | zero => rfl
  | succ n ih =>
    rw [createBatches_succ]
    split
    · rfl
    · rw [ih, createBatch_tickets, unbatchedOf_drawTickets_other (.inr h)]

/-- A wave with each dish line's demand lowered. -/
def Wave.lessDemand (f : Byte → Nat) (w : Wave) : Wave :=
  { w with lines := w.lines.map fun l => { l with demand := l.demand - f l.dish } }

theorem Wave.lessDemand_zero (w : Wave) : w.lessDemand (fun _ => 0) = w := by simp [lessDemand]

theorem Wave.lessDemand_lessDemand (f g : Byte → Nat) (w : Wave) :
    (w.lessDemand f).lessDemand g = w.lessDemand fun c => f c + g c := by
  simp [lessDemand, Function.comp_def, Nat.sub_sub]

theorem Wave.lessDemand_congr {f g : Byte → Nat} (h : ∀ c, f c = g c) (w : Wave) : w.lessDemand f = w.lessDemand g := by
  rw [show f = g from funext h]

/-- Of the record `ref`, `e` holds what `d` held with each dish line's demand lowered. -/
def Device.Lowered (ref : Nat) (f : Byte → Nat) (d e : Device) : Prop :=
  ∀ x ∈ e.wu.waves, x.ref = ref → ∃ y ∈ d.wu.waves, x = y.lessDemand f

theorem Device.Lowered.trans {ref : Nat} {f g : Byte → Nat} {a b c : Device} (h : Lowered ref f a b)
    (k : Lowered ref g b c) : Lowered ref (fun x => f x + g x) a c := fun x hx hxr => by
  obtain ⟨y, hy, rfl⟩ := k x hx hxr
  obtain ⟨z, hz, rfl⟩ := h y hy hxr
  exact ⟨z, hz, Wave.lessDemand_lessDemand f g z⟩

theorem Device.lowered_refl (ref : Nat) (d : Device) : Lowered ref (fun _ => 0) d d :=
  fun x hx _ => ⟨x, hx, x.lessDemand_zero.symm⟩

theorem Device.lowered_lowerDemand (ref : Nat) (dish : Byte) (n : Nat) (d : Device) :
    Lowered ref (fun c => if c = dish then n else 0) d (d.lowerDemand ref dish n) := fun x hx hxr => by
  obtain ⟨y, hy, rfl⟩ := List.mem_map.mp hx
  refine ⟨y, hy, ?_⟩
  have hyr : (y.ref == ref) = true := by
    split at hxr
    · next h => exact h
    · simpa using hxr
  rw [if_pos hyr, Wave.lessDemand]
  refine congrArg (fun ls => { y with lines := ls }) (List.map_congr_left fun l _ => ?_)
  by_cases hl : l.dish = dish <;> simp [hl]

theorem Device.lowered_createBatches (ref : Nat) (dish : Byte) (n : Nat) (d : Device) :
    Lowered ref (fun c => if c = dish then min (n * d.sizeOf dish) (unbatchedOf ref dish d.ti.tickets) else 0) d
      (d.createBatches ref dish n) := by
  induction n generalizing d with
  | zero => simpa [createBatches] using lowered_refl ref d
  | succ n ih =>
    rw [createBatches_succ]
    have hnil := drawTickets_eq_nil_iff ref dish (d.sizeOf dish) d.ti.tickets
    split
    · next hd =>
      have hzero : min ((n + 1) * d.sizeOf dish) (unbatchedOf ref dish d.ti.tickets) = 0 := by
        rcases hnil.mp hd with h | h <;> simp [h]
      simpa [hzero] using lowered_refl ref d
    · obtain ⟨q, hq⟩ := createBatch_eq ref dish d
      have h1 : Lowered ref (fun c => if c = dish then min (d.sizeOf dish) (unbatchedOf ref dish d.ti.tickets) else 0) d
          (d.createBatch ref dish) := by
        rw [hq, ← portionsOf_drawTickets]
        exact lowered_lowerDemand ref dish _ d
      have h2 := h1.trans (ih (d.createBatch ref dish))
      rw [createBatch_sizeOf, createBatch_tickets, unbatchedOf_drawTickets] at h2
      intro x hx hxr
      obtain ⟨y, hy, rfl⟩ := h2 x hx hxr
      refine ⟨y, hy, Wave.lessDemand_congr (fun c => ?_) y⟩
      split
      · rw [Nat.succ_mul]
        omega
      · rfl

/-! ### The dishes one after the other -/

/-- The batches that the unbatched portions of a dish fill, full but for the last (R114). -/
def Device.needOf (d : Device) (ref : Nat) (dish : Byte) : Nat :=
  (unbatchedOf ref dish d.ti.tickets + d.sizeOf dish - 1) / d.sizeOf dish

/-- A FORMED batch of the go time (R111, R114). -/
structure Device.FormedFor (d : Device) (ref : Nat) (b : Batch) : Prop where
  wave     : b.wave = ref
  state    : b.state = .formed
  some     : 1 ≤ b.portions
  atMost   : b.portions ≤ d.sizeOf b.dish
  listed   : b.portions = portionsOf b.contribs
  start    : b.ls = d.latestStart (d.goOf ref) b.dish
  release  : b.rl = b.ls - ticks (d.holdOf b.dish)

/-- From `d` to `e` the unbatched portions of the dishes `cs` of the record `ref` went into new batches. -/
structure Device.Batched (ref : Nat) (cs : List Byte) (d e : Device) : Prop where
  sp    : e.sp = d.sp
  fe    : e.fe = d.fe
  go    : e.goOf ref = d.goOf ref
  new   : ∃ new, e.bp.batches = d.bp.batches ++ new ∧ (∀ b ∈ new, b.dish ∈ cs ∧ d.FormedFor ref b) ∧
    new.length = (cs.map (d.needOf ref)).sum ∧
    ∀ c ∈ cs, ((new.filter (fun b => b.dish = c)).map (·.portions)).sum = unbatchedOf ref c d.ti.tickets ∧
      (new.filter (fun b => b.dish = c)).length = d.needOf ref c
  left  : ∀ c, unbatchedOf ref c e.ti.tickets = if c ∈ cs then 0 else unbatchedOf ref c d.ti.tickets
  lower : Lowered ref (fun c => if c ∈ cs then unbatchedOf ref c d.ti.tickets else 0) d e

/-- The batches needed hold the portions, and each of them some. -/
theorem needed_portions {u size : Nat} (h : 1 ≤ size) :
    u ≤ (u + size - 1) / size * size ∧ ∀ k, k < (u + size - 1) / size → k * size < u := by
  have hdiv := Nat.div_add_mod (u + size - 1) size
  have hmod := Nat.mod_lt (u + size - 1) h
  rw [Nat.mul_comm] at hdiv
  refine ⟨by omega, fun k hk => ?_⟩
  have hle : (k + 1) * size ≤ (u + size - 1) / size * size := Nat.mul_le_mul_right size hk
  rw [Nat.succ_mul] at hle
  omega

theorem Device.batched_formDish {d : Device} {ref : Nat} {dish : Byte} (hs : 1 ≤ d.sizeOf dish)
    (hn : ∀ b ∈ d.bp.batches, b.wave = ref → b.dish ≠ dish)
    (hroom : d.needOf ref dish + d.bp.batches.length + d.heldBack ≤ Config.batchCapacity) :
    d.Batched ref [dish] (d.formDish ref dish) := by
  have hfree : d.needOf ref dish ≤ d.poolFree := by
    unfold poolFree
    omega
  obtain ⟨hall, hsome⟩ := needed_portions (u := unbatchedOf ref dish d.ti.tickets) hs
  have hcover : unbatchedOf ref dish d.ti.tickets ≤ d.poolFree * d.sizeOf dish :=
    hall.trans (Nat.mul_le_mul_right _ hfree)
  obtain ⟨new, hb, hlen, hsum, hleft, -, hnew⟩ := createBatches_new (d := d) (ref := ref) d.poolFree hs rfl rfl
  have hlen : new.length = d.needOf ref dish := hlen.trans (Nat.min_eq_right hfree)
  have hmem : ∀ b ∈ new, b.dish = dish ∧ d.FormedFor ref b := fun b hbn => by
    obtain ⟨k, hk⟩ := List.mem_iff_getElem?.mp hbn
    have hkl : k < d.needOf ref dish := by
      rw [← hlen]
      exact (List.getElem?_eq_some_iff.mp hk).1
    obtain ⟨-, -, hw, hd, hst, -, -, -, -, -, -, -, hport, hlist, hls, hrl⟩ := hnew k b hk
    have hpos := hsome k hkl
    subst hd
    exact ⟨rfl, hw, hst, by rw [hport]; omega, by rw [hport]; exact Nat.min_le_left _ _, hlist, hls, hrl⟩
  have hfilter : new.filter (fun b => b.dish = dish) = new :=
    List.filter_eq_self.mpr fun b hb => by simpa using (hmem b hb).1
  rw [formDish_of_none hn]
  refine ⟨createBatches_sp .., createBatches_fe .., createBatches_goOf .., ⟨new, hb, fun b hb => ?_, ?_, fun c hc => ?_⟩,
    fun c => ?_, fun x hx hxr => ?_⟩
  · exact ⟨List.mem_singleton.mpr (hmem b hb).1, (hmem b hb).2⟩
  · simpa using hlen
  · obtain rfl := List.mem_singleton.mp hc
    rw [hfilter]
    exact ⟨hsum.trans (Nat.min_eq_right hcover), hlen⟩
  · by_cases hc : c = dish
    · rw [if_pos (List.mem_singleton.mpr hc), hc, hleft]
      omega
    · rw [if_neg (by simpa using hc), unbatchedOf_createBatches_other hc]
  · obtain ⟨y, hy, rfl⟩ := lowered_createBatches ref dish d.poolFree d x hx hxr
    refine ⟨y, hy, Wave.lessDemand_congr (fun c => ?_) y⟩
    by_cases hc : c = dish
    · rw [if_pos hc, if_pos (List.mem_singleton.mpr hc), Nat.min_eq_right hcover, hc]
    · rw [if_neg hc, if_neg (by simpa using hc)]

namespace Device.Batched

variable {ref : Nat} {cs cs' : List Byte} {a b c d e : Device}

theorem refl (ref : Nat) (d : Device) : d.Batched ref [] d :=
  ⟨rfl, rfl, rfl, ⟨[], by simp, by simp, by simp, by simp⟩, fun _ => by simp, by simpa using lowered_refl ref d⟩

theorem sizeOf (h : d.Batched ref cs e) (x : Byte) : e.sizeOf x = d.sizeOf x := by
  simp only [Device.sizeOf, dish?, h.sp]

theorem formedFor (h : d.Batched ref cs e) {x : Batch} (hx : e.FormedFor ref x) : d.FormedFor ref x := by
  obtain ⟨hw, hst, hsome, hmost, hlist, hls, hrl⟩ := hx
  have hstart : e.latestStart (e.goOf ref) x.dish = d.latestStart (d.goOf ref) x.dish := by
    simp only [latestStart, cfg, cookOf, dish?, h.sp, h.go]
  have hhold : e.holdOf x.dish = d.holdOf x.dish := by simp only [holdOf, dish?, h.sp]
  exact ⟨hw, hst, hsome, h.sizeOf _ ▸ hmost, hlist, hls.trans hstart, hhold ▸ hrl⟩

theorem needOf (h : d.Batched ref cs e) {x : Byte} (hx : x ∉ cs) : e.needOf ref x = d.needOf ref x := by
  rw [Device.needOf, Device.needOf, h.sizeOf, h.left, if_neg hx]

theorem append (h : a.Batched ref cs b) (k : b.Batched ref cs' c) (hd : ∀ x ∈ cs', x ∉ cs) :
    a.Batched ref (cs ++ cs') c := by
  obtain ⟨new, hb, hform, hlen, hcount⟩ := h.new
  obtain ⟨new', hb', hform', hlen', hcount'⟩ := k.new
  have hneed : cs'.map (b.needOf ref) = cs'.map (a.needOf ref) := List.map_congr_left fun x hx => h.needOf (hd x hx)
  have hnone : ∀ x, x ∉ cs → new.filter (fun y => y.dish = x) = [] := fun x hx =>
    List.filter_eq_nil_iff.mpr fun y hy => by
      rintro hyx
      exact hx (of_decide_eq_true hyx ▸ (hform y hy).1)
  have hnone' : ∀ x, x ∉ cs' → new'.filter (fun y => y.dish = x) = [] := fun x hx =>
    List.filter_eq_nil_iff.mpr fun y hy => by
      rintro hyx
      exact hx (of_decide_eq_true hyx ▸ (hform' y hy).1)
  refine ⟨k.sp.trans h.sp, k.fe.trans h.fe, k.go.trans h.go, ⟨new ++ new', ?_, fun x hx => ?_, ?_, fun x hx => ?_⟩,
    fun x => ?_, fun x hx hxr => ?_⟩
  · rw [hb', hb, List.append_assoc]
  · rcases List.mem_append.mp hx with hx | hx
    · exact ⟨List.mem_append_left _ (hform x hx).1, (hform x hx).2⟩
    · exact ⟨List.mem_append_right _ (hform' x hx).1, h.formedFor (hform' x hx).2⟩
  · rw [List.length_append, hlen, hlen', hneed, List.map_append, List.sum_append]
  · rw [List.filter_append]
    by_cases hxc : x ∈ cs'
    · obtain ⟨hsum, hl⟩ := hcount' x hxc
      rw [hnone x (hd x hxc), List.nil_append, hsum, hl, h.needOf (hd x hxc), h.left, if_neg (hd x hxc)]
      exact ⟨rfl, rfl⟩
    · rw [hnone' x hxc, List.append_nil]
      exact hcount x ((List.mem_append.mp hx).resolve_right hxc)
  · rw [k.left, h.left]
    by_cases hxc : x ∈ cs' <;> simp [hxc]
  · obtain ⟨y, hy, rfl⟩ := (h.lower.trans k.lower) x hx hxr
    refine ⟨y, hy, Wave.lessDemand_congr (fun z => ?_) y⟩
    by_cases hz : z ∈ cs'
    · simp [hz, hd z hz, h.left]
    · simp [hz]

end Device.Batched

/-- The dishes of a wave without batches, each put into batches while the pool has room for all (R112, R114). -/
theorem Device.batched_formDishes {ref : Nat} {cs : List Byte} {d : Device} (hcs : cs.Nodup)
    (hs : ∀ c ∈ cs, 1 ≤ d.sizeOf c) (hn : ∀ b ∈ d.bp.batches, b.wave = ref → b.dish ∉ cs)
    (hroom : (cs.map (d.needOf ref)).sum + d.bp.batches.length + d.heldBack ≤ Config.batchCapacity) :
    d.Batched ref cs (cs.foldl (fun x c => x.formDish ref c) d) := by
  induction cs generalizing d with
  | nil => exact .refl ref d
  | cons c cs ih =>
    obtain ⟨hc, hcs⟩ := List.nodup_cons.mp hcs
    obtain ⟨hsc, hs⟩ := List.forall_mem_cons.mp hs
    rw [List.map_cons, List.sum_cons] at hroom
    have h1 : d.Batched ref [c] (d.formDish ref c) := batched_formDish hsc
      (fun b hb hw hd => hn b hb hw (hd ▸ .head _)) (by omega)
    obtain ⟨new, hb, hform, hlen, -⟩ := h1.new
    have hout : ∀ x ∈ cs, x ∉ [c] := fun x hx hxc => hc (List.mem_singleton.mp hxc ▸ hx)
    have hneed : cs.map ((d.formDish ref c).needOf ref) = cs.map (d.needOf ref) :=
      List.map_congr_left fun x hx => h1.needOf (hout x hx)
    have hheld : (d.formDish ref c).heldBack = d.heldBack := by rw [heldBack, heldBack, h1.fe]
    refine h1.append (ih hcs (fun x hx => by rw [h1.sizeOf]; exact hs x hx) (fun b hbm hw => ?_) ?_) hout
    · rw [hb] at hbm
      rcases List.mem_append.mp hbm with hbm | hbm
      · exact fun hm => hn b hbm hw (.tail _ hm)
      · exact (List.mem_singleton.mp (hform b hbm).1) ▸ hc
    · rw [hneed, hheld, hb, List.length_append, hlen, List.map_singleton, List.sum_singleton]
      omega

end Sys2Proof.Machine
end

section
/-! The steps after entry to SET on a cooking station that has no batch of the wave (R86, R102), and the statement (O33). -/

namespace Sys2Proof.Machine

open Device

/-! ### The batches through dispatch and the evaluation -/

/-- The steps of a cooking station after the formation of a wave that entered SET (R102). -/
def Device.afterForm (ref : Nat) (d : Device) : Device := ((d.dispatch.recompute).testNoWork ref).evaluate

/-- The batches of `e` are those of `d`, some of them called. -/
structure Device.Served (d e : Device) : Prop where
  entries : e.bp.batches.map Batch.entry = d.bp.batches.map Batch.entry
  batches : ∀ y ∈ e.bp.batches, ∃ x ∈ d.bp.batches, (y.state = x.state ∨ y.state = .called) ∧
    y = { x with state := y.state, staged := y.staged, lane := y.lane, late := y.late, offerPending := y.offerPending }

namespace Device.Served

variable {a b c d e : Device}

theorem ofSame (hb : e.bp.batches = d.bp.batches) : d.Served e :=
  ⟨by rw [hb], fun y hy => ⟨y, hb ▸ hy, .inl rfl, rfl⟩⟩

theorem trans (h : a.Served b) (k : b.Served c) : a.Served c where
  entries := k.entries.trans h.entries
  batches z hz := by
    obtain ⟨y, hy, hst, hzy⟩ := k.batches z hz
    obtain ⟨x, hx, hst', hyx⟩ := h.batches y hy
    refine ⟨x, hx, ?_, ?_⟩
    · rcases hst with hst | hst
      · rcases hst' with hst' | hst'
        · exact .inl (hst.trans hst')
        · exact .inr (hst.trans hst')
      · exact .inr hst
    · rw [hzy, hyx]

theorem dispatchLane (i : Fin 8) (d : Device) : d.Served (d.dispatchLane i) := by
  refine ⟨congrArg Ledger.batches (books_dispatchLane i d), fun y hy => ?_⟩
  unfold Device.dispatchLane at hy
  split at hy
  · split at hy
    · rw [callBatch_batches] at hy
      obtain ⟨x, hx, rfl⟩ := List.mem_map.mp hy
      refine ⟨x, hx, ?_⟩
      split
      · exact ⟨.inr rfl, rfl⟩
      · exact ⟨.inl rfl, rfl⟩
    · exact ⟨y, hy, .inl rfl, rfl⟩
  · exact ⟨y, hy, .inl rfl, rfl⟩

theorem dispatch (d : Device) : d.Served d.dispatch := by
  unfold Device.dispatch
  generalize List.finRange 8 = l
  induction l generalizing d with
  | nil => exact ofSame rfl
  | cons i l ih => exact (dispatchLane i d).trans (ih _)

theorem evaluate (d : Device) : d.Served d.evaluate := by
  refine ⟨congrArg Ledger.batches (books_evaluate d), fun y hy => ?_⟩
  obtain ⟨x, hx, hyx⟩ := (Graded.evaluate d).batches y hy
  exact ⟨x, hx, .inl (by rw [hyx]), by rw [hyx]⟩

theorem testNoWork (ref : Nat) (d : Device) : d.Served (d.testNoWork ref) := by
  refine ofSame ?_
  unfold Device.testNoWork
  split
  · split <;> rfl
  · rfl

theorem recompute (d : Device) : d.Served d.recompute := ofSame rfl

theorem afterForm (ref : Nat) (d : Device) : d.Served (d.afterForm ref) :=
  (((dispatch d).trans (recompute _)).trans (testNoWork ref _)).trans (evaluate _)

end Device.Served

theorem wave_of_entries {bs cs : List Batch} {ref : Nat} (h : bs.map Batch.entry = cs.map Batch.entry)
    (hb : ∃ b ∈ bs, b.wave = ref) : ∃ c ∈ cs, c.wave = ref := by
  obtain ⟨b, hb, hbw⟩ := hb
  have hm : b.entry ∈ cs.map Batch.entry := by
    rw [← h]
    exact List.mem_map_of_mem hb
  obtain ⟨c, hc, hcb⟩ := List.mem_map.mp hm
  exact ⟨c, hc, (congrArg BatchEntry.wave hcb).trans hbw⟩

/-- A wave with a batch stays, and the books with it (R86). -/
theorem Device.books_afterForm {d : Device} {ref : Nat} (h : ∃ b ∈ d.bp.batches, b.wave = ref) :
    (d.afterForm ref).books = d.books := by
  have hserved : d.Served d.dispatch.recompute := (Served.dispatch d).trans (.recompute _)
  rw [afterForm, testNoWork_of_batch (wave_of_entries hserved.entries.symm h), books_evaluate, books_recompute,
    books_dispatch]

/-- The portions that a wave's batches of a dish list, read off the books. -/
theorem listed_entries (ref : Nat) (c : Byte) (bs : List Batch) :
    (bs.filter (fun b => b.wave = ref ∧ b.dish = c)).map (fun b => portionsOf b.contribs) =
      ((bs.map Batch.entry).filter (fun b => b.wave = ref ∧ b.dish = c)).map (fun b => portionsOf b.contribs) := by
  rw [List.filter_map, List.map_map]
  rfl

/-! ### The wave's work -/

/-- The dishes of a wave that formation takes, in the order of its lines (R112). -/
def Wave.wanted (w : Wave) : List Byte := (w.lines.filter (fun l => decide (0 < l.demand))).map (·.dish)

section
variable {d : Device} {w : Wave}

theorem Wave.mem_wanted {l : DishLine} (hnd : (w.lines.map (·.dish)).Nodup) (hl : l ∈ w.lines) :
    l.dish ∈ w.wanted ↔ 0 < l.demand := by
  constructor
  · intro h
    obtain ⟨m, hm, hml⟩ := List.mem_map.mp h
    obtain ⟨hm, hpos⟩ := List.mem_filter.mp hm
    rw [← List.inj_on_of_nodup_map hnd hm hl hml]
    simpa using hpos
  · exact fun h => List.mem_map_of_mem (List.mem_filter.mpr ⟨hl, by simpa using h⟩)

theorem Device.enterSet_bp (w : Wave) (d : Device) : (d.enterSet w).bp = d.bp := by
  obtain ⟨q, hq⟩ := enterSet_eq w d
  rw [hq]
  rfl

theorem Device.enterSet_ti (w : Wave) (d : Device) : (d.enterSet w).ti = d.ti := by
  obtain ⟨q, hq⟩ := enterSet_eq w d
  rw [hq]
  rfl

theorem Device.enterSet_wave? (hr : (d.wu.waves.map (·.ref)).Nodup) (hw : w ∈ d.wu.waves) :
    (d.enterSet w).wave? w.ref = some w.toSet := by
  have hm : w.toSet ∈ (d.enterSet w).wu.waves := by
    rw [enterSet_waves]
    exact List.mem_map.mpr ⟨w, hw, if_pos (beq_self_eq_true _)⟩
  exact wave?_of_mem (by rw [enterSet_refs]; exact hr) hm

/-- The lines of the wave that enters SET, put into batches. -/
def Device.setFormed (w : Wave) (d : Device) : Device :=
  w.wanted.foldl (fun x c => x.formDish w.ref c) (d.enterSet w)

theorem Device.afterSet_eq (hr : (d.wu.waves.map (·.ref)).Nodup) (hw : w ∈ d.wu.waves) (hcls : d.strap.cls ≠ 0) :
    (d.enterSet w).afterSet w.ref = (d.setFormed w).afterForm w.ref := by
  have hpass : (d.enterSet w).isPass = false := by
    rw [isPass, (enterSet_kept w d).strap]
    simpa using hcls
  rw [afterSet, hpass, if_neg Bool.false_ne_true, formationPass, enterSet_wave? hr hw]
  rfl

/-- What a batch of the wave is, as the statement has it: in the records before the wave entered SET. -/
structure Device.Placed (d : Device) (w : Wave) (b : Batch) : Prop where
  state   : b.state = .formed ∨ b.state = .called
  some    : 1 ≤ b.portions
  atMost  : b.portions ≤ d.sizeOf b.dish
  listed  : b.portions = portionsOf b.contribs
  start   : b.ls = w.settledGo - BitVec.ofNat 24 d.sp.config.margin - BitVec.ofNat 24 (d.cookOf b.dish)
  release : b.rl = b.ls - BitVec.ofNat 24 (d.holdOf b.dish)

/-- The wave's lines went into batches, while it had none and the pool has room for all (R112, R114). -/
theorem Device.batched_setFormed (hnone : ∀ b ∈ d.bp.batches, b.wave ≠ w.ref) (hnd : (w.lines.map (·.dish)).Nodup)
    (hl : ∀ l ∈ w.lines, 1 ≤ d.sizeOf l.dish ∧ l.demand = unbatchedOf w.ref l.dish d.ti.tickets)
    (hroom : (w.lines.map (fun l => (l.demand + d.sizeOf l.dish - 1) / d.sizeOf l.dish)).sum +
      d.bp.batches.length + d.heldBack ≤ 96) :
    (d.enterSet w).Batched w.ref w.wanted (d.setFormed w) := by
  obtain ⟨q, hq⟩ := enterSet_eq w d
  have hsize : ∀ c, (d.enterSet w).sizeOf c = d.sizeOf c := fun c => by
    simp only [sizeOf, dish?, (enterSet_kept w d).menu]
  have hheld : (d.enterSet w).heldBack = d.heldBack := by rw [heldBack, heldBack, hq]; rfl
  have hneed : (w.wanted.map ((d.enterSet w).needOf w.ref)).sum ≤
      (w.lines.map (fun l => (l.demand + d.sizeOf l.dish - 1) / d.sizeOf l.dish)).sum := by
    have hmap : w.wanted.map ((d.enterSet w).needOf w.ref) = (w.lines.filter (fun l => decide (0 < l.demand))).map
        (fun l => (l.demand + d.sizeOf l.dish - 1) / d.sizeOf l.dish) := by
      rw [Wave.wanted, List.map_map]
      refine List.map_congr_left fun l hm => ?_
      rw [Function.comp_apply, needOf, hsize, enterSet_ti, ← (hl l (List.mem_filter.mp hm).1).2]
    rw [hmap]
    exact (List.filter_sublist.map _).sum_le_sum fun _ _ => Nat.zero_le _
  refine batched_formDishes (hnd.sublist (List.filter_sublist.map _)) (fun c hc => ?_) (fun b hb hw => ?_) ?_
  · obtain ⟨l, hm, rfl⟩ := List.mem_map.mp hc
    rw [hsize]
    exact (hl l (List.mem_filter.mp hm).1).1
  · rw [enterSet_bp] at hb
    exact (hnone b hb hw).elim
  · rw [enterSet_bp, hheld]
    exact (Nat.add_le_add_right (Nat.add_le_add_right hneed _) _).trans hroom

theorem Device.Placed.ofFormed (hr : (d.wu.waves.map (·.ref)).Nodup) (hw : w ∈ d.wu.waves) {b : Batch}
    (h : (d.enterSet w).FormedFor w.ref b) : d.Placed w b := by
  obtain ⟨-, hst, hsome, hmost, hlist, hls, hrl⟩ := h
  have hk := enterSet_kept w d
  have hgo : (d.enterSet w).goOf w.ref = w.settledGo := by
    rw [goOf, enterSet_wave? hr hw]
    rfl
  refine ⟨.inl hst, hsome, ?_, hlist, ?_, ?_⟩
  · simpa only [sizeOf, dish?, hk.menu] using hmost
  · rw [hls, hgo]
    simp only [latestStart, cfg, cookOf, dish?, hk.menu, hk.config, ticks]
  · rw [hrl]
    simp only [holdOf, dish?, hk.menu, ticks]

/-- The batches of the wave once its station has gone through the steps. -/
theorem Device.settled_batches {t : Device} (hr : (d.wu.waves.map (·.ref)).Nodup) (hw : w ∈ d.wu.waves)
    (hnone : ∀ b ∈ d.bp.batches, b.wave ≠ w.ref) (hnd : (w.lines.map (·.dish)).Nodup)
    (hl : ∀ l ∈ w.lines, 1 ≤ d.sizeOf l.dish ∧ l.demand = unbatchedOf w.ref l.dish d.ti.tickets)
    (hb : (d.enterSet w).Batched w.ref w.wanted (d.setFormed w)) (ht : (d.setFormed w).Served t) :
    (∀ b ∈ t.bp.batches, b.wave = w.ref → d.Placed w b) ∧
    ∀ l ∈ w.lines, ((t.bp.batches.filter (fun b => b.wave = w.ref ∧ b.dish = l.dish)).map (·.portions)).sum = l.demand ∧
      (t.bp.batches.filter (fun b => b.wave = w.ref ∧ b.dish = l.dish)).length =
        (l.demand + d.sizeOf l.dish - 1) / d.sizeOf l.dish := by
  obtain ⟨new, happ, hform, -, hcount⟩ := hb.new
  rw [enterSet_bp] at happ
  have hplaced : ∀ b ∈ t.bp.batches, b.wave = w.ref → d.Placed w b := fun y hy hyw => by
    obtain ⟨x, hx, hst, hyx⟩ := ht.batches y hy
    rw [happ] at hx
    have hxw : x.wave = w.ref := by rw [← hyw, hyx]
    have hnew : x ∈ new := (List.mem_append.mp hx).resolve_left fun h => hnone x h hxw
    obtain ⟨hst', h1, h2, h3, h4, h5⟩ := Placed.ofFormed hr hw (hform x hnew).2
    rw [hyx]
    exact ⟨hst.elim (fun h => h ▸ hst') .inr, h1, h2, h3, h4, h5⟩
  refine ⟨hplaced, fun l hlm => ?_⟩
  have hfilter : (d.setFormed w).bp.batches.filter (fun b => b.wave = w.ref ∧ b.dish = l.dish) =
      new.filter (fun b => b.dish = l.dish) := by
    rw [happ, List.filter_append, List.filter_eq_nil_iff.mpr fun b hb h => hnone b hb (of_decide_eq_true h).1,
      List.nil_append]
    exact List.filter_congr fun b hb => by simp [(hform b hb).2.wave]
  have hlisted : (t.bp.batches.filter (fun b => b.wave = w.ref ∧ b.dish = l.dish)).map (·.portions) =
      (new.filter (fun b => b.dish = l.dish)).map (·.portions) := by
    calc _ = (t.bp.batches.filter (fun b => b.wave = w.ref ∧ b.dish = l.dish)).map (fun b => portionsOf b.contribs) :=
          List.map_congr_left fun b hb => by
            obtain ⟨hb, hk⟩ := List.mem_filter.mp hb
            exact (hplaced b hb (of_decide_eq_true hk).1).listed
      _ = (new.filter (fun b => b.dish = l.dish)).map (fun b => portionsOf b.contribs) := by
          rw [listed_entries, ht.entries, ← listed_entries, hfilter]
      _ = _ := List.map_congr_left fun b hb => ((hform b (List.mem_filter.mp hb).1).2.listed).symm
  have hlen := congrArg List.length hlisted
  rw [List.length_map, List.length_map] at hlen
  rw [hlisted, hlen]
  by_cases hpos : 0 < l.demand
  · obtain ⟨hsum, hn⟩ := hcount l.dish ((Wave.mem_wanted hnd hlm).mpr hpos)
    rw [hsum, hn, enterSet_ti, needOf, enterSet_ti, ← (hl l hlm).2]
    simp only [sizeOf, dish?, (enterSet_kept w d).menu]
    exact ⟨trivial, trivial⟩
  · have hempty : new.filter (fun b => b.dish = l.dish) = [] := List.filter_eq_nil_iff.mpr fun b hb h =>
      hpos ((Wave.mem_wanted hnd hlm).mp (of_decide_eq_true h ▸ (hform b hb).1))
    have hsize := (hl l hlm).1
    rw [hempty, Nat.eq_zero_of_not_pos hpos, Nat.zero_add, Nat.div_eq_of_lt (by omega)]
    exact ⟨rfl, rfl⟩

/-- A wave with demand has a batch then. -/
theorem Device.setFormed_batch (hnd : (w.lines.map (·.dish)).Nodup)
    (hl : ∀ l ∈ w.lines, l.demand = unbatchedOf w.ref l.dish d.ti.tickets)
    (hb : (d.enterSet w).Batched w.ref w.wanted (d.setFormed w)) {l : DishLine} (hlm : l ∈ w.lines) (hpos : 0 < l.demand) :
    ∃ b ∈ (d.setFormed w).bp.batches, b.wave = w.ref := by
  obtain ⟨new, happ, hform, -, hcount⟩ := hb.new
  obtain ⟨hsum, -⟩ := hcount l.dish ((Wave.mem_wanted hnd hlm).mpr hpos)
  rw [enterSet_ti, ← hl l hlm] at hsum
  cases new with
  | nil => simp [← hsum] at hpos
  | cons b bs => exact ⟨b, happ ▸ List.mem_append_right _ (.head _), (hform b (.head _)).2.wave⟩

theorem Device.setFormed_refs (w : Wave) (d : Device) :
    (d.setFormed w).wu.waves.map (·.ref) = d.wu.waves.map (·.ref) :=
  (SameFiles.foldl (fun x c => SameFiles.formDish w.ref c x) w.wanted (d.enterSet w)).refs.trans (enterSet_refs w d)

/-- The demand of the wave went into batches (R114). -/
theorem Device.setFormed_demand (hr : (d.wu.waves.map (·.ref)).Nodup) (hw : w ∈ d.wu.waves)
    (hnd : (w.lines.map (·.dish)).Nodup) (hl : ∀ l ∈ w.lines, l.demand = unbatchedOf w.ref l.dish d.ti.tickets)
    (hb : (d.enterSet w).Batched w.ref w.wanted (d.setFormed w)) {x : Wave} (hx : x ∈ (d.setFormed w).wu.waves)
    (hxr : x.ref = w.ref) : ∀ l ∈ x.lines, l.demand = 0 := by
  obtain ⟨z, hz, rfl⟩ := hb.lower x hx hxr
  obtain rfl := eq_toSet_of_mem hr hw hz hxr
  intro m hm
  obtain ⟨k, hk, rfl⟩ := List.mem_map.mp hm
  dsimp only
  by_cases hkpos : 0 < k.demand
  · rw [if_pos ((Wave.mem_wanted hnd hk).mpr hkpos), enterSet_ti, ← hl k hk, Nat.sub_self]
  · omega

/-- A wave with demand stays, its demand in batches (R114). -/
theorem Device.settled_work {t : Device} (hr : (d.wu.waves.map (·.ref)).Nodup) (hw : w ∈ d.wu.waves)
    (hnd : (w.lines.map (·.dish)).Nodup) (hl : ∀ l ∈ w.lines, l.demand = unbatchedOf w.ref l.dish d.ti.tickets)
    (hb : (d.enterSet w).Batched w.ref w.wanted (d.setFormed w)) (ht : t.books = (d.setFormed w).books) :
    (∀ l ∈ w.lines, 0 < l.demand → unbatchedOf w.ref l.dish t.ti.tickets = 0) ∧
      ∃ x ∈ t.wu.waves, x.ref = w.ref ∧ ∀ l ∈ x.lines, l.demand = 0 := by
  have enterSet_tickets : t.ti.tickets = (d.setFormed w).ti.tickets := congrArg Ledger.tickets ht
  have hwaves : t.wu.waves.map Wave.entry = (d.setFormed w).wu.waves.map Wave.entry := congrArg Ledger.waves ht
  refine ⟨fun m hm hpos => ?_, ?_⟩
  · rw [enterSet_tickets, hb.left, if_pos ((Wave.mem_wanted hnd hm).mpr hpos)]
  · have hm : w.ref ∈ (d.setFormed w).wu.waves.map (·.ref) := by
      rw [setFormed_refs]
      exact List.mem_map_of_mem hw
    obtain ⟨x, hx, hxr⟩ := List.mem_map.mp hm
    have hy : x.entry ∈ t.wu.waves.map Wave.entry := by
      rw [hwaves]
      exact List.mem_map_of_mem hx
    obtain ⟨y, hy, hyx⟩ := List.mem_map.mp hy
    have hyr : y.ref = x.ref := congrArg WaveEntry.ref hyx
    have hylines : y.lines = x.lines := congrArg WaveEntry.lines hyx
    refine ⟨y, hy, hyr.trans hxr, ?_⟩
    rw [hylines]
    exact setFormed_demand hr hw hnd hl hb hx hxr

/-- The no-work test retires a SET wave with neither demand nor batch (R86). -/
theorem Device.testNoWork_retires {ref : Nat} (hb : ∀ b ∈ d.bp.batches, b.wave ≠ ref)
    (hs : ∀ x ∈ d.wu.waves, x.ref = ref → x.state = .goSet ∧ ∀ l ∈ x.lines, l.demand = 0) :
    ∀ x ∈ (d.testNoWork ref).wu.waves, x.ref ≠ ref := by
  intro x hx
  unfold testNoWork at hx
  split at hx
  · next v hv =>
    have hvr : v.ref = ref := by simpa using List.find?_some hv
    obtain ⟨hstate, hlines⟩ := hs v (List.mem_of_find?_eq_some hv) hvr
    have hnone : d.batchesOf v.ref = [] := List.filter_eq_nil_iff.mpr fun b hm => by simpa [hvr] using hb b hm
    have hout : d.noWork v = true := by
      rw [noWork, hstate, hnone, List.all_eq_true.mpr fun l hl => by simpa using hlines l hl]
      rfl
    rw [if_pos hout] at hx
    simpa using (List.mem_filter.mp hx).2
  · next hv => simpa using List.find?_eq_none.mp hv x hx

/-- A wave without demand and batch is retired, once its station has gone on to the no-work test (R86). -/
theorem Device.retired_of_idle {e : Device} (hr : (d.wu.waves.map (·.ref)).Nodup) (hw : w ∈ d.wu.waves)
    (hnone : ∀ b ∈ d.bp.batches, b.wave ≠ w.ref) (hzero : ∀ l ∈ w.lines, l.demand = 0)
    (hserved : (d.enterSet w).Served e) (hpast : (d.enterSet w).Past 0 e) (hbooks : e.books = (d.enterSet w).books) :
    ∀ x ∈ (e.testNoWork w.ref).wu.waves, x.ref ≠ w.ref := by
  have hwaves : e.wu.waves.map Wave.entry = (d.enterSet w).wu.waves.map Wave.entry := congrArg Ledger.waves hbooks
  refine testNoWork_retires (fun b hb hbw => ?_) fun x hx hxr => ?_
  · obtain ⟨c, hc, hcw⟩ := wave_of_entries hserved.entries ⟨b, hb, hbw⟩
    rw [enterSet_bp] at hc
    exact hnone c hc hcw
  · obtain ⟨y, hy, hyx⟩ := hpast.mem_waves hx
    have hyset := eq_toSet_of_mem hr hw hy ((congrArg Wave.ref hyx).trans hxr)
    have hz : x.entry ∈ (d.enterSet w).wu.waves.map Wave.entry := by
      rw [← hwaves]
      exact List.mem_map_of_mem hx
    obtain ⟨z, hz, hzx⟩ := List.mem_map.mp hz
    have hzset := eq_toSet_of_mem hr hw hz ((congrArg WaveEntry.ref hzx).trans hxr)
    have hstate : y.state = x.state := (congrArg Wave.state hyx :)
    have hlines : z.lines = x.lines := congrArg WaveEntry.lines hzx
    rw [hyset] at hstate
    rw [hzset] at hlines
    exact ⟨hstate.symm, hlines ▸ hzero⟩

theorem Device.settled_idle (hr : (d.wu.waves.map (·.ref)).Nodup) (hw : w ∈ d.wu.waves)
    (hnone : ∀ b ∈ d.bp.batches, b.wave ≠ w.ref) (hzero : ∀ l ∈ w.lines, l.demand = 0) :
    ∀ x ∈ ((d.setFormed w).afterForm w.ref).wu.waves, x.ref ≠ w.ref := by
  have hwanted : w.wanted = [] := by
    rw [Wave.wanted, List.filter_eq_nil_iff.mpr fun l hl => by simp [hzero l hl], List.map_nil]
  have hform : d.setFormed w = d.enterSet w := by rw [setFormed, hwanted, List.foldl_nil]
  have hgone := retired_of_idle hr hw hnone hzero ((Served.dispatch _).trans (.recompute _))
    ((Past.dispatch _).trans (.recompute _)) (by rw [books_recompute, books_dispatch])
  rw [hform, afterForm]
  intro x hx
  obtain ⟨y, hy, hxy, -⟩ := evaluate_est hx
  rw [hxy]
  exact hgone y hy

end
end Sys2Proof.Machine

namespace Sys2Proof

open Machine Machine.Device

/-- Settles O33: the record and its notices at entry to SET, and on a cooking station the batches of its lines, by induction
on the lines. -/
theorem waveCloseSettles : Obligations.WaveCloseSettles := by
  intro s pass num w hids hnamed
  obtain ⟨hw, -, -⟩ := named?_eq_some hnamed
  have hr : (s.dev.wu.waves.map (·.ref)).Nodup := hids.1
  refine ⟨fun hs hc => ?_, fun counted go close hs hc ht hcounted hgo => ?_⟩
  · have heff : (Instr.waveClose pass num).effect s.dev = (s.dev.enterSettling w.ref).evaluate := by
      change s.dev.onNamed pass num Device.waveClose = _
      rw [onNamed, hnamed]
      exact waveClose_eq hr hw hs hc
    have hgr := Graded.evaluate (s.dev.enterSettling w.ref)
    refine ⟨_, exec_of_effect heff, rfl, (kept_evaluate _ _).mpr (enterSettling_kept _ _), hgr.ti, hgr.lu, hgr.iu,
      fun hm => ?_, ?_, fun x hx => mem_closed hx⟩
    · have hm := ready_of_mem_evaluate (waveStateOf_enterSettling w.ref s.dev) hm
      simpa [TxEntry.sameKey] using (List.mem_filter.mp hm).2
    · refine (SameFiles.evaluate _).refs.trans ?_
      rw [enterSettling_waves, List.map_map]
      refine List.map_congr_left fun x _ => ?_
      simp only [Function.comp_apply]
      split <;> rfl
  · obtain rfl : w.counted = counted := (Wave.counted_of_close hc).trans hcounted.symm
    obtain rfl : w.settledGo = go := (Wave.settledGo_eq w).trans hgo.symm
    have heff : (Instr.waveSettle pass num).effect s.dev = (s.dev.enterSet w).afterSet w.ref := by
      change s.dev.onNamed pass num Device.waveSettle = _
      rw [onNamed, hnamed]
      exact waveSettle_eq hr hw hs hc ht
    have hkept : s.dev.Kept ((s.dev.enterSet w).afterSet w.ref) := by
      rw [← heff]
      exact onNamed_kept pass num _ (fun r x => waveSettle_kept r x) s.dev
    refine ⟨_, exec_of_effect heff, rfl, hkept, fun x hx hxr => ?_, fun hg hlen => ?_, fun hcls => ?_,
      fun hcls hnone hnd hl hroom => ?_⟩
    · have hsteady := settled_record hr hw hx hxr
      refine ⟨congrArg Wave.state hsteady, congrArg Wave.go hsteady, congrArg Wave.slips hsteady, ?_,
        congrArg Wave.far hsteady, (congrArg Wave.participants hsteady :)⟩
      rw [← Wave.heardLate_of_close hc]
      exact congrArg Wave.partialMark hsteady
    · obtain ⟨hset, hpart, hfar⟩ := mem_notices_enterSet (w := w) hg hlen
      refine ⟨mem_notices_afterSet _ hset, fun h1 h2 => mem_notices_afterSet _ (hpart .link ?_),
        fun h1 h2 => mem_notices_afterSet _ (hpart .heardFrom ?_), fun h1 h2 => mem_notices_afterSet _ (hpart .both ?_),
        fun p hp => mem_notices_afterSet _ (hfar p hp)⟩
      all_goals rw [Wave.partialCause, h1, Wave.heardLate_of_close hc, h2]
    · rw [afterSet_of_pass ((enterSet_kept w s.dev).strap ▸ hcls)]
      obtain ⟨q, hq⟩ := enterSet_eq w s.dev
      refine ⟨enterSet_refs w s.dev, enterSet_ti w s.dev, ?_, enterSet_bp w s.dev, ?_, ?_⟩
      all_goals rw [hq]; rfl
    · have hdemand : ∀ l ∈ w.lines, l.demand = unbatchedOf w.ref l.dish s.dev.ti.tickets := fun l hm => (hl l hm).2
      have hb := batched_setFormed hnone hnd hl hroom
      have hbooks : (∃ l ∈ w.lines, 0 < l.demand) →
          ((s.dev.setFormed w).afterForm w.ref).books = (s.dev.setFormed w).books := fun ⟨_, hm, hpos⟩ =>
        books_afterForm (setFormed_batch hnd hdemand hb hm hpos)
      have hidle := settled_idle hr hw hnone
      have hserved := Served.afterForm w.ref (s.dev.setFormed w)
      rw [afterSet_eq hr hw hcls]
      dsimp only
      generalize (s.dev.setFormed w).afterForm w.ref = t at hbooks hidle hserved ⊢
      obtain ⟨hplaced, hcount⟩ := settled_batches hr hw hnone hnd hl hb hserved
      have hwork := fun h => settled_work hr hw hnd hdemand hb (hbooks h)
      refine ⟨fun l hm => ⟨(hcount l hm).1, (hcount l hm).2, fun hpos => (hwork ⟨l, hm, hpos⟩).1 l hm hpos⟩,
        fun b hbm hbw => ?_, hidle, fun h => (hwork h).2⟩
      obtain ⟨hst, h1, h2, h3, h4, h5⟩ := hplaced b hbm hbw
      exact ⟨hst, h1, h2, h3, h4, h5⟩

end Sys2Proof
end
